-- ==== Sys2Proof/Word.lean ====
section
/-! DEFINITION. Words, register numbers and the small named fields of an instruction (R3, R4, R16, R65, R77). -/

namespace Sys2Proof

/-- A byte of memory. -/
abbrev Byte := BitVec 8
/-- A scalar register's value (R16). -/
abbrev Word64 := BitVec 64
/-- One 2048-bit queue entry (R166). -/
abbrev Vec := BitVec 2048
/-- A 512-bit tensor descriptor image (R114). -/
abbrev Desc := BitVec 512

/-- A scalar register number, s0 to s63 (R25). -/
abbrev SReg := BitVec 6
/-- A predicate number, p0 to p63 (R25). -/
abbrev PReg := BitVec 6
/-- A queue number, q0 to q63 (R25). -/
abbrev QReg := BitVec 6
/-- An accumulator number, c0 to c15 (R25). -/
abbrev AReg := BitVec 4
/-- A descriptor number, d0 to d31 (R25). -/
abbrev DReg := BitVec 5
/-- A ring number, g0 to g15 (R25). -/
abbrev GReg := BitVec 4
/-- A semaphore number, w0 to w31 (R25). -/
abbrev WReg := BitVec 5
/-- A teller holding register, h0 to h7 (R25). -/
abbrev HReg := BitVec 3

/-- The four variants of the binary8 family (R86): signed or unsigned, extended or finite. -/
inductive B8Var where
  | se | sf | ue | uf
deriving DecidableEq, Repr

/-- The element formats of R77. `b8 v p` is the binary8 format of precision p + 1. -/
inductive Fmt where
  | f64 | f32 | bf16 | f16
  | int64 | int32 | int16 | int8
  | nat64 | nat32 | nat16 | nat8
  | int4 | nat4 | nfmt | e8m0
  | b8 (v : B8Var) (p : Fin 7)
deriving DecidableEq, Repr

/-- The rounding modes of R65. -/
inductive RM where
  | rne | rtz | rdn | rup | sr
deriving DecidableEq, Repr

/-- The conditions of R65. -/
inductive Cond where
  | eq | ne | lt | le | gt | ge | un | ord
deriving DecidableEq, Repr

/-- The scopes of R65. -/
inductive Scope where
  | core | die | pkg | job
deriving DecidableEq, Repr

/-- The path classes of R65, bit 0 to bit 6 of a class set. -/
inductive PathClass where
  | core | copy | gather | matrix | coll | teller | plan
deriving DecidableEq, Repr

/-- A guard: predicate and negation (R34, R60, R61). -/
structure Guard where
  neg : Bool
  pred : PReg
deriving DecidableEq, Repr

/-- A queue source: popped, or peeked when marked .pk (R35, R167). -/
structure QSrc where
  q : QReg
  peek : Bool
deriving DecidableEq, Repr

/-- A ring source of a pass, with its keep bit (R221, R222). -/
structure GSrc where
  g : GReg
  keep : Bool
deriving DecidableEq, Repr

/-- The completion signal of a C-slot instruction (R64, R145). -/
structure Signal where
  sem : WReg
  sig : Bool
deriving DecidableEq, Repr

/-- Who writes a control-die register (R5, R104, R320): the control port CP0 or CP1, a general core in S or M mode, or the
tender core of a compute core. -/
inductive Writer where
  | cp (one : Bool)
  | general
  | tender (core : Nat)
deriving DecidableEq, Repr

/-- A Quay Link flit: the header fields of R158 and the payload bytes; `fin` is END. -/
structure Flit where
  kind : Nat
  group : Nat
  srcm : Nat
  dstm : Nat
  tag : Nat
  fin : Bool
  len : Nat
  offset : Nat
  payload : List Byte
  /-- The payload is poisoned (R362). -/
  bad : Bool := false
deriving DecidableEq, Repr

/-- What an access from outside the compute cores does (R302, R420): a load, a store, or an atomic exchange, sum or
logical combination. -/
inductive BusOp where
  | load | store | swap | add | and | or | xor | min | max | minu | maxu
deriving DecidableEq, Repr

/-- An access of a general core, of another module's agent or of a device: device number (0 for the others), the address it presents, its
size in bytes and its data (R302, R420). -/
structure BusAccess where
  dev : Nat
  op : BusOp
  addr : Nat
  data : List Byte
  /-- The module whose agent makes the access, and whether it is a core's CORE-path store, which registers an owner (R296, R386). -/
  peer : Option Nat := none
  owns : Bool := false
  /-- What else a device's request says to the IOMMU (R421): its process, whether it is privileged, whether it reads code, and its address
  type (0 untranslated, 1 a request for a translation, 2 translated). -/
  pasid : Option Nat := none
  priv : Bool := false
  exec : Bool := false
  ats : Nat := 0
deriving DecidableEq, Repr

/-- A place in a protected array whose stored bits an ARRAY_ERROR damages (R361). -/
inductive ArrayPlace where
  | sector (addr : Nat)
  | l2 (addr : Nat)
  | scratch (core off : Nat)
  | queue (core q entry : Nat)
  | acc (core a row : Nat)
  | scalar (core n : Nat)
  | pred (core n : Nat)
  | l1 (core addr : Nat)
  | slice (addr : Nat)
  | routine (slice tenant id : Nat)
  | pageState (granule : Nat)
deriving DecidableEq, Repr

end Sys2Proof
end

