-- ==== Sys2Proof/Machine/Bits.lean ====
section
/-! DEFINITION. Bit fields, sign extension, byte order and packed lanes (R2, R3, R7, R82, R166). -/

namespace Sys2Proof.Machine

/-- Bits(x, hi, lo) of R7, with `n` = hi - lo + 1 bits taken from bit `lo`. -/
def field (x lo n : Nat) : Nat := (x >>> lo) % 2 ^ n

/-- Bit `i` of `x`. -/
def bitAt (x i : Nat) : Bool := x.testBit i

/-- `x` with its `n` bits from bit `lo` replaced by the low bits of `v`. -/
def setField (x lo n v : Nat) : Nat :=
  (x >>> (lo + n)) <<< (lo + n) ||| (v % 2 ^ n) <<< lo ||| x % 2 ^ lo

/-- The value of the low `w` bits of `x`, read as two's complement (R82). -/
def signedOf (w x : Nat) : Int :=
  let y := x % 2 ^ w
  if w ≠ 0 ∧ y.testBit (w - 1) then (y : Int) - (2 ^ w : Nat) else y

/-- The low `w` bits of an integer in two's complement. -/
def wrap (w : Nat) (v : Int) : Nat := (v % ((2 ^ w : Nat) : Int)).toNat

/-- One bit as a number. -/
def bit (b : Bool) : Nat := if b then 1 else 0

/-- Bytes to a number, little-endian (R3). -/
def ofBytes : List Byte → Nat
  | [] => 0
  | b :: bs => b.toNat + 256 * ofBytes bs

/-- The `n` low bytes of a number, little-endian (R3). -/
def toBytes : Nat → Nat → List Byte
  | 0, _ => []
  | n + 1, x => BitVec.ofNat 8 x :: toBytes n (x / 256)

/-- Lane `j` of a packed vector of `w`-bit lanes (R166). -/
def laneOf (w x j : Nat) : Nat := field x (w * j) w

/-- A vector of `n` lanes of `w` bits, lane `j` holding the low bits of `f j` (R166). -/
def ofLanes (w n : Nat) (f : Nat → Nat) : Nat :=
  (List.range n).foldr (fun j acc => (f j % 2 ^ w) <<< (w * j) ||| acc) 0

/-- The number of bits needed to write `x`: 0 for 0. -/
def bitLen (x : Nat) : Nat := if x = 0 then 0 else x.log2 + 1

/-- Ceiling division. -/
def ceilDiv (a b : Nat) : Nat := (a + b - 1) / b

/-- The integer square root by bitwise search from bit `k` downward. -/
def isqrtFrom (x : Nat) : Nat → Nat → Nat
  | 0, r => if (r + 1) * (r + 1) ≤ x then r + 1 else r
  | k + 1, r =>
    let t := r + 2 ^ (k + 1)
    isqrtFrom x k (if t * t ≤ x then t else r)

/-- The largest `r` with `r * r ≤ x`. -/
def isqrt (x : Nat) : Nat := isqrtFrom x (bitLen x / 2) 0

/-- Whether a 64-bit address is valid: bits 63:57 equal bit 56 (R107). -/
def vaValid (a : Nat) : Bool :=
  let t := field a 56 8
  t == 0 || t == 255

/-- The sum of two 64-bit addresses, modulo 2^64. -/
def addAddr (a : Nat) (d : Int) : Nat := wrap 64 (a + d)

/-- The sum of an address and a natural offset, modulo 2^64. -/
def addr (a d : Nat) : Nat := (a + d) % 2 ^ 64

end Sys2Proof.Machine
end

