-- ==== Sys2Proof/Machine/Formats.lean ====
section
/-! DEFINITION. The number formats: widths, values of codes, rounding, conversion and comparison (R80 to R95). -/

namespace Sys2Proof.Machine

/-! ### Format codes and widths -/

/-- The format a code of R77 names; reserved codes name none. -/
def fmtOfCode (c : Nat) : Option Fmt :=
  match c with
  | 0 => some .f64 | 1 => some .f32 | 2 => some .bf16 | 3 => some .f16
  | 4 => some .int64 | 5 => some .int32 | 6 => some .int16 | 7 => some .int8
  | 8 => some .nat64 | 9 => some .nat32 | 10 => some .nat16 | 11 => some .nat8
  | 12 => some .int4 | 13 => some .nat4 | 14 => some .nfmt | 15 => some .e8m0
  | 16 => some (.b8 .se 0) | 17 => some (.b8 .se 1) | 18 => some (.b8 .se 2) | 19 => some (.b8 .se 3)
  | 20 => some (.b8 .se 4) | 21 => some (.b8 .se 5) | 22 => some (.b8 .se 6)
  | 24 => some (.b8 .sf 0) | 25 => some (.b8 .sf 1) | 26 => some (.b8 .sf 2) | 27 => some (.b8 .sf 3)
  | 28 => some (.b8 .sf 4) | 29 => some (.b8 .sf 5) | 30 => some (.b8 .sf 6)
  | 32 => some (.b8 .ue 0) | 33 => some (.b8 .ue 1) | 34 => some (.b8 .ue 2) | 35 => some (.b8 .ue 3)
  | 36 => some (.b8 .ue 4) | 37 => some (.b8 .ue 5) | 38 => some (.b8 .ue 6)
  | 40 => some (.b8 .uf 0) | 41 => some (.b8 .uf 1) | 42 => some (.b8 .uf 2) | 43 => some (.b8 .uf 3)
  | 44 => some (.b8 .uf 4) | 45 => some (.b8 .uf 5) | 46 => some (.b8 .uf 6)
  | _ => none

/-- The code of a format (R37, R77). -/
def codeOfFmt : Fmt → Nat
  | .f64 => 0 | .f32 => 1 | .bf16 => 2 | .f16 => 3
  | .int64 => 4 | .int32 => 5 | .int16 => 6 | .int8 => 7
  | .nat64 => 8 | .nat32 => 9 | .nat16 => 10 | .nat8 => 11
  | .int4 => 12 | .nat4 => 13 | .nfmt => 14 | .e8m0 => 15
  | .b8 .se p => 16 + p | .b8 .sf p => 24 + p | .b8 .ue p => 32 + p | .b8 .uf p => 40 + p

/-- FMTN's three fields (R83): the width of a narrow integer, its signedness and its reserved code. -/
structure Fmtn where
  width : Nat
  signed : Bool
  sym : Bool
  subst : Nat
deriving DecidableEq, Repr

/-- The fields of an FMTN image (R83). A reserved WIDTH never stands in FMTN; it is read as 8 bits here. -/
def fmtnOf (x : Nat) : Fmtn where
  width := match field x 1 3 with | 0 => 2 | 1 => 3 | 2 => 4 | 3 => 6 | _ => 8
  signed := bitAt x 0
  sym := bitAt x 4
  subst := field x 5 8

/-- The container of a narrow integer (R84). -/
def containerOf (w : Nat) : Nat :=
  if w ≤ 2 then 2 else if w ≤ 4 then 4 else 8

/-- Element width in bits as a vector lays elements out: the container for nfmt (R77, R84). -/
def fmtWidth (n : Fmtn) : Fmt → Nat
  | .f64 | .int64 | .nat64 => 64
  | .f32 | .int32 | .nat32 => 32
  | .bf16 | .f16 | .int16 | .nat16 => 16
  | .int8 | .nat8 | .e8m0 | .b8 _ _ => 8
  | .int4 | .nat4 => 4
  | .nfmt => containerOf n.width

/-- The number of code bits of an element: WIDTH for nfmt (R118, R182). -/
def codeWidth (n : Fmtn) : Fmt → Nat
  | .nfmt => n.width
  | f => fmtWidth n f

/-- The formats of IEEE form (R80). -/
def fmtIsIeee : Fmt → Bool
  | .f64 | .f32 | .bf16 | .f16 => true
  | _ => false

/-- The integer formats of 8 to 64 bits, set IW of R69. -/
def fmtIsIW : Fmt → Bool
  | .int64 | .int32 | .int16 | .int8 | .nat64 | .nat32 | .nat16 | .nat8 => true
  | _ => false

/-- The binary8 formats, set B8 of R69. -/
def fmtIsB8 : Fmt → Bool
  | .b8 _ _ => true
  | _ => false

/-- The integer formats of any width (R82, R83). -/
def fmtIsInt : Fmt → Bool
  | .int4 | .nat4 | .nfmt => true
  | f => fmtIsIW f

/-- Whether elements of an integer format are read signed (R82, R83). -/
def fmtSigned (n : Fmtn) : Fmt → Bool
  | .int64 | .int32 | .int16 | .int8 | .int4 => true
  | .nfmt => n.signed
  | _ => false

/-! ### Values -/

/-- The value of an element: a NaN, an infinity, or (-1)^neg * m * 2^e. A zero keeps its sign. -/
inductive Val where
  | nan (signalling : Bool)
  | inf (neg : Bool)
  | fin (neg : Bool) (m : Nat) (e : Int)
deriving DecidableEq, Repr

/-- A positive zero. -/
def Val.zero : Val := .fin false 0 0

/-- The value of an integer. -/
def Val.ofInt (i : Int) : Val := .fin (i < 0) i.natAbs 0

/-- Whether a value is a NaN. -/
def Val.isNan : Val → Bool
  | .nan _ => true
  | _ => false

/-- Whether a value is a signalling NaN. -/
def Val.isSnan : Val → Bool
  | .nan s => s
  | _ => false

/-- Whether a value is finite (R154, R242). -/
def Val.isFinite : Val → Bool
  | .fin _ _ _ => true
  | _ => false

/-- Whether a value is a zero of either sign. -/
def Val.isZero : Val → Bool
  | .fin _ 0 _ => true
  | _ => false

/-- The value with its sign inverted. -/
def Val.neg : Val → Val
  | .nan s => .nan s
  | .inf n => .inf (!n)
  | .fin n m e => .fin (!n) m e

/-- The magnitude of a value. -/
def Val.abs : Val → Val
  | .nan s => .nan s
  | .inf _ => .inf false
  | .fin _ m e => .fin false m e

/-- The finite magnitudes of a floating-point format: codes 0 to `maxCode` in ascending value, with
precision `p` and the grid of the subnormals at 2^`qmin` (R80, R86). -/
structure Grid where
  p : Nat
  qmin : Int
  maxCode : Nat
deriving DecidableEq, Repr

/-- The exponent field width and bias of a binary8 format (R86). -/
def b8Width (v : B8Var) (p : Nat) : Nat :=
  match v with
  | .se | .sf => 8 - p
  | .ue | .uf => 9 - p

/-- The grid of a floating-point format (R80, R86 to R88). -/
def gridOf : Fmt → Option Grid
  | .f64 => some ⟨53, -1074, 0x7FEFFFFFFFFFFFFF⟩
  | .f32 => some ⟨24, -149, 0x7F7FFFFF⟩
  | .bf16 => some ⟨8, -133, 0x7F7F⟩
  | .f16 => some ⟨11, -24, 0x7BFF⟩
  | .b8 v p =>
    let P := p.val + 1
    let w := b8Width v P
    let bias : Nat := 2 ^ (w - 1)
    some ⟨P, 1 - (bias : Int) - (P - 1 : Nat),
      match v with | .se => 0x7E | .sf => 0x7F | .ue => 0xFD | .uf => 0xFE⟩
  | _ => none

/-- The magnitude of a code of a grid, as m * 2^e (R86). -/
def gridVal (g : Grid) (c : Nat) : Nat × Int :=
  let E := c >>> (g.p - 1)
  let T := c % 2 ^ (g.p - 1)
  if E = 0 then (T, g.qmin) else (T + 2 ^ (g.p - 1), g.qmin + (E - 1 : Nat))

/-- Exponent and trailing significand widths of the IEEE formats (R80). -/
def ieeeShape : Fmt → Nat × Nat
  | .f64 => (11, 52)
  | .f32 => (8, 23)
  | .bf16 => (8, 7)
  | _ => (5, 10)

/-- The value of an integer element, with the reserved code of nfmt replaced (R82, R84). -/
def intVal (n : Fmtn) (f : Fmt) (x : Nat) : Int :=
  let w := codeWidth n f
  let s := fmtSigned n f
  let c := x % 2 ^ w
  let rd (c : Nat) : Int := if s then signedOf w c else (c : Int)
  match f with
  | .nfmt =>
    let rsv := if s then 2 ^ (w - 1) else 2 ^ w - 1
    if n.sym && c == rsv then
      let c' := n.subst % 2 ^ w
      if c' = rsv then 0 else rd c'
    else rd c
  | _ => rd c

/-- The value of an element (R80 to R89). -/
def valueOf (n : Fmtn) (f : Fmt) (x : Nat) : Val :=
  match f with
  | .f64 | .f32 | .bf16 | .f16 =>
    let (ew, tw) := ieeeShape f
    let neg := bitAt x (ew + tw)
    let E := field x tw ew
    let T := field x 0 tw
    if E = 2 ^ ew - 1 then
      if T = 0 then .inf neg else .nan (!bitAt T (tw - 1))
    else
      match gridOf f with
      | some g => let (m, e) := gridVal g (field x 0 (ew + tw)); .fin neg m e
      | none => .zero
  | .b8 v _ =>
    let c := x % 256
    let (nanC, infC, ninfC) : Nat × Option Nat × Option Nat :=
      match v with
      | .se => (0x80, some 0x7F, some 0xFF)
      | .sf => (0x80, none, none)
      | .ue => (0xFF, some 0xFE, none)
      | .uf => (0xFF, none, none)
    if c = nanC then .nan false
    else if some c = infC then .inf false
    else if some c = ninfC then .inf true
    else match gridOf f with
      | some g =>
        match v with
        | .se | .sf => let (m, e) := gridVal g (c % 128); .fin (bitAt c 7) m e
        | .ue | .uf => let (m, e) := gridVal g c; .fin false m e
      | none => .zero
  | .e8m0 =>
    let c := x % 256
    if c = 0xFF then .nan false else .fin false 1 ((c : Int) - 127)
  | _ => .ofInt (intVal n f x)

/-! ### Flags -/

/-- The sticky flags of R93: NX, UF, OF, DZ, NV, SATD from bit 0 upward. -/
abbrev Flags := BitVec 6
def flagNX : Flags := 0x01#6
def flagUF : Flags := 0x02#6
def flagOF : Flags := 0x04#6
def flagDZ : Flags := 0x08#6
def flagNV : Flags := 0x10#6
def flagSATD : Flags := 0x20#6

/-- A set of flags if a condition holds. -/
def flagIf (b : Bool) (f : Flags) : Flags := if b then f else 0

/-! ### Rounding -/

/-- An exact magnitude to be rounded: between m * 2^e and (m + 1) * 2^e, equal to the former unless `sticky`.
A quotient, a root or a function value carries enough bits in `m` for every decision of R90 and R92. -/
structure Exact where
  neg : Bool
  m : Nat
  e : Int
  sticky : Bool
deriving DecidableEq, Repr

/-- The random bits of stochastic rounding: seed, lane and index (R92). -/
structure Seed where
  seed : Nat
  lane : Nat
  index : Nat
deriving DecidableEq, Repr

/-- The 24 bits that R92 draws. -/
def srBits (s : Seed) : Nat :=
  let m64 := 2 ^ 64
  let z := (s.seed + 0x9E3779B97F4A7C15 * (1 + s.lane + 256 * s.index)) % m64
  let z := ((z ^^^ (z >>> 30)) * 0xBF58476D1CE4E5B9) % m64
  let z := ((z ^^^ (z >>> 27)) * 0x94D049BB133111EB) % m64
  let z := z ^^^ (z >>> 31)
  field z 40 24

/-- One rounding decision between a grid point and the next: the remainder is `rem` / 2^`sh` of the step,
and a little more when `sticky` (R90, R92). `even` says whether the lower point is even. -/
def roundUp (mode : RM) (sd : Seed) (neg even : Bool) (rem sh : Nat) (sticky : Bool) : Bool :=
  if rem = 0 ∧ !sticky then false
  else match mode with
    | .rne =>
      let half := 2 ^ sh
      if 2 * rem > half then true
      else if 2 * rem = half then sticky || !even
      else false
    | .rtz => false
    | .rdn => neg
    | .rup => !neg
    | .sr => decide (srBits sd < (rem * 2 ^ 24) >>> sh)

/-- Where rounding lands: the magnitude code (which may lie beyond the grid's last), inexactness and tininess. -/
structure Rounded where
  code : Nat
  inexact : Bool
  tiny : Bool
  up : Bool
deriving DecidableEq, Repr

/-- Split m * 2^e at the weight 2^q: the whole part, and the remainder over 2^sh (R90). -/
def splitAt (m : Nat) (e q : Int) : Nat × Nat × Nat :=
  if q ≤ e then (m <<< (e - q).toNat, 0, 0)
  else
    let sh := (q - e).toNat
    (m >>> sh, m % 2 ^ sh, sh)

/-- Round a magnitude to a grid extended without an upper bound (R90, R92). `odd` shifts the parity of codes,
for e8m0. At precision 1 the unbounded exponent of the tininess test gives no even encoding, and a tie of it goes up (log 73). -/
def roundGrid (p : Nat) (qmin : Int) (odd : Bool) (mode : RM) (sd : Seed) (x : Exact) : Rounded :=
  if x.m = 0 ∧ !x.sticky then ⟨0, false, false, false⟩
  else
    let ev : Int := (bitLen x.m : Int) - 1 + x.e
    let qu : Int := ev - (p - 1 : Nat)
    let q := if qu < qmin then qmin else qu
    let (n, rem, sh) := splitAt x.m x.e q
    let lo := ((q - qmin).toNat <<< (p - 1)) + n
    let even := (lo % 2 == 0) != odd
    let up := roundUp mode sd x.neg even rem sh x.sticky
    let inex := rem ≠ 0 || x.sticky
    -- tininess after rounding: the value rounded with an unbounded exponent lies below 2^emin
    let emin : Int := qmin + (p - 1 : Nat)
    let (n', rem', sh') := splitAt x.m x.e qu
    let up' := roundUp mode sd x.neg ((n' % 2 == 0) != odd) rem' sh' x.sticky
    let tiny := ev < emin && !(ev == emin - 1 && up' && n' + 1 == 2 ^ p)
    ⟨if up then lo + 1 else lo, inex, tiny, up⟩

/-- Whether IEEE rounding of an overflow gives an infinity (R91). -/
def overflowsToInf (mode : RM) (neg up : Bool) (beyond : Bool) : Bool :=
  match mode with
  | .rne => true
  | .rtz => false
  | .rdn => neg
  | .rup => !neg
  | .sr => up || beyond

/-- The encoding of a magnitude code with a sign in a floating-point format; binary8 zeros have no sign (R86, R87). -/
def encodeMag (f : Fmt) (neg : Bool) (c : Nat) : Nat :=
  match f with
  | .f64 => bit neg * 2 ^ 63 + c
  | .f32 => bit neg * 2 ^ 31 + c
  | .bf16 | .f16 => bit neg * 2 ^ 15 + c
  | .b8 .se _ | .b8 .sf _ => if c = 0 then 0 else bit neg * 128 + c
  | _ => c

/-- The canonical quiet NaN, or the NaN code (R80, R87, R89). -/
def nanCode : Fmt → Nat
  | .f64 => 0x7FF8000000000000
  | .f32 => 0x7FC00000
  | .bf16 => 0x7FC0
  | .f16 => 0x7E00
  | .b8 .se _ | .b8 .sf _ => 0x80
  | .b8 .ue _ | .b8 .uf _ => 0xFF
  | .e8m0 => 0xFF
  | _ => 0

/-- The encoding of an infinity where the format has one (R80, R87). -/
def infCode (neg : Bool) : Fmt → Option Nat
  | .f64 => some (bit neg * 2 ^ 63 + 0x7FF0000000000000)
  | .f32 => some (bit neg * 2 ^ 31 + 0x7F800000)
  | .bf16 => some (bit neg * 2 ^ 15 + 0x7F80)
  | .f16 => some (bit neg * 2 ^ 15 + 0x7C00)
  | .b8 .se _ => some (bit neg * 128 + 0x7F)
  | .b8 .ue _ => if neg then none else some 0xFE
  | _ => none

/-- Whether the format holds no negative number: unsigned binary8 and e8m0 (R86, R89). -/
def fmtUnsigned : Fmt → Bool
  | .b8 .ue _ | .b8 .uf _ | .e8m0 => true
  | _ => false

/-- Round of R7 for a finite exact value and a floating-point format with SAT bit `sat` (R90, R91, R94). -/
def roundFloat (f : Fmt) (mode : RM) (sat : Bool) (sd : Seed) (x : Exact) : Nat × Flags :=
  match f with
  | .e8m0 =>
    if x.m = 0 ∧ !x.sticky then (0, flagUF ||| flagNX)
    else if x.neg then if sat then (0, flagSATD ||| flagNX) else (0xFF, flagNV)
    else
      let ev : Int := (bitLen x.m : Int) - 1 + x.e
      if ev < -127 then (0, flagUF ||| flagNX)
      else
        let r := roundGrid 1 (-127) true mode sd x
        if r.code ≤ 255 then (r.code - 1, flagIf r.inexact flagNX)
        else if sat then (0xFE, flagSATD ||| flagNX)
        else if overflowsToInf mode false r.up (r.code > 256 || (r.code = 256 && !r.up)) then (0xFF, flagOF ||| flagNX)
        else (0xFE, flagOF ||| flagNX)
  | _ =>
    match gridOf f with
    | none => (0, 0)
    | some g =>
      let r := roundGrid g.p g.qmin false mode sd x
      if x.neg && fmtUnsigned f && !(x.m = 0 ∧ !x.sticky) then
        if r.code = 0 then (0, flagUF ||| flagNX)
        else if sat then (0, flagSATD ||| flagNX) else (nanCode f, flagNV)
      else if r.code ≤ g.maxCode then
        (encodeMag f x.neg r.code, flagIf r.inexact flagNX ||| flagIf (r.inexact && r.tiny) flagUF)
      else if sat then (encodeMag f x.neg g.maxCode, flagSATD ||| flagNX)
      else if overflowsToInf mode x.neg r.up (r.code > g.maxCode + 1 || (r.code = g.maxCode + 1 && !r.up)) then
        ((infCode x.neg f).getD (nanCode f), flagOF ||| flagNX)
      else (encodeMag f x.neg g.maxCode, flagOF ||| flagNX)

/-- The bounds of an integer format; the reserved code of a symmetric nfmt is never written (R82, R85). -/
def intBounds (n : Fmtn) (f : Fmt) : Int × Int :=
  let w := codeWidth n f
  if fmtSigned n f then
    (-(2 ^ (w - 1) : Nat) + (if f = .nfmt ∧ n.sym then 1 else 0), (2 ^ (w - 1) - 1 : Nat))
  else (0, (2 ^ w - 1 : Nat) - (if f = .nfmt ∧ n.sym then 1 else 0))

/-- The adjacent integer an exact value rounds to (R90). -/
def roundInt (mode : RM) (sd : Seed) (x : Exact) : Int × Bool :=
  let (n, rem, sh) := splitAt x.m x.e 0
  let up := roundUp mode sd x.neg (n % 2 == 0) rem sh x.sticky
  let a : Nat := if up then n + 1 else n
  (if x.neg then -(a : Int) else a, rem ≠ 0 || x.sticky)

/-- The integer clamped to a format's bounds, and whether it lay outside them. -/
def clampInt (n : Fmtn) (f : Fmt) (i : Int) : Int × Bool :=
  let (lo, hi) := intBounds n f
  if i < lo then (lo, true) else if i > hi then (hi, true) else (i, false)

/-- Convert of R94 for a finite exact value. Whether a floating-point value is out of an integer's range is asked of the value as rounded, so
that 127.4 goes to int8 as 127 with NX (log 72). -/
def convertExact (n : Fmtn) (f : Fmt) (mode : RM) (sat srcInt : Bool) (sd : Seed) (x : Exact) : Nat × Flags :=
  if fmtIsInt f then
    let w := codeWidth n f
    let (i, inex) := roundInt mode sd x
    let (c, out) := clampInt n f i
    if !fmtIsIW f then (wrap w c, if out then flagSATD else flagIf inex flagNX)
    else if srcInt then
      if sat then (wrap w c, flagIf out flagSATD) else (wrap w i, 0)
    else (wrap w c, if out then (if sat then flagSATD else flagNV) else flagIf inex flagNX)
  else roundFloat f mode sat sd x

/-- Convert of R94: the value `v` of a source format into format `f`. `srcInt` says the source is an integer format. -/
def convert (n : Fmtn) (f : Fmt) (mode : RM) (sat srcInt : Bool) (sd : Seed) (v : Val) : Nat × Flags :=
  let w := codeWidth n f
  if fmtIsInt f then
    match v with
    | .nan _ => (0, flagNV)
    | .inf neg =>
      let (lo, hi) := intBounds n f
      (wrap w (if neg then lo else hi),
        if fmtIsIW f then (if sat then flagSATD else flagNV) else flagSATD)
    | .fin neg m e => convertExact n f mode sat srcInt sd ⟨neg, m, e, false⟩
  else
    match v with
    | .nan s => (nanCode f, flagIf s flagNV)
    | .inf neg =>
      match f with
      | .e8m0 =>
        if neg then (if sat then (0, flagSATD ||| flagNX) else (0xFF, flagNV))
        else if sat then (0xFE, flagSATD) else (0xFF, flagNV)
      | _ =>
        match infCode neg f with
        | some c => (c, 0)
        | none =>
          if neg && fmtUnsigned f then (if sat then (0, flagSATD ||| flagNX) else (nanCode f, flagNV))
          else if sat then
            ((gridOf f).elim 0 (fun g => encodeMag f neg g.maxCode), flagSATD)
          else (nanCode f, flagNV)
    | .fin neg m e => roundFloat f mode sat sd ⟨neg, m, e, false⟩

/-! ### Exact arithmetic -/

/-- The common exponent of two finite values, and their signed significands there. -/
def alignVals (m1 : Int) (e1 : Int) (m2 : Int) (e2 : Int) : Int × Int × Int :=
  if e1 ≤ e2 then (m1, m2 * (2 ^ (e2 - e1).toNat : Nat), e1)
  else (m1 * (2 ^ (e1 - e2).toNat : Nat), m2, e2)

/-- The signed significand of a finite value. -/
def signedSig (neg : Bool) (m : Nat) : Int := if neg then -(m : Int) else m

/-- The result of an exact operation: a NaN with flags, an infinity, or a finite value still to be rounded. -/
inductive Exactly where
  | nan (fl : Flags)
  | inf (neg : Bool) (fl : Flags)
  | fin (x : Exact)
deriving DecidableEq, Repr

/-- NV when an operand is a signalling NaN (R81). -/
def snanFlags (vs : List Val) : Flags := flagIf (vs.any Val.isSnan) flagNV

/-- The exact sum, with the sign of an exact zero by rounding mode (R196). The sum of two zeros is an exact zero sum like any
other: of +0 and +0 it is -0 in RDN (log 74). -/
def addExact (mode : RM) (a b : Val) : Exactly :=
  match a, b with
  | .nan s, _ => .nan (flagIf (s || b.isSnan) flagNV)
  | _, .nan s => .nan (flagIf s flagNV)
  | .inf x, .inf y => if x = y then .inf x 0 else .nan flagNV
  | .inf x, _ => .inf x 0
  | _, .inf y => .inf y 0
  | .fin n1 m1 e1, .fin n2 m2 e2 =>
    let (x, y, e) := alignVals (signedSig n1 m1) e1 (signedSig n2 m2) e2
    let s := x + y
    if s = 0 then
      let neg := mode = .rdn || (m1 = 0 && m2 = 0 && n1 && n2)
      .fin ⟨neg, 0, 0, false⟩
    else .fin ⟨s < 0, s.natAbs, e, false⟩

/-- The exact product as a value, and whether it is the invalid ∞ × 0. -/
def mulVal (a b : Val) : Val × Bool :=
  match a, b with
  | .nan s, _ => (.nan (s || b.isSnan), false)
  | _, .nan s => (.nan s, false)
  | .inf x, .inf y => (.inf (x != y), false)
  | .inf x, .fin y m _ => if m = 0 then (.nan false, true) else (.inf (x != y), false)
  | .fin x m _, .inf y => if m = 0 then (.nan false, true) else (.inf (x != y), false)
  | .fin x m1 e1, .fin y m2 e2 => (.fin (x != y) (m1 * m2) (e1 + e2), false)

/-- The exact product (R196). -/
def mulExact (a b : Val) : Exactly :=
  match mulVal a b with
  | (.nan s, inv) => .nan (flagIf (s || inv) flagNV)
  | (.inf x, _) => .inf x 0
  | (.fin n m e, _) => .fin ⟨n, m, e, false⟩

/-- The exact a * b + c; ∞ × 0 is invalid even when c is a quiet NaN (R196). -/
def fmaExact (mode : RM) (a b c : Val) : Exactly :=
  match mulVal a b with
  | (p, true) => .nan (flagNV ||| snanFlags [p, c])
  | (p, false) => addExact mode p c

/-- The quotient to `k` more bits than the operands hold, with its sticky bit (R197). -/
def divExact (a b : Val) : Exactly :=
  match a, b with
  | .nan s, _ => .nan (flagIf (s || b.isSnan) flagNV)
  | _, .nan s => .nan (flagIf s flagNV)
  | .inf _, .inf _ => .nan flagNV
  | .inf x, .fin y _ _ => .inf (x != y) 0
  | .fin x _ _, .inf y => .fin ⟨x != y, 0, 0, false⟩
  | .fin x m1 e1, .fin y m2 e2 =>
    if m2 = 0 then if m1 = 0 then .nan flagNV else .inf (x != y) flagDZ
    else if m1 = 0 then .fin ⟨x != y, 0, 0, false⟩
    else
      let k := 160
      let n := m1 <<< k
      .fin ⟨x != y, n / m2, e1 - e2 - k, n % m2 ≠ 0⟩

/-- The square root (R197). -/
def sqrtExact (a : Val) : Exactly :=
  match a with
  | .nan s => .nan (flagIf s flagNV)
  | .inf n => if n then .nan flagNV else .inf false 0
  | .fin n m e =>
    if m = 0 then .fin ⟨n, 0, 0, false⟩
    else if n then .nan flagNV
    else
      let k : Nat := 200 + (if e % 2 = 0 then 0 else 1)
      let x := m <<< k
      let r := isqrt x
      .fin ⟨false, r, (e - k) / 2, r * r ≠ x⟩

/-- An exact result written into any format with SAT = 0 (R236): R94 for a NaN or an infinity, R85, R90 and R91 otherwise. -/
def deliver (n : Fmtn) (f : Fmt) (mode : RM) (srcInt : Bool) (sd : Seed) (r : Exactly) : Nat × Flags :=
  match r with
  | .nan fl => let c := convert n f mode false srcInt sd (.nan false); (c.1, c.2 ||| fl)
  | .inf neg fl => let c := convert n f mode false srcInt sd (.inf neg); (c.1, c.2 ||| fl)
  | .fin x => convertExact n f mode false srcInt sd x

/-- Bring an exact result into a floating-point format with a SAT bit (R81, R90, R91). -/
def finish (f : Fmt) (mode : RM) (sat : Bool) (sd : Seed) (r : Exactly) : Nat × Flags :=
  match r with
  | .nan fl => (nanCode f, fl)
  | .inf neg fl =>
    match infCode neg f with
    | some c => (c, fl)
    | none => (nanCode f, fl ||| flagNV)
  | .fin x => roundFloat f mode sat sd x

/-! ### Comparison, minimum and maximum -/

/-- Whether one finite or infinite value is less than another; zeros are equal. NaNs compare false. -/
def ltVal (a b : Val) : Bool :=
  match a, b with
  | .nan _, _ | _, .nan _ => false
  | .inf x, .inf y => x && !y
  | .inf x, .fin _ _ _ => x
  | .fin _ _ _, .inf y => !y
  | .fin n1 m1 e1, .fin n2 m2 e2 =>
    let (x, y, _) := alignVals (signedSig n1 m1) e1 (signedSig n2 m2) e2
    x < y

/-- Whether two ordered values are equal. -/
def eqVal (a b : Val) : Bool := !a.isNan && !b.isNan && !ltVal a b && !ltVal b a

/-- The conditions of R199 and their invalid flag. -/
def condVal (c : Cond) (a b : Val) : Bool × Flags :=
  let un := a.isNan || b.isNan
  let sig := flagIf (a.isSnan || b.isSnan) flagNV
  let any := flagIf un flagNV
  match c with
  | .eq => (eqVal a b, sig)
  | .ne => (!eqVal a b, sig)
  | .lt => (ltVal a b, any)
  | .le => (ltVal a b || eqVal a b, any)
  | .gt => (ltVal b a, any)
  | .ge => (ltVal b a || eqVal a b, any)
  | .un => (un, sig)
  | .ord => (!un, sig)

/-- The conditions on integers (R193, R207); un and ord never stand in an integer compare. -/
def condInt (c : Cond) (a b : Int) : Bool :=
  match c with
  | .eq => a == b
  | .ne => a != b
  | .lt => a < b
  | .le => a ≤ b
  | .gt => a > b
  | .ge => a ≥ b
  | .un => false
  | .ord => true

/-- Whether a sign bit is set, for the order of zeros in R95. -/
def Val.sign : Val → Bool
  | .nan _ => false
  | .inf n => n
  | .fin n _ _ => n

/-- The minimum (`mx` false) or maximum of two encodings of one format (R95). The result is one of them, bit for
bit, or the canonical NaN. -/
def minMaxFloat (n : Fmtn) (f : Fmt) (mx : Bool) (x y : Nat) : Nat × Flags :=
  let a := valueOf n f x
  let b := valueOf n f y
  let fl := flagIf (a.isSnan || b.isSnan) flagNV
  let r :=
    match a.isNan, b.isNan with
    | true, true => nanCode f
    | true, false => y
    | false, true => x
    | false, false =>
      let aLess := ltVal a b || (eqVal a b && a.sign && !b.sign)
      let bLess := ltVal b a || (eqVal a b && b.sign && !a.sign)
      if mx then (if aLess then y else x) else (if bLess then y else x)
  (r, fl)

end Sys2Proof.Machine
end

