-- ==== Sys2Proof/Syntax.lean ====
section
/-! DEFINITION. The instructions and events of the AW-T8-768: one constructor per row of the opcode table, with the
operand fields that the row's entry gives it. A guard stands first in every native slot instruction (R34, R60). -/

namespace Sys2Proof

/-- One row of the opcode table. Register fields name registers of the file that the entry gives (R62); `e` is the copy
engine that a C-slot instruction goes to; `m`, `t`, `op` and `n` are the SUB values of the entry.
The slot instructions stand first: Lean compiles constructors with fields only up to a bounded number, so what builds the
later rows (the decoders of teller and Ovnath words) is marked noncomputable; the machine itself never builds one. -/
inductive Instr where
  /-- NOP (R38). -/
  | nop
  /-- ADD (R188). -/
  | add (g : Guard) (d : SReg) (a : SReg) (b : SReg)
  /-- SUB (R188). -/
  | sub (g : Guard) (d : SReg) (a : SReg) (b : SReg)
  /-- AND (R188). -/
  | and (g : Guard) (d : SReg) (a : SReg) (b : SReg)
  /-- OR (R188). -/
  | or (g : Guard) (d : SReg) (a : SReg) (b : SReg)
  /-- XOR (R188). -/
  | xor (g : Guard) (d : SReg) (a : SReg) (b : SReg)
  /-- SHL (R188). -/
  | shl (g : Guard) (d : SReg) (a : SReg) (b : SReg)
  /-- SHRL (R188). -/
  | shrl (g : Guard) (d : SReg) (a : SReg) (b : SReg)
  /-- SHRA (R188). -/
  | shra (g : Guard) (d : SReg) (a : SReg) (b : SReg)
  /-- MIN (R188). -/
  | min (g : Guard) (d : SReg) (a : SReg) (b : SReg)
  /-- MAX (R188). -/
  | max (g : Guard) (d : SReg) (a : SReg) (b : SReg)
  /-- MINN (R188). -/
  | minn (g : Guard) (d : SReg) (a : SReg) (b : SReg)
  /-- MAXN (R188). -/
  | maxn (g : Guard) (d : SReg) (a : SReg) (b : SReg)
  /-- MUL (R188). -/
  | mul (g : Guard) (d : SReg) (a : SReg) (b : SReg)
  /-- MULH (R188). -/
  | mulh (g : Guard) (d : SReg) (a : SReg) (b : SReg)
  /-- MULHN (R188). -/
  | mulhn (g : Guard) (d : SReg) (a : SReg) (b : SReg)
  /-- DIVS (R189). -/
  | divs (g : Guard) (d : SReg) (a : SReg) (b : SReg)
  /-- DIVN (R189). -/
  | divn (g : Guard) (d : SReg) (a : SReg) (b : SReg)
  /-- REMS (R189). -/
  | rems (g : Guard) (d : SReg) (a : SReg) (b : SReg)
  /-- REMN (R189). -/
  | remn (g : Guard) (d : SReg) (a : SReg) (b : SReg)
  /-- CLZ (R190). -/
  | clz (g : Guard) (d : SReg) (a : SReg)
  /-- CTZ (R190). -/
  | ctz (g : Guard) (d : SReg) (a : SReg)
  /-- POPC (R190). -/
  | popc (g : Guard) (d : SReg) (a : SReg)
  /-- SEXT (R190). -/
  | sext (g : Guard) (d : SReg) (a : SReg) (n : BitVec 6)
  /-- ZEXT (R190). -/
  | zext (g : Guard) (d : SReg) (a : SReg) (n : BitVec 6)
  /-- ADDI (R191). -/
  | addi (g : Guard) (d : SReg) (a : SReg) (i : BitVec 17)
  /-- ANDI (R191). -/
  | andi (g : Guard) (d : SReg) (a : SReg) (i : BitVec 17)
  /-- ORI (R191). -/
  | ori (g : Guard) (d : SReg) (a : SReg) (i : BitVec 17)
  /-- XORI (R191). -/
  | xori (g : Guard) (d : SReg) (a : SReg) (i : BitVec 17)
  /-- SHLI (R191). -/
  | shli (g : Guard) (d : SReg) (a : SReg) (n : BitVec 6)
  /-- SHRLI (R191). -/
  | shrli (g : Guard) (d : SReg) (a : SReg) (n : BitVec 6)
  /-- SHRAI (R191). -/
  | shrai (g : Guard) (d : SReg) (a : SReg) (n : BitVec 6)
  /-- LIMM (R192). -/
  | limm (g : Guard) (d : SReg) (i : BitVec 17)
  /-- LIMMH (R192). -/
  | limmh (g : Guard) (d : SReg) (k : BitVec 2) (v : BitVec 16)
  /-- CMP (R193). -/
  | cmp (g : Guard) (d : PReg) (a : SReg) (b : SReg) (nat : Bool) (cond : Cond)
  /-- PAND (R194). -/
  | pand (g : Guard) (d : PReg) (a : PReg) (b : PReg)
  /-- POR (R194). -/
  | por (g : Guard) (d : PReg) (a : PReg) (b : PReg)
  /-- PXOR (R194). -/
  | pxor (g : Guard) (d : PReg) (a : PReg) (b : PReg)
  /-- PNOT (R194). -/
  | pnot (g : Guard) (d : PReg) (a : PReg)
  /-- SEL (R195). -/
  | sel (g : Guard) (d : SReg) (p : PReg) (a : SReg) (b : SReg)
  /-- LDB (R133). -/
  | ldb (g : Guard) (d : SReg) (a : SReg) (i : BitVec 17)
  /-- LDBN (R133). -/
  | ldbn (g : Guard) (d : SReg) (a : SReg) (i : BitVec 17)
  /-- LDH (R133). -/
  | ldh (g : Guard) (d : SReg) (a : SReg) (i : BitVec 17)
  /-- LDHN (R133). -/
  | ldhn (g : Guard) (d : SReg) (a : SReg) (i : BitVec 17)
  /-- LDW (R133). -/
  | ldw (g : Guard) (d : SReg) (a : SReg) (i : BitVec 17)
  /-- LDWN (R133). -/
  | ldwn (g : Guard) (d : SReg) (a : SReg) (i : BitVec 17)
  /-- LDD (R133). -/
  | ldd (g : Guard) (d : SReg) (a : SReg) (i : BitVec 17)
  /-- STB (R133). -/
  | stb (g : Guard) (d : SReg) (a : SReg) (i : BitVec 17)
  /-- STH (R133). -/
  | sth (g : Guard) (d : SReg) (a : SReg) (i : BitVec 17)
  /-- STW (R133). -/
  | stw (g : Guard) (d : SReg) (a : SReg) (i : BitVec 17)
  /-- STD (R133). -/
  | std (g : Guard) (d : SReg) (a : SReg) (i : BitVec 17)
  /-- FADD (R196). -/
  | fadd (g : Guard) (f : Fmt) (r : RM) (d : SReg) (a : SReg) (b : SReg)
  /-- FSUB (R196). -/
  | fsub (g : Guard) (f : Fmt) (r : RM) (d : SReg) (a : SReg) (b : SReg)
  /-- FMUL (R196). -/
  | fmul (g : Guard) (f : Fmt) (r : RM) (d : SReg) (a : SReg) (b : SReg)
  /-- FMA (R196). -/
  | fma (g : Guard) (f : Fmt) (r : RM) (d : SReg) (a : SReg) (b : SReg)
  /-- FDIV (R197). -/
  | fdiv (g : Guard) (f : Fmt) (r : RM) (d : SReg) (a : SReg) (b : SReg)
  /-- FSQRT (R197). -/
  | fsqrt (g : Guard) (f : Fmt) (r : RM) (d : SReg) (a : SReg)
  /-- FMIN (R198). -/
  | fmin (g : Guard) (f : Fmt) (d : SReg) (a : SReg) (b : SReg)
  /-- FMAX (R198). -/
  | fmax (g : Guard) (f : Fmt) (d : SReg) (a : SReg) (b : SReg)
  /-- FCMP (R199). -/
  | fcmp (g : Guard) (f : Fmt) (cond : Cond) (d : PReg) (a : SReg) (b : SReg)
  /-- FCVT (R200). -/
  | fcvt (g : Guard) (f : Fmt) (src : Fmt) (r : RM) (d : SReg) (a : SReg)
  /-- AADD (R286). -/
  | aadd (g : Guard) (f : Fmt) (sc : Scope) (d : SReg) (a : SReg) (b : SReg)
  /-- AAND (R286). -/
  | aand (g : Guard) (f : Fmt) (sc : Scope) (d : SReg) (a : SReg) (b : SReg)
  /-- AOR (R286). -/
  | aor (g : Guard) (f : Fmt) (sc : Scope) (d : SReg) (a : SReg) (b : SReg)
  /-- AXOR (R286). -/
  | axor (g : Guard) (f : Fmt) (sc : Scope) (d : SReg) (a : SReg) (b : SReg)
  /-- AMIN (R286). -/
  | amin (g : Guard) (f : Fmt) (sc : Scope) (d : SReg) (a : SReg) (b : SReg)
  /-- AMAX (R286). -/
  | amax (g : Guard) (f : Fmt) (sc : Scope) (d : SReg) (a : SReg) (b : SReg)
  /-- ASWAP (R286). -/
  | aswap (g : Guard) (f : Fmt) (sc : Scope) (d : SReg) (a : SReg) (b : SReg)
  /-- ACAS (R286). -/
  | acas (g : Guard) (f : Fmt) (sc : Scope) (d : SReg) (a : SReg) (b : SReg)
  /-- AMINN (R286). -/
  | aminn (g : Guard) (f : Fmt) (sc : Scope) (d : SReg) (a : SReg) (b : SReg)
  /-- AMAXN (R286). -/
  | amaxn (g : Guard) (f : Fmt) (sc : Scope) (d : SReg) (a : SReg) (b : SReg)
  /-- AFADD (R286). -/
  | afadd (g : Guard) (f : Fmt) (sc : Scope) (d : SReg) (a : SReg) (b : SReg)
  /-- AFMIN (R288). -/
  | afmin (g : Guard) (f : Fmt) (sc : Scope) (d : SReg) (a : SReg) (b : SReg)
  /-- AFMAX (R288). -/
  | afmax (g : Guard) (f : Fmt) (sc : Scope) (d : SReg) (a : SReg) (b : SReg)
  /-- TCALL (R275). -/
  | tcall (g : Guard) (id : BitVec 6) (sc : Scope) (d : SReg) (a : SReg) (b : SReg)
  /-- CSRR (R201). -/
  | csrr (g : Guard) (d : SReg) (n : BitVec 12)
  /-- CSRW (R201). -/
  | csrw (g : Guard) (n : BitVec 12) (a : SReg)
  /-- CSRS (R201). -/
  | csrs (g : Guard) (n : BitVec 12) (a : SReg)
  /-- CSRC (R201). -/
  | csrc (g : Guard) (n : BitVec 12) (a : SReg)
  /-- SEMADD (R311). -/
  | semadd (g : Guard) (w : WReg) (a : SReg)
  /-- VADD (R204). -/
  | vadd (g : Guard) (f : Fmt) (r : RM) (d : QReg) (a : QSrc) (b : QSrc)
  /-- VSUB (R204). -/
  | vsub (g : Guard) (f : Fmt) (r : RM) (d : QReg) (a : QSrc) (b : QSrc)
  /-- VMUL (R204). -/
  | vmul (g : Guard) (f : Fmt) (r : RM) (d : QReg) (a : QSrc) (b : QSrc)
  /-- VFMA (R205). -/
  | vfma (g : Guard) (f : Fmt) (r : RM) (d : QReg) (a : QSrc) (b : QSrc)
  /-- VFMS (R205). -/
  | vfms (g : Guard) (f : Fmt) (r : RM) (d : QReg) (a : QSrc) (b : QSrc)
  /-- VNFMA (R205). -/
  | vnfma (g : Guard) (f : Fmt) (r : RM) (d : QReg) (a : QSrc) (b : QSrc)
  /-- VMIN (R206). -/
  | vmin (g : Guard) (f : Fmt) (d : QReg) (a : QSrc) (b : QSrc)
  /-- VMAX (R206). -/
  | vmax (g : Guard) (f : Fmt) (d : QReg) (a : QSrc) (b : QSrc)
  /-- VABS (R206). -/
  | vabs (g : Guard) (f : Fmt) (d : QReg) (a : QSrc)
  /-- VNEG (R206). -/
  | vneg (g : Guard) (f : Fmt) (d : QReg) (a : QSrc)
  /-- VADIF (R206). -/
  | vadif (g : Guard) (f : Fmt) (r : RM) (d : QReg) (a : QSrc) (b : QSrc)
  /-- VCMP (R207). -/
  | vcmp (g : Guard) (f : Fmt) (cond : Cond) (d : QReg) (a : QSrc) (b : QSrc)
  /-- VSEL (R208). -/
  | vsel (g : Guard) (f : Fmt) (d : QReg) (a : QSrc) (b : QSrc)
  /-- VAND (R209). -/
  | vand (g : Guard) (d : QReg) (a : QSrc) (b : QSrc)
  /-- VOR (R209). -/
  | vor (g : Guard) (d : QReg) (a : QSrc) (b : QSrc)
  /-- VXOR (R209). -/
  | vxor (g : Guard) (d : QReg) (a : QSrc) (b : QSrc)
  /-- VNOT (R209). -/
  | vnot (g : Guard) (d : QReg) (a : QSrc)
  /-- VSHL (R210). -/
  | vshl (g : Guard) (f : Fmt) (d : QReg) (a : QSrc) (b : QSrc)
  /-- VSHRL (R210). -/
  | vshrl (g : Guard) (f : Fmt) (d : QReg) (a : QSrc) (b : QSrc)
  /-- VSHRA (R210). -/
  | vshra (g : Guard) (f : Fmt) (d : QReg) (a : QSrc) (b : QSrc)
  /-- VCVT (R211). -/
  | vcvt (g : Guard) (f : Fmt) (src : Fmt) (r : RM) (sat : Bool) (d : QReg) (a : QSrc)
  /-- VSAT (R212). -/
  | vsat (g : Guard) (f : Fmt) (t : BitVec 3) (d : QReg) (a : QSrc)
  /-- VRCP (R213). -/
  | vrcp (g : Guard) (f : Fmt) (r : RM) (d : QReg) (a : QSrc)
  /-- VRSQ (R213). -/
  | vrsq (g : Guard) (f : Fmt) (r : RM) (d : QReg) (a : QSrc)
  /-- VEXP2 (R213). -/
  | vexp2 (g : Guard) (f : Fmt) (r : RM) (d : QReg) (a : QSrc)
  /-- VLOG2 (R213). -/
  | vlog2 (g : Guard) (f : Fmt) (r : RM) (d : QReg) (a : QSrc)
  /-- VDOT (R214). -/
  | vdot (g : Guard) (f : Fmt) (d : QReg) (a : QSrc) (b : QSrc)
  /-- VREDADD (R215). -/
  | vredadd (g : Guard) (f : Fmt) (r : RM) (d : QReg) (a : QSrc)
  /-- VREDMIN (R215). -/
  | vredmin (g : Guard) (f : Fmt) (d : QReg) (a : QSrc)
  /-- VREDMAX (R215). -/
  | vredmax (g : Guard) (f : Fmt) (d : QReg) (a : QSrc)
  /-- VBCAST (R216). -/
  | vbcast (g : Guard) (f : Fmt) (d : QReg) (a : SReg)
  /-- VEXTR (R216). -/
  | vextr (g : Guard) (f : Fmt) (d : SReg) (a : QSrc) (b : SReg)
  /-- VIOTA (R216). -/
  | viota (g : Guard) (f : Fmt) (d : QReg)
  /-- VMOV (R216). -/
  | vmov (g : Guard) (d : QReg) (a : QSrc)
  /-- VPOP (R216). -/
  | vpop (g : Guard) (a : QReg)
  /-- VANY (R216). -/
  | vany (g : Guard) (f : Fmt) (d : PReg) (a : QSrc)
  /-- VALL (R216). -/
  | vall (g : Guard) (f : Fmt) (d : PReg) (a : QSrc)
  /-- VCNT (R216). -/
  | vcnt (g : Guard) (f : Fmt) (d : SReg) (a : QSrc)
  /-- VLD (R136). -/
  | vld (g : Guard) (m : BitVec 2) (d : QReg) (a : SReg) (off : BitVec 8)
  /-- VLDS (R136). -/
  | vlds (g : Guard) (m : BitVec 2) (d : QReg) (a : SReg) (b : SReg) (off : BitVec 8)
  /-- VST (R136). -/
  | vst (g : Guard) (m : BitVec 2) (d : QReg) (a : SReg) (off : BitVec 8)
  /-- VSTS (R136). -/
  | vsts (g : Guard) (m : BitVec 2) (d : QReg) (a : SReg) (b : SReg) (off : BitVec 8)
  /-- MPASS (R222). -/
  | mpass (g : Guard) (f : Fmt) (seq : BitVec 4) (sat : Bool) (d : AReg) (a : GSrc) (b : GSrc)
  /-- MPASSD (R222). -/
  | mpassd (g : Guard) (f : Fmt) (seq : BitVec 4) (sat : Bool) (d : AReg) (a : GSrc) (b : SReg)
  /-- MZERO (R226). -/
  | mzero (g : Guard) (d : AReg)
  /-- MLOADC (R226). -/
  | mloadc (g : Guard) (d : AReg) (a : SReg)
  /-- MSTOREC (R227). -/
  | mstorec (g : Guard) (f : Fmt) (r : RM) (d : SReg) (a : AReg) (b : SReg)
  /-- MREAD (R226). -/
  | mread (g : Guard) (d : QReg) (a : AReg) (b : SReg)
  /-- MWRITE (R226). -/
  | mwrite (g : Guard) (d : AReg) (a : QSrc) (b : SReg)
  /-- MCSQ (R225). -/
  | mcsq (g : Guard) (d : BitVec 4) (a : SReg) (b : SReg)
  /-- LMUL (R237). -/
  | lmul (g : Guard) (r : RM) (d : DReg) (a : DReg) (b : DReg)
  /-- LADD (R237). -/
  | ladd (g : Guard) (r : RM) (d : DReg) (a : DReg) (b : DReg)
  /-- LMAP (R237). -/
  | lmap (g : Guard) (r : RM) (d : DReg) (a : DReg) (b : SReg)
  /-- LFILT (R242). -/
  | lfilt (g : Guard) (r : RM) (d : DReg) (a : DReg) (b : SReg)
  /-- LRED (R237). -/
  | lred (g : Guard) (r : RM) (d : DReg) (a : DReg) (b : SReg)
  /-- LGATH (R237). -/
  | lgath (g : Guard) (r : RM) (d : DReg) (a : DReg) (b : DReg)
  /-- LSCAT (R237). -/
  | lscat (g : Guard) (r : RM) (d : DReg) (a : DReg) (b : DReg)
  /-- LCVT (R237). -/
  | lcvt (g : Guard) (f : Fmt) (r : RM) (d : DReg) (a : DReg)
  /-- LXPOSE (R237). -/
  | lxpose (g : Guard) (r : RM) (d : DReg) (a : DReg) (b : SReg)
  /-- LSLICE (R237). -/
  | lslice (g : Guard) (r : RM) (d : DReg) (a : DReg) (b : SReg)
  /-- LSTORE (R438). -/
  | lstore (g : Guard) (r : RM) (d : DReg) (a : DReg)
  /-- PHINT (R268). -/
  | phint (g : Guard) (a : SReg)
  /-- PPIN (R269). -/
  | ppin (g : Guard) (a : SReg)
  /-- PUNPIN (R269). -/
  | punpin (g : Guard) (a : SReg)
  /-- PSTAT_SCAN (R270). -/
  | pstatScan (g : Guard) (a : DReg)
  /-- PSTAT_SET (R270). -/
  | pstatSet (g : Guard) (a : DReg) (b : SReg)
  /-- PSTATR (R271). -/
  | pstatr (g : Guard) (d : SReg) (a : DReg) (b : SReg)
  /-- PQUERY (R272). -/
  | pquery (g : Guard) (d : SReg) (a : SReg)
  /-- PDROP (R269). -/
  | pdrop (g : Guard) (a : SReg)
  /-- CPY (R152). -/
  | cpy (g : Guard) (e : Bool) (sg : Signal) (m : BitVec 2) (d : SReg) (a : SReg) (b : SReg)
  /-- CPYW (R152). -/
  | cpyw (g : Guard) (e : Bool) (sg : Signal) (m : BitVec 2) (d : SReg) (a : SReg) (b : SReg)
  /-- CPYT (R153). -/
  | cpyt (g : Guard) (e : Bool) (sg : Signal) (r : RM) (d : DReg) (a : DReg) (b : SReg)
  /-- LDBLK (R140). -/
  | ldblk (g : Guard) (e : Bool) (sg : Signal) (ntc : Bool) (d : SReg) (a : SReg) (b : SReg)
  /-- WBBLK (R140). -/
  | wbblk (g : Guard) (e : Bool) (sg : Signal) (d : SReg)
  /-- EVBLK (R140). -/
  | evblk (g : Guard) (e : Bool) (sg : Signal) (d : SReg)
  /-- RPUSH (R154). -/
  | rpush (g : Guard) (e : Bool) (sg : Signal) (sp : Bool) (d : GReg) (a : SReg) (b : SReg)
  /-- GATH (R155). -/
  | gath (g : Guard) (e : Bool) (sg : Signal) (sp : Bool) (d : SReg) (a : SReg) (b : SReg)
  /-- SCAT (R155). -/
  | scat (g : Guard) (e : Bool) (sg : Signal) (sp : Bool) (d : SReg) (a : SReg) (b : SReg)
  /-- SCATA (R155). -/
  | scata (g : Guard) (e : Bool) (sg : Signal) (sc : Scope) (op : BitVec 2) (sp : Bool) (d : SReg) (a : SReg) (b : SReg)
  /-- RED (R157). -/
  | red (g : Guard) (e : Bool) (sg : Signal) (sc : Scope) (op : BitVec 2) (sp : Bool) (d : SReg) (a : SReg) (b : SReg)
  /-- COLL_AG (R160). -/
  | collAg (g : Guard) (e : Bool) (sg : Signal) (d : SReg) (a : SReg) (b : SReg)
  /-- COLL_RS (R160). -/
  | collRs (g : Guard) (e : Bool) (sg : Signal) (d : SReg) (a : SReg) (b : SReg)
  /-- COLL_AR (R160). -/
  | collAr (g : Guard) (e : Bool) (sg : Signal) (d : SReg) (a : SReg) (b : SReg)
  /-- COLL_BC (R160). -/
  | collBc (g : Guard) (e : Bool) (sg : Signal) (d : SReg) (a : SReg) (b : SReg)
  /-- COLL_A2A (R160). -/
  | collA2a (g : Guard) (e : Bool) (sg : Signal) (d : SReg) (a : SReg) (b : SReg)
  /-- SEND (R161). -/
  | send (g : Guard) (e : Bool) (sg : Signal) (sp : Bool) (d : SReg) (a : SReg) (b : SReg)
  /-- RECV (R161). -/
  | recv (g : Guard) (e : Bool) (sg : Signal) (sp : Bool) (d : SReg) (a : SReg) (b : SReg)
  /-- SLOTQ (R163). -/
  | slotq (g : Guard) (e : Bool) (d : SReg) (a : SReg)
  /-- PACK (R177). -/
  | pack (g : Guard) (f : Fmt) (n : BitVec 2) (d : QReg) (a : QSrc)
  /-- UNPK (R177). -/
  | unpk (g : Guard) (f : Fmt) (n : BitVec 2) (d : QReg) (a : QSrc)
  /-- SCAL (R178). -/
  | scal (g : Guard) (f : Fmt) (r : RM) (d : QReg) (a : QSrc) (b : SReg)
  /-- SCLD (R179). -/
  | scld (g : Guard) (d : SReg) (a : SReg)
  /-- SHUF (R180). -/
  | shuf (g : Guard) (f : Fmt) (d : QReg) (a : QSrc) (b : QSrc)
  /-- XPOSE (R180). -/
  | xpose (g : Guard) (f : Fmt) (d : QReg) (a : QSrc)
  /-- ROTL (R180). -/
  | rotl (g : Guard) (f : Fmt) (d : QReg) (a : QSrc) (b : SReg)
  /-- BPLX (R182). -/
  | bplx (g : Guard) (f : Fmt) (d : QReg) (a : QSrc) (b : SReg)
  /-- BPLM (R182). -/
  | bplm (g : Guard) (f : Fmt) (d : QReg) (a : QSrc) (b : SReg)
  /-- XMV (R183). -/
  | xmv (g : Guard) (d : QReg) (a : QSrc)
  /-- INTL (R181). -/
  | intl (g : Guard) (f : Fmt) (h : Bool) (d : QReg) (a : QSrc) (b : QSrc)
  /-- DINTL (R181). -/
  | dintl (g : Guard) (f : Fmt) (h : Bool) (d : QReg) (a : QSrc) (b : QSrc)
  /-- SETFMT (R185). -/
  | setfmt (g : Guard) (i : BitVec 17)
  /-- LSEL_LDD (R184). -/
  | lselLdd (g : Guard) (d : DReg) (a : QSrc) (b : SReg)
  /-- LSEL_STD (R184). -/
  | lselStd (g : Guard) (d : QReg) (a : DReg) (b : SReg)
  /-- LSEL_LDG (R184). -/
  | lselLdg (g : Guard) (d : GReg) (a : QSrc) (b : SReg)
  /-- LSEL_STG (R184). -/
  | lselStg (g : Guard) (d : QReg) (a : GReg) (b : SReg)
  /-- NTREQ (R316). -/
  | ntreq (g : Guard)
  /-- BR (R307). -/
  | br (g : Guard) (i : BitVec 17)
  /-- BRP (R307). -/
  | brp (g : Guard) (a : PReg) (i : BitVec 17)
  /-- BRI (R307). -/
  | bri (g : Guard) (a : SReg)
  /-- CALL (R308). -/
  | call (g : Guard) (d : SReg) (i : BitVec 17)
  /-- RET (R307). -/
  | ret (g : Guard) (a : SReg)
  /-- LOOP (R307). -/
  | loop (g : Guard) (a : SReg) (i : BitVec 17)
  /-- WAIT (R309). -/
  | wait (g : Guard) (w : WReg) (a : SReg)
  /-- WAIT_CON (R309). -/
  | waitCon (g : Guard) (w : WReg) (a : SReg)
  /-- NRET (R315). -/
  | nret (g : Guard)
  /-- TRAP (R317). -/
  | trap (g : Guard) (k : BitVec 8)
  /-- SYSC (R318). -/
  | sysc (g : Guard) (w : WReg) (a : SReg)
  /-- HALT (R319). -/
  | halt (g : Guard)
  /-- YIELD (R319). -/
  | yield (g : Guard)
  /-- CROPEN (R366). -/
  | cropen (g : Guard) (i : BitVec 17)
  /-- CRCLOSE (R366). -/
  | crclose (g : Guard)
  /-- FENCE (R299). -/
  | fence (g : Guard) (ca : BitVec 7) (cb : BitVec 7) (a : SReg) (d : SReg)
  /-- SNAP (R383). -/
  | snap (g : Guard)
  /-- FORCE (R240). -/
  | force (g : Guard) (d : DReg) (a : SReg)
  /-- GROW (R171). -/
  | grow (g : Guard) (i : BitVec 17)
  /-- SHRINK (R171). -/
  | shrink (g : Guard) (i : BitVec 17)
  /-- TASKEND (R319). -/
  | taskend (g : Guard)
  /-- SPAWN (R336). -/
  | spawn (g : Guard) (sig : Bool) (w : WReg) (a : SReg)
  /-- ENQ (R337). -/
  | enq (g : Guard) (a : SReg) (b : SReg)
  /-- DEQ (R337). -/
  | deq (g : Guard) (d : SReg) (a : SReg)
  /-- SCAN (R374). -/
  | scan (g : Guard) (w : WReg) (a : SReg) (b : SReg)
  /-- LCMAPW (R373). -/
  | lcmapw (g : Guard) (a : SReg) (b : SReg)
  /-- ERET (R347). -/
  | eret (g : Guard)
  /-- CTXSV (R351). -/
  | ctxsv (g : Guard) (a : SReg)
  /-- CTXLD (R354). -/
  | ctxld (g : Guard) (a : SReg)
  /-- OVN_ADD (R405). -/
  | ovnAdd (d : BitVec 5) (a : BitVec 5) (b : BitVec 5)
  /-- OVN_SUB (R405). -/
  | ovnSub (d : BitVec 5) (a : BitVec 5) (b : BitVec 5)
  /-- OVN_MUL (R405). -/
  | ovnMul (d : BitVec 5) (a : BitVec 5) (b : BitVec 5)
  /-- OVN_DIV (R405). -/
  | ovnDiv (d : BitVec 5) (a : BitVec 5) (b : BitVec 5)
  /-- OVN_AND (R405). -/
  | ovnAnd (d : BitVec 5) (a : BitVec 5) (b : BitVec 5)
  /-- OVN_OR (R405). -/
  | ovnOr (d : BitVec 5) (a : BitVec 5) (b : BitVec 5)
  /-- OVN_XOR (R405). -/
  | ovnXor (d : BitVec 5) (a : BitVec 5) (b : BitVec 5)
  /-- OVN_SHL (R405). -/
  | ovnShl (d : BitVec 5) (a : BitVec 5) (b : BitVec 5)
  /-- OVN_SHR (R405). -/
  | ovnShr (d : BitVec 5) (a : BitVec 5) (b : BitVec 5)
  /-- OVN_SHRA (R405). -/
  | ovnShra (d : BitVec 5) (a : BitVec 5) (b : BitVec 5)
  /-- OVN_ADDI (R405). -/
  | ovnAddi (d : BitVec 5) (a : BitVec 5) (i : BitVec 14)
  /-- OVN_LI (R405). -/
  | ovnLi (d : BitVec 5) (i : BitVec 14)
  /-- OVN_LIS (R405). -/
  | ovnLis (d : BitVec 5) (i : BitVec 14)
  /-- OVN_CMP (R405). -/
  | ovnCmp (d : BitVec 4) (a : BitVec 5) (b : BitVec 5) (n : BitVec 1) (c : BitVec 3)
  /-- OVN_LD (R405). -/
  | ovnLd (d : BitVec 5) (a : BitVec 5) (i : BitVec 14)
  /-- OVN_ST (R405). -/
  | ovnSt (d : BitVec 5) (a : BitVec 5) (i : BitVec 14)
  /-- OVN_J (R405). -/
  | ovnJ (i : BitVec 19)
  /-- OVN_JK (R405). -/
  | ovnJk (k : BitVec 4) (i : BitVec 14)
  /-- OVN_CALL (R405). -/
  | ovnCall (d : BitVec 5) (i : BitVec 19)
  /-- OVN_RET (R405). -/
  | ovnRet (a : BitVec 5)
  /-- OVN_END (R405). -/
  | ovnEnd
  /-- OVN_TRAP (R405). -/
  | ovnTrap (i : BitVec 8)
  /-- OVN_SYS (R405). -/
  | ovnSys (d : BitVec 5) (a : BitVec 5)
  /-- OVN_VADD (R406). -/
  | ovnVadd (d : BitVec 5) (a : BitVec 5) (b : BitVec 5) (f : BitVec 4) (r : BitVec 3)
  /-- OVN_VSUB (R406). -/
  | ovnVsub (d : BitVec 5) (a : BitVec 5) (b : BitVec 5) (f : BitVec 4) (r : BitVec 3)
  /-- OVN_VMUL (R406). -/
  | ovnVmul (d : BitVec 5) (a : BitVec 5) (b : BitVec 5) (f : BitVec 4) (r : BitVec 3)
  /-- OVN_VFMA (R406). -/
  | ovnVfma (d : BitVec 5) (a : BitVec 5) (b : BitVec 5) (f : BitVec 4) (r : BitVec 3)
  /-- OVN_VMIN (R406). -/
  | ovnVmin (d : BitVec 5) (a : BitVec 5) (b : BitVec 5) (f : BitVec 4) (r : BitVec 3)
  /-- OVN_VMAX (R406). -/
  | ovnVmax (d : BitVec 5) (a : BitVec 5) (b : BitVec 5) (f : BitVec 4) (r : BitVec 3)
  /-- OVN_VCMP (R406). -/
  | ovnVcmp (d : BitVec 5) (a : BitVec 5) (b : BitVec 5) (f : BitVec 4) (c : BitVec 3)
  /-- OVN_VSEL (R406). -/
  | ovnVsel (d : BitVec 5) (a : BitVec 5) (b : BitVec 5) (f : BitVec 4)
  /-- OVN_VCVT (R406). -/
  | ovnVcvt (d : BitVec 5) (a : BitVec 5) (s : BitVec 3) (f : BitVec 4) (r : BitVec 3)
  /-- OVN_VBC (R406). -/
  | ovnVbc (d : BitVec 5) (a : BitVec 5) (f : BitVec 4)
  /-- OVN_VRED (R406). -/
  | ovnVred (d : BitVec 5) (a : BitVec 5) (f : BitVec 4) (r : BitVec 3)
  /-- OVN_VDOT (R406). -/
  | ovnVdot (d : BitVec 5) (a : BitVec 5) (b : BitVec 5) (f : BitVec 4) (r : BitVec 3)
  /-- OVN_VLD (R406). -/
  | ovnVld (d : BitVec 5) (a : BitVec 5) (i : BitVec 14)
  /-- OVN_VST (R406). -/
  | ovnVst (d : BitVec 5) (a : BitVec 5) (i : BitVec 14)
  /-- OVN_VEXT (R406). -/
  | ovnVext (d : BitVec 5) (a : BitVec 5) (b : BitVec 5) (f : BitVec 4)
  /-- OVN_MZ (R406). -/
  | ovnMz (d : BitVec 5)
  /-- OVN_MMA (R406). -/
  | ovnMma (d : BitVec 5) (a : BitVec 5) (b : BitVec 5) (f : BitVec 4)
  /-- OVN_MST (R406). -/
  | ovnMst (d : BitVec 5) (a : BitVec 5) (b : BitVec 5) (f : BitVec 4) (r : BitVec 3)
  /-- OVN_MRD (R406). -/
  | ovnMrd (d : BitVec 5) (a : BitVec 5) (b : BitVec 5)
  /-- TELLER_LDW (R282). -/
  | tellerLdw (d : BitVec 3) (a : BitVec 3) (i : BitVec 13)
  /-- TELLER_LDD (R282). -/
  | tellerLdd (d : BitVec 3) (a : BitVec 3) (i : BitVec 13)
  /-- TELLER_STW (R282). -/
  | tellerStw (a : BitVec 3) (b : BitVec 3) (i : BitVec 13)
  /-- TELLER_STD (R282). -/
  | tellerStd (a : BitVec 3) (b : BitVec 3) (i : BitVec 13)
  /-- TELLER_ADD (R282). -/
  | tellerAdd (d : BitVec 3) (a : BitVec 3) (b : BitVec 3)
  /-- TELLER_ADD_IMM (R282). -/
  | tellerAddImm (d : BitVec 3) (a : BitVec 3) (i : BitVec 13)
  /-- TELLER_SUB (R282). -/
  | tellerSub (d : BitVec 3) (a : BitVec 3) (b : BitVec 3)
  /-- TELLER_SUB_IMM (R282). -/
  | tellerSubImm (d : BitVec 3) (a : BitVec 3) (i : BitVec 13)
  /-- TELLER_AND (R282). -/
  | tellerAnd (d : BitVec 3) (a : BitVec 3) (b : BitVec 3)
  /-- TELLER_AND_IMM (R282). -/
  | tellerAndImm (d : BitVec 3) (a : BitVec 3) (i : BitVec 13)
  /-- TELLER_OR (R282). -/
  | tellerOr (d : BitVec 3) (a : BitVec 3) (b : BitVec 3)
  /-- TELLER_OR_IMM (R282). -/
  | tellerOrImm (d : BitVec 3) (a : BitVec 3) (i : BitVec 13)
  /-- TELLER_XOR (R282). -/
  | tellerXor (d : BitVec 3) (a : BitVec 3) (b : BitVec 3)
  /-- TELLER_XOR_IMM (R282). -/
  | tellerXorImm (d : BitVec 3) (a : BitVec 3) (i : BitVec 13)
  /-- TELLER_SHL (R282). -/
  | tellerShl (d : BitVec 3) (a : BitVec 3) (b : BitVec 3)
  /-- TELLER_SHL_IMM (R282). -/
  | tellerShlImm (d : BitVec 3) (a : BitVec 3) (i : BitVec 13)
  /-- TELLER_SHRL (R282). -/
  | tellerShrl (d : BitVec 3) (a : BitVec 3) (b : BitVec 3)
  /-- TELLER_SHRL_IMM (R282). -/
  | tellerShrlImm (d : BitVec 3) (a : BitVec 3) (i : BitVec 13)
  /-- TELLER_SHRA (R282). -/
  | tellerShra (d : BitVec 3) (a : BitVec 3) (b : BitVec 3)
  /-- TELLER_SHRA_IMM (R282). -/
  | tellerShraImm (d : BitVec 3) (a : BitVec 3) (i : BitVec 13)
  /-- TELLER_MIN (R282). -/
  | tellerMin (d : BitVec 3) (a : BitVec 3) (b : BitVec 3)
  /-- TELLER_MIN_IMM (R282). -/
  | tellerMinImm (d : BitVec 3) (a : BitVec 3) (i : BitVec 13)
  /-- TELLER_MAX (R282). -/
  | tellerMax (d : BitVec 3) (a : BitVec 3) (b : BitVec 3)
  /-- TELLER_MAX_IMM (R282). -/
  | tellerMaxImm (d : BitVec 3) (a : BitVec 3) (i : BitVec 13)
  /-- TELLER_MINN (R282). -/
  | tellerMinn (d : BitVec 3) (a : BitVec 3) (b : BitVec 3)
  /-- TELLER_MINN_IMM (R282). -/
  | tellerMinnImm (d : BitVec 3) (a : BitVec 3) (i : BitVec 13)
  /-- TELLER_MAXN (R282). -/
  | tellerMaxn (d : BitVec 3) (a : BitVec 3) (b : BitVec 3)
  /-- TELLER_MAXN_IMM (R282). -/
  | tellerMaxnImm (d : BitVec 3) (a : BitVec 3) (i : BitVec 13)
  /-- TELLER_FADD (R282). -/
  | tellerFadd (d : BitVec 3) (a : BitVec 3) (b : BitVec 3) (f : BitVec 3)
  /-- TELLER_FMIN (R282). -/
  | tellerFmin (d : BitVec 3) (a : BitVec 3) (b : BitVec 3) (f : BitVec 3)
  /-- TELLER_FMAX (R282). -/
  | tellerFmax (d : BitVec 3) (a : BitVec 3) (b : BitVec 3) (f : BitVec 3)
  /-- TELLER_CMP (R282). -/
  | tellerCmp (d : BitVec 3) (a : BitVec 3) (b : BitVec 3) (c : BitVec 3)
  /-- TELLER_CMP_IMM (R282). -/
  | tellerCmpImm (d : BitVec 3) (a : BitVec 3) (c : BitVec 3) (i : BitVec 13)
  /-- TELLER_SEL (R282). -/
  | tellerSel (d : BitVec 3) (a : BitVec 3) (b : BitVec 3) (c : BitVec 3)
  /-- TELLER_SAT (R282). -/
  | tellerSat (d : BitVec 3) (a : BitVec 3) (f : BitVec 3)
  /-- TELLER_MRG (R282). -/
  | tellerMrg (d : BitVec 3) (a : BitVec 3) (b : BitVec 3)
  /-- TELLER_LIMM (R282). -/
  | tellerLimm (d : BitVec 3) (i : BitVec 13)
  /-- POWER_ON_RESET (R432). -/
  | powerOnReset
  /-- WARM_RESET (R432). -/
  | warmReset
  /-- THERMAL_ALERT (R432). -/
  | thermalAlert
  /-- THERMAL_TRIP (R432). -/
  | thermalTrip
  /-- BOARD_INTERRUPT (R432). -/
  | boardInterrupt
  /-- OS_RESTART (R431). -/
  | osRestart (v : Word64)
  /-- REGISTER_WRITE (R5). -/
  | registerWrite (src : Writer) (off : Nat) (size : Nat) (v : Word64)
  /-- FRAME_ADVANCE (R14). -/
  | frameAdvance
  /-- DEADLINE_OVERRUN (R330). -/
  | deadlineOverrun (tenant : Nat)
  /-- TIMER_NOTICE_PENDING (R313). -/
  | timerNoticePending (core : Nat)
  /-- POOL_NODE_STEALABLE (R332). -/
  | poolNodeStealable (node : Nat)
  /-- WATCHDOG (R355). -/
  | watchdog (core : Nat)
  /-- WATCHDOG_DURING_SAVE (R356). -/
  | watchdogDuringSave (core : Nat)
  /-- QUEUE_DEADLOCK (R338). -/
  | queueDeadlock (tenant : Nat)
  /-- PREEMPT_REQUEST (R350). -/
  | preemptRequest (core : Nat)
  /-- PREEMPT_FORCED (R350). -/
  | preemptForced (core : Nat)
  /-- NOTICE_DELIVERY (R143). -/
  | noticeDelivery (core : Nat)
  /-- TRAP_ENTRY (R342). -/
  | trapEntry (core : Nat)
  /-- ESCALATION (R345). -/
  | escalation (core : Nat)
  /-- CONTAINMENT_UNWIND (R367). -/
  | containmentUnwind (core : Nat)
  /-- BUNDLE_ISSUE (R436). -/
  | bundleIssue (core : Nat)
  /-- RESULT_LANDING (R66). -/
  | resultLanding (core : Nat) (k : Nat)
  /-- NTREQ_RESULT (R316). -/
  | ntreqResult (core : Nat)
  /-- SETFMT_EFFECT (R185). -/
  | setfmtEffect (core : Nat)
  /-- ENGINE_UNIT_FAILURE (R149). -/
  | engineUnitFailure (core : Nat) (eng : Bool) (k : Nat)
  /-- ENGINE_REQUEST_COMPLETE (R147). -/
  | engineRequestComplete (core : Nat) (eng : Bool)
  /-- TILE_AVAILABLE (R154). -/
  | tileAvailable (core : Nat) (g : GReg)
  /-- LOAD_BLOCK_COMPLETE (R140). -/
  | loadBlockComplete (core : Nat) (tag : Nat)
  /-- MPASSD_START (R223). -/
  | mpassdStart (core : Nat)
  /-- PASS_COMMIT (R224). -/
  | passCommit (core : Nat) (k : Nat)
  /-- SLICE_HOLD (R280). -/
  | sliceHold (core : Nat) (k : Nat)
  /-- SCRUB_VISIT (R131). -/
  | scrubVisit (sector : Nat)
  /-- XINV_START (R110). -/
  | xinvStart (v : Word64)
  /-- XINV_COMPLETE (R110). -/
  | xinvComplete
  /-- TLINV_START (R279). -/
  | tlinvStart (v : Word64)
  /-- TLINV_COMPLETE (R279). -/
  | tlinvComplete
  /-- CSEM_ACQUIRE (R322). -/
  | csemAcquire (port : Bool)
  /-- CSEM_RELEASE (R322). -/
  | csemRelease (port : Bool)
  /-- LAUNCH (R323). -/
  | launch (port : Bool) (v : Word64)
  /-- RESUME (R323). -/
  | resume (port : Bool) (v : Word64)
  /-- DISCARD (R323). -/
  | discard (port : Bool) (v : Word64)
  /-- TASK_DISPATCH (R333). -/
  | taskDispatch (core : Nat)
  /-- ESC_DISCARD (R345). -/
  | escDiscard (core : Nat)
  /-- ESC_QUARANTINE (R345). -/
  | escQuarantine (core : Nat)
  /-- PAGEIN_REQUEST (R346). -/
  | pageinRequest (core : Nat) (v : Word64)
  /-- PAGEIN_DONE (R424). -/
  | pageinDone (core : Nat) (v : Word64)
  /-- SEMRAISE (R424). -/
  | semraise (v : Word64)
  /-- HWQ_CONFIGURE (R337). -/
  | hwqConfigure (port : Bool) (n : Nat) (v : Word64)
  /-- LCMAP_WRITE (R372). -/
  | lcmapWrite (port : Bool) (n : Nat) (v : Word64)
  /-- ENGINE_RESUME (R151). -/
  | engineResume (core : Nat)
  /-- ENGINE_ABORT (R151). -/
  | engineAbort (core : Nat)
  /-- SPLIT_WRITE (R123). -/
  | splitWrite (core : Nat) (v : Word64)
  /-- TCMP_WRITE (R313). -/
  | tcmpWrite (core : Nat) (v : Word64)
  /-- ROLLBACK (R391). -/
  | rollback (v : Word64)
  /-- ROLLBACK_MARKER_RECEIVE (R391). -/
  | rollbackMarkerReceive (link : Nat) (f : Flit)
  /-- LINK_TRAINED (R434). -/
  | linkTrained (link : Nat) (peer : Nat) (plink : Nat)
  /-- LINK_DOWN (R158). -/
  | linkDown (link : Nat)
  /-- DATA_FLIT_RECEIVE (R158). -/
  | dataFlitReceive (link : Nat) (f : Flit)
  /-- CREDIT_FLIT_RECEIVE (R158). -/
  | creditFlitReceive (link : Nat) (f : Flit)
  /-- ABORT_FLIT_RECEIVE (R158). -/
  | abortFlitReceive (link : Nat) (f : Flit)
  /-- MARKER_RECEIVE (R385). -/
  | markerReceive (link : Nat) (f : Flit)
  /-- CORE_CUT (R384). -/
  | coreCut (core : Nat)
  /-- CUT_FORCED (R384). -/
  | cutForced (core : Nat)
  /-- MODULE_CUT (R384). -/
  | moduleCut
  /-- SNAPSHOT_ARM (R384). -/
  | snapshotArm (die : Nat)
  /-- GRANULE_COPY (R113). -/
  | granuleCopy (granule : Nat)
  /-- BACKGROUND_COPY (R112). -/
  | backgroundCopy (granule : Nat)
  /-- MANIFEST_END (R390). -/
  | manifestEnd
  /-- SCAN_COMPLETE (R375). -/
  | scanComplete (core : Nat) (sig : Word64) (expected : Word64)
  /-- SCAN_ABORT (R376). -/
  | scanAbort (core : Nat)
  /-- DEVICE_REQUEST (R420). -/
  | deviceRequest (r : BusAccess)
  /-- DEMAND_COMPLETE (R241). -/
  | demandComplete (core : Nat) (node : Nat)
  /-- BREAK_EVALUATED (R258). -/
  | breakEvaluated (core : Nat) (density : Nat) (finite : Bool)
  /-- ARRAY_ERROR (R361). -/
  | arrayError (place : ArrayPlace) (fatal : Bool)
  /-- GENERAL_CORE_ACCESS (R302). -/
  | generalCoreAccess (r : BusAccess)
  /-- ENGINE_UNIT_WRITTEN (R144). -/
  | engineUnitWritten (core : Nat) (eng : Bool) (k : Nat)
  /-- MSTOREC_WRITES_PERFORMED (R227). -/
  | mstorecWritesPerformed (core : Nat)
  /-- THERMAL_ALERT_END (R432). -/
  | thermalAlertEnd
  /-- RECORD_REPROVISION (R430). -/
  | recordReprovision (r : Nat)
deriving DecidableEq, Repr

end Sys2Proof
end

