-- ==== Sys2Proof/Machine/Forms.lean ====
section
/-! DEFINITION. The rules on an instruction's own fields: the conditions of R62 to R65, R68 (within one slot), R77 and the
entries that depend on the slot word alone (orders 5 and 6 of R78), and the load checks of the Ovnath rows (R405, R406). -/

namespace Sys2Proof

/-- Why a slot word is not an instruction: the faults of orders 4, 5 and 6 of R78. -/
inductive FormErr where
  | undefinedOp
  | illegalBundle
  | illegalFormat
deriving DecidableEq, Repr

end Sys2Proof

namespace Sys2Proof.Machine

/-! ### The format sets of R69 -/

def isFS : Fmt → Bool | .f64 | .f32 => true | _ => false
def isFH : Fmt → Bool | .f32 | .bf16 | .f16 => true | _ => false
def isIA : Fmt → Bool | .int64 | .int32 => true | _ => false
def isNA : Fmt → Bool | .nat64 | .nat32 => true | _ => false
def isAF : Fmt → Bool | .f64 | .f32 | .bf16 => true | _ => false
def isFcvt (f : Fmt) : Bool := isFS f || isIA f || isNA f
def isFvIw (f : Fmt) : Bool := fmtIsIeee f || fmtIsIW f
def isFvIwB8 (f : Fmt) : Bool := fmtIsIeee f || fmtIsIW f || fmtIsB8 f
def isFvIs (f : Fmt) : Bool := fmtIsIeee f || (fmtIsIW f && fmtSigned fmtn5 f)
where fmtn5 : Fmtn := fmtnOf 5
def isAny (_ : Fmt) : Bool := true
def isN4 : Fmt → Bool | .int4 | .nat4 => true | _ => false
def isDot (f : Fmt) : Bool :=
  match f with | .int16 | .int8 | .nat16 | .nat8 | .int4 | .nat4 | .nfmt => true | _ => false
def isPass (f : Fmt) : Bool :=
  fmtIsIeee f || fmtIsB8 f || (match f with | .int8 | .nat8 | .int4 | .nat4 | .nfmt => true | _ => false)
def isPack (f : Fmt) : Bool := fmtIsIW f || fmtIsB8 f || isN4 f || f == .nfmt
def isFvB8 (f : Fmt) : Bool := fmtIsIeee f || fmtIsB8 f
def isBp (f : Fmt) : Bool :=
  fmtIsB8 f || (match f with | .int8 | .nat8 | .int4 | .nat4 | .nfmt => true | _ => false)

/-! ### Conditions on single fields -/

/-- CMP takes eq and ne without N, and never un or ord (R193). -/
def cmpCondOk (nat : Bool) (c : Cond) : Bool :=
  match c with | .un | .ord => false | .eq | .ne => !nat | _ => true
/-- An integer VCMP takes no un or ord, whether VCMP accepts the format or not (R65, R78, R207). -/
def vcmpCondOk (f : Fmt) (c : Cond) : Bool :=
  !fmtIsInt f || (match c with | .un | .ord => false | _ => true)
/-- SUB is 0 for integer formats, whether the opcode accepts the format or not (R78, R203). -/
def rmOk (f : Fmt) (r : RM) : Bool := !fmtIsInt f || r == .rne
/-- The V slot of a queue: its cluster (R33, R169). -/
def cluster (q : QReg) : Bool := q.getLsbD 5
/-- Both queues lie in one cluster (R169). -/
def sameCluster (p q : QReg) : Bool := cluster p == cluster q
/-- VSAT's target is narrower than its lane (R212): a check of the formats that VSAT accepts. -/
def vsatOk (f : Fmt) (t : BitVec 3) : Bool := 4 * 2 ^ (t.toNat % 4) < fmtWidth (fmtnOf 5) f
/-- An f64 accumulator operand is even (R222, R227). -/
def pairOk (f : Fmt) (d : AReg) : Bool := f != .f64 || d.toNat % 2 == 0
/-- The register number is even (R145, R274, R286). -/
def evenReg (d : SReg) : Bool := d.toNat % 2 == 0
/-- SEM is zero while SIG is 0 (R64). -/
def signalOk (s : Signal) : Bool := s.sig || s.sem == 0
/-- PACK and UNPK's container holds the element (R177). -/
def packOk (f : Fmt) (n : BitVec 2) : Bool :=
  fmtWidth (fmtnOf 5) f ≤ (match n.toNat with | 0 => 64 | 1 => 32 | 2 => 16 | _ => 8)
/-- SETFMT's image (R83). -/
def setfmtOk (i : BitVec 17) : Bool :=
  let x := i.toNat
  field x 13 4 == 0 && field x 1 3 ≤ 4 && field x 5 8 < 2 ^ (fmtnOf x).width
/-- GROW and SHRINK's count (R171). -/
def countOk (i : BitVec 17) : Bool := i.toNat % 4 == 0 && 4 ≤ i.toNat && i.toNat ≤ 64
/-- The CSR numbers that the CSR maps assign (R70). -/
def csrAssigned (n : BitVec 12) : Bool :=
  let x := n.toNat
  x == 0x001 || x == 0x002 || (0x100 ≤ x && x ≤ 0x106) || x == 0x108 || (0x110 ≤ x && x ≤ 0x11A)
    || (0x120 ≤ x && x ≤ 0x122) || (0x130 ≤ x && x ≤ 0x132) || (0x140 ≤ x && x ≤ 0x14A)
    || (0x150 ≤ x && x ≤ 0x155) || (0x158 ≤ x && x ≤ 0x15B) || (0x160 ≤ x && x ≤ 0x164)
    || (0x170 ≤ x && x ≤ 0x174) || x == 0x180 || x == 0x181
/-- The format codes 0 to 7 that an Ovnath F field names (R403). -/
def ovnFmt (f : BitVec 4) : Option Fmt := if f.toNat ≤ 7 then fmtOfCode f.toNat else none
/-- The Ovnath row's format is one that the named native opcode accepts (R406). -/
def ovnFmtIn (p : Fmt → Bool) (f : BitVec 4) : Bool := (ovnFmt f).elim false p
/-- The rounding mode of an X field; a reserved value names none (R65). -/
def rmOfBits (r : BitVec 3) : Option RM :=
  match r.toNat with | 0 => some .rne | 1 => some .rtz | 2 => some .rdn | 3 => some .rup | 4 => some .sr | _ => none
/-- An Ovnath RM field: a defined mode, and 0 for an integer format (R65, R203). -/
def ovnRmOk (f : BitVec 4) (r : BitVec 3) : Bool :=
  match ovnFmt f, rmOfBits r with | some f, some r => rmOk f r | _, _ => false
/-- The condition of a code, un and ord included (R65). -/
def condOfBits (c : BitVec 3) : Cond :=
  match c.toNat with | 0 => .eq | 1 => .ne | 2 => .lt | 3 => .le | 4 => .gt | 5 => .ge | 6 => .un | _ => .ord
/-- An Ovnath CMP's condition and N bit, under the rules of the native CMP (R405, R193). -/
def cmpCondOkBits (n : BitVec 1) (c : BitVec 3) : Bool := cmpCondOk (n == 1) (condOfBits c)
/-- An Ovnath VCMP's condition (R406, R207). -/
def ovnCondOk (f : BitVec 4) (c : BitVec 3) : Bool := (ovnFmt f).elim false fun f => vcmpCondOk f (condOfBits c)
/-- An Ovnath accumulator field names a0 to a7 (R402). -/
def ovnAcc (d : BitVec 5) : Bool := d.toNat ≤ 7

end Sys2Proof.Machine

namespace Sys2Proof

open Machine

/-- The field rules of an instruction that depend on its own word alone; the layout rules are the decoder's.
`none` when every rule holds (R62 to R65, R77, R78 orders 5 and 6). -/
def formFault : Instr → Option FormErr
  | .nop => none
  | .add _ _ _ _ => none
  | .sub _ _ _ _ => none
  | .and _ _ _ _ => none
  | .or _ _ _ _ => none
  | .xor _ _ _ _ => none
  | .shl _ _ _ _ => none
  | .shrl _ _ _ _ => none
  | .shra _ _ _ _ => none
  | .min _ _ _ _ => none
  | .max _ _ _ _ => none
  | .minn _ _ _ _ => none
  | .maxn _ _ _ _ => none
  | .mul _ _ _ _ => none
  | .mulh _ _ _ _ => none
  | .mulhn _ _ _ _ => none
  | .divs _ _ _ _ => none
  | .divn _ _ _ _ => none
  | .rems _ _ _ _ => none
  | .remn _ _ _ _ => none
  | .clz _ _ _ => none
  | .ctz _ _ _ => none
  | .popc _ _ _ => none
  | .sext _ _ _ _ => none
  | .zext _ _ _ _ => none
  | .addi _ _ _ _ => none
  | .andi _ _ _ _ => none
  | .ori _ _ _ _ => none
  | .xori _ _ _ _ => none
  | .shli _ _ _ _ => none
  | .shrli _ _ _ _ => none
  | .shrai _ _ _ _ => none
  | .limm _ _ _ => none
  | .limmh _ _ _ _ => none
  | .cmp _ _ _ _ nat cond => if cmpCondOk nat cond then none else some .illegalBundle
  | .pand _ _ _ _ => none
  | .por _ _ _ _ => none
  | .pxor _ _ _ _ => none
  | .pnot _ _ _ => none
  | .sel _ _ _ _ _ => none
  | .ldb _ _ _ _ => none
  | .ldbn _ _ _ _ => none
  | .ldh _ _ _ _ => none
  | .ldhn _ _ _ _ => none
  | .ldw _ _ _ _ => none
  | .ldwn _ _ _ _ => none
  | .ldd _ _ _ _ => none
  | .stb _ _ _ _ => none
  | .sth _ _ _ _ => none
  | .stw _ _ _ _ => none
  | .std _ _ _ _ => none
  | .fadd _ f _ _ _ _ => if isFS f then none else some .illegalFormat
  | .fsub _ f _ _ _ _ => if isFS f then none else some .illegalFormat
  | .fmul _ f _ _ _ _ => if isFS f then none else some .illegalFormat
  | .fma _ f _ _ _ _ => if isFS f then none else some .illegalFormat
  | .fdiv _ f _ _ _ _ => if isFS f then none else some .illegalFormat
  | .fsqrt _ f _ _ _ => if isFS f then none else some .illegalFormat
  | .fmin _ f _ _ _ => if isFS f then none else some .illegalFormat
  | .fmax _ f _ _ _ => if isFS f then none else some .illegalFormat
  | .fcmp _ f _ _ _ _ => if isFS f then none else some .illegalFormat
  | .fcvt _ f src _ _ _ => if isFcvt f && isFcvt src then none else some .illegalFormat
  | .aadd _ f _ d _ _ => if evenReg d then (if isIA f then none else some .illegalFormat) else some .illegalBundle
  | .aand _ f _ d _ _ => if evenReg d then (if isIA f then none else some .illegalFormat) else some .illegalBundle
  | .aor _ f _ d _ _ => if evenReg d then (if isIA f then none else some .illegalFormat) else some .illegalBundle
  | .axor _ f _ d _ _ => if evenReg d then (if isIA f then none else some .illegalFormat) else some .illegalBundle
  | .amin _ f _ d _ _ => if evenReg d then (if isIA f then none else some .illegalFormat) else some .illegalBundle
  | .amax _ f _ d _ _ => if evenReg d then (if isIA f then none else some .illegalFormat) else some .illegalBundle
  | .aswap _ f _ d _ _ => if evenReg d then (if isIA f then none else some .illegalFormat) else some .illegalBundle
  | .acas _ f _ d _ b => if evenReg d && evenReg b then (if isIA f then none else some .illegalFormat) else some .illegalBundle
  | .aminn _ f _ d _ _ => if evenReg d then (if isNA f then none else some .illegalFormat) else some .illegalBundle
  | .amaxn _ f _ d _ _ => if evenReg d then (if isNA f then none else some .illegalFormat) else some .illegalBundle
  | .afadd _ f _ d _ _ => if evenReg d then (if isAF f then none else some .illegalFormat) else some .illegalBundle
  | .afmin _ f _ d _ _ => if evenReg d then (if isAF f then none else some .illegalFormat) else some .illegalBundle
  | .afmax _ f _ d _ _ => if evenReg d then (if isAF f then none else some .illegalFormat) else some .illegalBundle
  | .tcall _ _ _ d _ b => if evenReg d && evenReg b then none else some .illegalBundle
  | .csrr _ _ n => if csrAssigned n then none else some .illegalBundle
  | .csrw _ n _ => if csrAssigned n then none else some .illegalBundle
  | .csrs _ n _ => if csrAssigned n then none else some .illegalBundle
  | .csrc _ n _ => if csrAssigned n then none else some .illegalBundle
  | .semadd _ _ _ => none
  | .vadd _ f r d a b => if rmOk f r && sameCluster d a.q && sameCluster d b.q then (if isFvIw f then none else some .illegalFormat) else some .illegalBundle
  | .vsub _ f r d a b => if rmOk f r && sameCluster d a.q && sameCluster d b.q then (if isFvIw f then none else some .illegalFormat) else some .illegalBundle
  | .vmul _ f r d a b => if rmOk f r && sameCluster d a.q && sameCluster d b.q then (if isFvIw f then none else some .illegalFormat) else some .illegalBundle
  | .vfma _ f r d a b => if rmOk f r && sameCluster d a.q && sameCluster d b.q then (if fmtIsIeee f then none else some .illegalFormat) else some .illegalBundle
  | .vfms _ f r d a b => if rmOk f r && sameCluster d a.q && sameCluster d b.q then (if fmtIsIeee f then none else some .illegalFormat) else some .illegalBundle
  | .vnfma _ f r d a b => if rmOk f r && sameCluster d a.q && sameCluster d b.q then (if fmtIsIeee f then none else some .illegalFormat) else some .illegalBundle
  | .vmin _ f d a b => if sameCluster d a.q && sameCluster d b.q then (if isFvIwB8 f then none else some .illegalFormat) else some .illegalBundle
  | .vmax _ f d a b => if sameCluster d a.q && sameCluster d b.q then (if isFvIwB8 f then none else some .illegalFormat) else some .illegalBundle
  | .vabs _ f d a => if sameCluster d a.q then (if isFvIs f then none else some .illegalFormat) else some .illegalBundle
  | .vneg _ f d a => if sameCluster d a.q then (if isFvIs f then none else some .illegalFormat) else some .illegalBundle
  | .vadif _ f r d a b => if rmOk f r && sameCluster d a.q && sameCluster d b.q then (if isFvIw f then none else some .illegalFormat) else some .illegalBundle
  | .vcmp _ f cond d a b => if vcmpCondOk f cond && sameCluster d a.q && sameCluster d b.q then (if isFvIwB8 f then none else some .illegalFormat) else some .illegalBundle
  | .vsel _ f d a b => if sameCluster d a.q && sameCluster d b.q then (if isFvIwB8 f then none else some .illegalFormat) else some .illegalBundle
  | .vand _ d a b => if sameCluster d a.q && sameCluster d b.q then none else some .illegalBundle
  | .vor _ d a b => if sameCluster d a.q && sameCluster d b.q then none else some .illegalBundle
  | .vxor _ d a b => if sameCluster d a.q && sameCluster d b.q then none else some .illegalBundle
  | .vnot _ d a => if sameCluster d a.q then none else some .illegalBundle
  | .vshl _ f d a b => if sameCluster d a.q && sameCluster d b.q then (if fmtIsIW f then none else some .illegalFormat) else some .illegalBundle
  | .vshrl _ f d a b => if sameCluster d a.q && sameCluster d b.q then (if fmtIsIW f then none else some .illegalFormat) else some .illegalBundle
  | .vshra _ f d a b => if sameCluster d a.q && sameCluster d b.q then (if fmtIsIW f then none else some .illegalFormat) else some .illegalBundle
  | .vcvt _ _ _ _ _ d a => if sameCluster d a.q then none else some .illegalBundle
  | .vsat _ f t d a => if (!fmtIsIW f || vsatOk f t) && sameCluster d a.q then (if fmtIsIW f then none else some .illegalFormat) else some .illegalBundle
  | .vrcp _ f r d a => if rmOk f r && sameCluster d a.q then (if isFH f then none else some .illegalFormat) else some .illegalBundle
  | .vrsq _ f r d a => if rmOk f r && sameCluster d a.q then (if isFH f then none else some .illegalFormat) else some .illegalBundle
  | .vexp2 _ f r d a => if rmOk f r && sameCluster d a.q then (if isFH f then none else some .illegalFormat) else some .illegalBundle
  | .vlog2 _ f r d a => if rmOk f r && sameCluster d a.q then (if isFH f then none else some .illegalFormat) else some .illegalBundle
  | .vdot _ f d a b => if sameCluster d a.q && sameCluster d b.q then (if isDot f then none else some .illegalFormat) else some .illegalBundle
  | .vredadd _ f r d a => if rmOk f r && sameCluster d a.q then (if isFvIw f then none else some .illegalFormat) else some .illegalBundle
  | .vredmin _ f d a => if sameCluster d a.q then (if isFvIw f then none else some .illegalFormat) else some .illegalBundle
  | .vredmax _ f d a => if sameCluster d a.q then (if isFvIw f then none else some .illegalFormat) else some .illegalBundle
  | .vbcast _ f _ _ => if isFvIw f then none else some .illegalFormat
  | .vextr _ f _ _ _ => if isFvIw f then none else some .illegalFormat
  | .viota _ f _ => if fmtIsIW f then none else some .illegalFormat
  | .vmov _ d a => if sameCluster d a.q then none else some .illegalBundle
  | .vpop _ _ => none
  | .vany _ f _ _ => if fmtIsIW f then none else some .illegalFormat
  | .vall _ f _ _ => if fmtIsIW f then none else some .illegalFormat
  | .vcnt _ f _ _ => if fmtIsIW f then none else some .illegalFormat
  | .vld _ m _ _ _ => if m.toNat ≤ 2 then none else some .illegalBundle
  | .vlds _ m _ _ _ _ => if m.toNat ≤ 2 then none else some .illegalBundle
  | .vst _ m _ _ _ => if m.toNat ≤ 1 then none else some .illegalBundle
  | .vsts _ m _ _ _ _ => if m.toNat ≤ 1 then none else some .illegalBundle
  | .mpass _ f _ _ d a b => if pairOk f d && a.g != b.g then (if isPass f then none else some .illegalFormat) else some .illegalBundle
  | .mpassd _ f _ _ d _ _ => if pairOk f d then (if isPass f then none else some .illegalFormat) else some .illegalBundle
  | .mzero _ _ => none
  | .mloadc _ _ _ => none
  | .mstorec _ f _ _ a _ => if pairOk f a then (if isFvIwB8 f then none else some .illegalFormat) else some .illegalBundle
  | .mread _ _ _ _ => none
  | .mwrite _ _ _ _ => none
  | .mcsq _ _ _ _ => none
  | .lmul _ _ _ _ _ => none
  | .ladd _ _ _ _ _ => none
  | .lmap _ _ _ _ _ => none
  | .lfilt _ _ _ _ _ => none
  | .lred _ _ _ _ _ => none
  | .lgath _ _ _ _ _ => none
  | .lscat _ _ _ _ _ => none
  | .lcvt _ _ _ _ _ => none
  | .lxpose _ _ _ _ _ => none
  | .lslice _ _ _ _ _ => none
  | .lstore _ _ _ _ => none
  | .phint _ _ => none
  | .ppin _ _ => none
  | .punpin _ _ => none
  | .pstatScan _ _ => none
  | .pstatSet _ _ _ => none
  | .pstatr _ _ _ _ => none
  | .pquery _ _ _ => none
  | .pdrop _ _ => none
  | .cpy _ _ sg _ _ _ _ => if signalOk sg then none else some .illegalBundle
  | .cpyw _ _ sg _ _ _ b => if evenReg b && b != 0 && signalOk sg then none else some .illegalBundle
  | .cpyt _ _ sg _ _ _ _ => if signalOk sg then none else some .illegalBundle
  | .ldblk _ _ sg _ _ _ _ => if signalOk sg then none else some .illegalBundle
  | .wbblk _ _ sg _ => if signalOk sg then none else some .illegalBundle
  | .evblk _ _ sg _ => if signalOk sg then none else some .illegalBundle
  | .rpush _ _ sg _ _ _ _ => if signalOk sg then none else some .illegalBundle
  | .gath _ _ sg _ _ _ b => if evenReg b && b != 0 && signalOk sg then none else some .illegalBundle
  | .scat _ _ sg _ _ _ b => if evenReg b && b != 0 && signalOk sg then none else some .illegalBundle
  | .scata _ _ sg _ op _ _ _ b => if evenReg b && b != 0 && op.toNat ≤ 2 && signalOk sg then none else some .illegalBundle
  | .red _ _ sg _ op _ _ _ _ => if op.toNat ≤ 2 && signalOk sg then none else some .illegalBundle
  | .collAg _ _ sg _ _ _ => if signalOk sg then none else some .illegalBundle
  | .collRs _ _ sg _ _ _ => if signalOk sg then none else some .illegalBundle
  | .collAr _ _ sg _ _ _ => if signalOk sg then none else some .illegalBundle
  | .collBc _ _ sg _ _ _ => if signalOk sg then none else some .illegalBundle
  | .collA2a _ _ sg _ _ _ => if signalOk sg then none else some .illegalBundle
  | .send _ _ sg _ _ _ _ => if signalOk sg then none else some .illegalBundle
  | .recv _ _ sg _ _ _ _ => if signalOk sg then none else some .illegalBundle
  | .slotq _ _ _ _ => none
  | .pack _ f n _ _ => if packOk f n then (if isPack f then none else some .illegalFormat) else some .illegalBundle
  | .unpk _ f n _ _ => if packOk f n then (if isPack f then none else some .illegalFormat) else some .illegalBundle
  | .scal _ f _ _ _ _ => if isFvB8 f then none else some .illegalFormat
  | .scld _ _ _ => none
  | .shuf _ f _ _ _ => if fmtIsIW f then none else some .illegalFormat
  | .xpose _ f _ _ => if fmtIsIW f then none else some .illegalFormat
  | .rotl _ f _ _ _ => if fmtIsIW f then none else some .illegalFormat
  | .bplx _ f _ _ _ => if isBp f then none else some .illegalFormat
  | .bplm _ f _ _ _ => if isBp f then none else some .illegalFormat
  | .xmv _ _ _ => none
  | .intl _ f _ _ _ _ => if fmtIsIW f then none else some .illegalFormat
  | .dintl _ f _ _ _ _ => if fmtIsIW f then none else some .illegalFormat
  | .setfmt _ i => if setfmtOk i then none else some .illegalBundle
  | .lselLdd _ _ _ _ => none
  | .lselStd _ _ _ _ => none
  | .lselLdg _ _ _ _ => none
  | .lselStg _ _ _ _ => none
  | .ntreq _ => none
  | .br _ _ => none
  | .brp _ _ _ => none
  | .bri _ _ => none
  | .call _ _ _ => none
  | .ret _ _ => none
  | .loop _ _ _ => none
  | .wait _ _ _ => none
  | .waitCon _ _ _ => none
  | .nret _ => none
  | .trap _ _ => none
  | .sysc _ _ _ => none
  | .halt _ => none
  | .yield _ => none
  | .cropen _ _ => none
  | .crclose _ => none
  | .fence _ ca cb _ _ => if ca != 0 && cb != 0 then none else some .illegalBundle
  | .snap _ => none
  | .force _ _ _ => none
  | .grow _ i => if countOk i then none else some .illegalBundle
  | .shrink _ i => if countOk i then none else some .illegalBundle
  | .taskend _ => none
  | .spawn _ sig w _ => if (sig || w == 0) then none else some .illegalBundle
  | .enq _ _ _ => none
  | .deq _ _ _ => none
  | .scan _ _ _ _ => none
  | .lcmapw _ _ _ => none
  | .eret _ => none
  | .ctxsv _ _ => none
  | .ctxld _ _ => none
  | .ovnAdd _ _ _ => none
  | .ovnSub _ _ _ => none
  | .ovnMul _ _ _ => none
  | .ovnDiv _ _ _ => none
  | .ovnAnd _ _ _ => none
  | .ovnOr _ _ _ => none
  | .ovnXor _ _ _ => none
  | .ovnShl _ _ _ => none
  | .ovnShr _ _ _ => none
  | .ovnShra _ _ _ => none
  | .ovnAddi _ _ _ => none
  | .ovnLi _ _ => none
  | .ovnLis _ _ => none
  | .ovnCmp _ _ _ n c => if cmpCondOkBits n c then none else some .illegalBundle
  | .ovnLd _ _ _ => none
  | .ovnSt _ _ _ => none
  | .ovnJ _ => none
  | .ovnJk _ _ => none
  | .ovnCall _ _ => none
  | .ovnRet _ => none
  | .ovnEnd => none
  | .ovnTrap _ => none
  | .ovnSys _ _ => none
  | .ovnVadd _ _ _ f r => if ovnFmtIn isFvIw f && ovnRmOk f r then none else some .illegalBundle
  | .ovnVsub _ _ _ f r => if ovnFmtIn isFvIw f && ovnRmOk f r then none else some .illegalBundle
  | .ovnVmul _ _ _ f r => if ovnFmtIn isFvIw f && ovnRmOk f r then none else some .illegalBundle
  | .ovnVfma _ _ _ f r => if ovnFmtIn fmtIsIeee f && ovnRmOk f r then none else some .illegalBundle
  | .ovnVmin _ _ _ f r => if ovnFmtIn isFvIwB8 f && r == 0 then none else some .illegalBundle
  | .ovnVmax _ _ _ f r => if ovnFmtIn isFvIwB8 f && r == 0 then none else some .illegalBundle
  | .ovnVcmp _ _ _ f c => if ovnFmtIn isFvIwB8 f && ovnCondOk f c then none else some .illegalBundle
  | .ovnVsel _ _ _ f => if ovnFmtIn isFvIwB8 f then none else some .illegalBundle
  | .ovnVcvt _ _ _ f r => if (ovnFmt f).isSome && (rmOfBits r).isSome then none else some .illegalBundle
  | .ovnVbc _ _ f => if ovnFmtIn isFvIw f then none else some .illegalBundle
  | .ovnVred _ _ f r => if ovnFmtIn isFvIw f && ovnRmOk f r then none else some .illegalBundle
  | .ovnVdot _ _ _ f r => if ovnFmtIn isFvIw f && ovnRmOk f r then none else some .illegalBundle
  | .ovnVld _ _ _ => none
  | .ovnVst _ _ _ => none
  | .ovnVext _ _ _ f => if ovnFmtIn isFvIw f then none else some .illegalBundle
  | .ovnMz d => if ovnAcc d then none else some .illegalBundle
  | .ovnMma d _ _ f => if ovnAcc d && ovnFmtIn isPass f then none else some .illegalBundle
  | .ovnMst _ a _ f r => if ovnAcc a && ovnFmtIn isFvIwB8 f && (rmOfBits r).isSome then none else some .illegalBundle
  | .ovnMrd _ a _ => if ovnAcc a then none else some .illegalBundle
  | .tellerLdw _ _ _ => none
  | .tellerLdd _ _ _ => none
  | .tellerStw _ _ _ => none
  | .tellerStd _ _ _ => none
  | .tellerAdd _ _ _ => none
  | .tellerAddImm _ _ _ => none
  | .tellerSub _ _ _ => none
  | .tellerSubImm _ _ _ => none
  | .tellerAnd _ _ _ => none
  | .tellerAndImm _ _ _ => none
  | .tellerOr _ _ _ => none
  | .tellerOrImm _ _ _ => none
  | .tellerXor _ _ _ => none
  | .tellerXorImm _ _ _ => none
  | .tellerShl _ _ _ => none
  | .tellerShlImm _ _ _ => none
  | .tellerShrl _ _ _ => none
  | .tellerShrlImm _ _ _ => none
  | .tellerShra _ _ _ => none
  | .tellerShraImm _ _ _ => none
  | .tellerMin _ _ _ => none
  | .tellerMinImm _ _ _ => none
  | .tellerMax _ _ _ => none
  | .tellerMaxImm _ _ _ => none
  | .tellerMinn _ _ _ => none
  | .tellerMinnImm _ _ _ => none
  | .tellerMaxn _ _ _ => none
  | .tellerMaxnImm _ _ _ => none
  | .tellerFadd _ _ _ f => if f.toNat ≤ 2 then none else some .illegalBundle
  | .tellerFmin _ _ _ f => if f.toNat ≤ 2 then none else some .illegalBundle
  | .tellerFmax _ _ _ f => if f.toNat ≤ 2 then none else some .illegalBundle
  | .tellerCmp _ _ _ _ => none
  | .tellerCmpImm _ _ _ _ => none
  | .tellerSel _ _ _ _ => none
  | .tellerSat _ _ f => if f.toNat ≤ 5 then none else some .illegalBundle
  | .tellerMrg _ _ _ => none
  | .tellerLimm _ _ => none
  | .powerOnReset => none
  | .warmReset => none
  | .thermalAlert => none
  | .thermalTrip => none
  | .boardInterrupt => none
  | .osRestart _ => none
  | .registerWrite _ _ _ _ => none
  | .frameAdvance => none
  | .deadlineOverrun _ => none
  | .timerNoticePending _ => none
  | .poolNodeStealable _ => none
  | .watchdog _ => none
  | .watchdogDuringSave _ => none
  | .queueDeadlock _ => none
  | .preemptRequest _ => none
  | .preemptForced _ => none
  | .noticeDelivery _ => none
  | .trapEntry _ => none
  | .escalation _ => none
  | .containmentUnwind _ => none
  | .bundleIssue _ => none
  | .resultLanding _ _ => none
  | .ntreqResult _ => none
  | .setfmtEffect _ => none
  | .engineUnitFailure _ _ _ => none
  | .engineRequestComplete _ _ => none
  | .tileAvailable _ _ => none
  | .loadBlockComplete _ _ => none
  | .mpassdStart _ => none
  | .passCommit _ _ => none
  | .sliceHold _ _ => none
  | .scrubVisit _ => none
  | .xinvStart _ => none
  | .xinvComplete => none
  | .tlinvStart _ => none
  | .tlinvComplete => none
  | .csemAcquire _ => none
  | .csemRelease _ => none
  | .launch _ _ => none
  | .resume _ _ => none
  | .discard _ _ => none
  | .taskDispatch _ => none
  | .escDiscard _ => none
  | .escQuarantine _ => none
  | .pageinRequest _ _ => none
  | .pageinDone _ _ => none
  | .semraise _ => none
  | .hwqConfigure _ _ _ => none
  | .lcmapWrite _ _ _ => none
  | .engineResume _ => none
  | .engineAbort _ => none
  | .splitWrite _ _ => none
  | .tcmpWrite _ _ => none
  | .rollback _ => none
  | .rollbackMarkerReceive _ _ => none
  | .linkTrained _ _ _ => none
  | .linkDown _ => none
  | .dataFlitReceive _ _ => none
  | .creditFlitReceive _ _ => none
  | .abortFlitReceive _ _ => none
  | .markerReceive _ _ => none
  | .coreCut _ => none
  | .cutForced _ => none
  | .moduleCut => none
  | .snapshotArm _ => none
  | .granuleCopy _ => none
  | .backgroundCopy _ => none
  | .manifestEnd => none
  | .scanComplete _ _ _ => none
  | .scanAbort _ => none
  | .deviceRequest _ => none
  | .demandComplete _ _ => none
  | .breakEvaluated _ _ _ => none
  | .arrayError _ _ => none
  | .generalCoreAccess _ => none
  | .engineUnitWritten _ _ _ => none
  | .mstorecWritesPerformed _ => none
  | .thermalAlertEnd => none
  | .recordReprovision _ => none

end Sys2Proof
end

