-- ==== Sys2Proof/WellFormed.lean ====
section
/-! DEFINITION. Which instructions are well formed: those that meet every rule of Machine/Forms.lean on their own fields. -/

namespace Sys2Proof

/-- An instruction that meets every rule on its own word. -/
def WellFormed (i : Instr) : Bool := (formFault i).isNone

end Sys2Proof
end

