-- ==== Sys2Proof/Decode.lean ====
section
/-! DEFINITION. Decoding: slot words, bundles in both forms, teller words and Ovnath bundles (R53 to R77, R281, R403), total on
any bits and refusing by name; and the encoder. -/

namespace Sys2Proof

open Machine

/-! ### The slot word -/

/-- The fields of a slot word (R60). -/
structure SlotWord where
  opc : BitVec 8
  pn : Bool
  pred : BitVec 6
  dst : BitVec 6
  sa : BitVec 6
  sb : BitVec 6
  mod : BitVec 11
deriving DecidableEq, Repr

/-- The fields of a 44-bit word (R60). -/
def splitSlot (x : BitVec 44) : SlotWord where
  opc := x.extractLsb' 36 8
  pn := x.getLsbD 35
  pred := x.extractLsb' 29 6
  dst := x.extractLsb' 23 6
  sa := x.extractLsb' 17 6
  sb := x.extractLsb' 11 6
  mod := x.extractLsb' 0 11

/-- The 44-bit word of the fields (R60). -/
def packSlot (w : SlotWord) : BitVec 44 :=
  w.opc ++ BitVec.ofBool w.pn ++ w.pred ++ w.dst ++ w.sa ++ w.sb ++ w.mod

/-- The guard of a slot word (R61). -/
def guardOf (w : SlotWord) : Guard := ⟨w.pn, w.pred⟩

/-- IMM17: SB above MOD (R60). -/
def imm17Of (w : SlotWord) : BitVec 17 := w.sb ++ w.mod

/-! ### Small fields -/

def ofBool (b : Bool) : BitVec 1 := BitVec.ofBool b
def ofBool3 (b : Bool) : BitVec 3 := if b then 1 else 0
def ofBool11 (b : Bool) : BitVec 11 := if b then 1 else 0
def immHi (i : BitVec 17) : BitVec 6 := i.extractLsb' 11 6
def immLo (i : BitVec 17) : BitVec 11 := i.extractLsb' 0 11
def csrHi (n : BitVec 12) : BitVec 6 := (n.extractLsb' 11 1).zeroExtend 6
def csrLo (n : BitVec 12) : BitVec 11 := n.extractLsb' 0 11

/-- The code of a condition (R65). -/
def condBits : Cond → BitVec 3
  | .eq => 0 | .ne => 1 | .lt => 2 | .le => 3 | .gt => 4 | .ge => 5 | .un => 6 | .ord => 7
/-- The code of a rounding mode (R65). -/
def rmBits : RM → BitVec 3
  | .rne => 0 | .rtz => 1 | .rdn => 2 | .rup => 3 | .sr => 4
/-- The code of a scope (R65). -/
def scopeBits : Scope → BitVec 2
  | .core => 0 | .die => 1 | .pkg => 2 | .job => 3
/-- The scope of a code (R65). -/
def scopeOfBits (s : BitVec 2) : Scope :=
  match s.toNat with | 0 => .core | 1 => .die | 2 => .pkg | _ => .job
/-- The code of a format (R77). -/
def fmtBits (f : Fmt) : BitVec 6 := BitVec.ofNat 6 (codeOfFmt f)
/-- The format of a code; a reserved code names none (R77). -/
def fmtOfBits (x : BitVec 6) : Option Fmt := fmtOfCode x.toNat

/-- MOD of V, X and M: FMT, KA, KB, SUB (R64). -/
def vMod (f : Fmt) (ka kb : Bool) (sub : BitVec 3) : BitVec 11 := fmtBits f ++ ofBool ka ++ ofBool kb ++ sub
/-- MOD of C: SEM, SIG, SCOPE, SUB (R64). -/
def cMod (s : Signal) (sc : Scope) (sub : BitVec 3) : BitVec 11 := s.sem ++ ofBool s.sig ++ scopeBits sc ++ sub
/-- A ring source of a pass: keep bit and ring number (R222). -/
def ringBits (g : GSrc) : BitVec 6 := 0#1 ++ ofBool g.keep ++ g.g

def modFmt (w : SlotWord) : BitVec 6 := w.mod.extractLsb' 5 6
def modKA (w : SlotWord) : Bool := w.mod.getLsbD 4
def modKB (w : SlotWord) : Bool := w.mod.getLsbD 3
def modSub (w : SlotWord) : BitVec 3 := w.mod.extractLsb' 0 3
def modRM (w : SlotWord) : BitVec 3 := w.mod.extractLsb' 2 3
def modScope (w : SlotWord) : Scope := scopeOfBits (w.mod.extractLsb' 3 2)
def qsA (w : SlotWord) : QSrc := ⟨w.sa, modKA w⟩
def qsB (w : SlotWord) : QSrc := ⟨w.sb, modKB w⟩
def sigOf (w : SlotWord) : Signal := ⟨w.mod.extractLsb' 6 5, w.mod.getLsbD 5⟩
def ringOf (x : BitVec 6) : GSrc := ⟨x.extractLsb' 0 4, x.getLsbD 4⟩

/-- A result under a condition whose failure is ILLEGAL-BUNDLE (R62, R64). -/
def need {α : Type} (c : Bool) (k : Except FormErr α) : Except FormErr α :=
  if c then k else .error .illegalBundle
/-- A result for a value whose absence is ILLEGAL-BUNDLE: a reserved code (R65, R77). -/
def want {α β : Type} (o : Option β) (k : β → Except FormErr α) : Except FormErr α :=
  match o with | some b => k b | none => .error .illegalBundle

/-- The accumulator of a register field; 16 and above is ILLEGAL-BUNDLE (R62). -/
def reg4 (x : BitVec 6) : Option (BitVec 4) := if x.toNat < 16 then some (x.extractLsb' 0 4) else none
/-- The descriptor or semaphore of a register field (R62). -/
def reg5 (x : BitVec 6) : Option (BitVec 5) := if x.toNat < 32 then some (x.extractLsb' 0 5) else none
/-- A SUB value below 4 as two bits. -/
def sub2 (x : BitVec 3) : Option (BitVec 2) := if x.toNat < 4 then some (x.extractLsb' 0 2) else none
/-- A SUB value below 2 as one bit. -/
def sub1 (x : BitVec 3) : Option Bool := if x.toNat < 2 then some (x.getLsbD 0) else none

/-! ### Forms: the layout checks of R62 to R64, and the fields handed on -/

section forms
variable (w : SlotWord)

def dSRRR (k : Guard → BitVec 6 → BitVec 6 → BitVec 6 → Instr) : Except FormErr Instr :=
  need (w.mod == 0) (.ok (k (guardOf w) w.dst w.sa w.sb))
def dSRR (k : Guard → BitVec 6 → BitVec 6 → Instr) : Except FormErr Instr :=
  need (w.mod == 0 && w.sb == 0) (.ok (k (guardOf w) w.dst w.sa))
def dSRRn (k : Guard → SReg → SReg → BitVec 6 → Instr) : Except FormErr Instr :=
  need (w.mod == 0) (.ok (k (guardOf w) w.dst w.sa w.sb))
def dSRI (k : Guard → SReg → SReg → BitVec 17 → Instr) : Except FormErr Instr :=
  .ok (k (guardOf w) w.dst w.sa (imm17Of w))
def dSRIs (k : Guard → SReg → SReg → BitVec 6 → Instr) : Except FormErr Instr :=
  need (w.sb == 0 && decide (w.mod.toNat < 64)) (.ok (k (guardOf w) w.dst w.sa (w.mod.extractLsb' 0 6)))
def dSLIM (k : Guard → SReg → BitVec 17 → Instr) : Except FormErr Instr :=
  need (w.sa == 0) (.ok (k (guardOf w) w.dst (imm17Of w)))
def dSLH (k : Guard → SReg → BitVec 2 → BitVec 16 → Instr) : Except FormErr Instr :=
  need (decide (w.sa.toNat < 4) && !(imm17Of w).getLsbD 16)
    (.ok (k (guardOf w) w.dst (w.sa.extractLsb' 0 2) ((imm17Of w).extractLsb' 0 16)))
def dSCMP (k : Guard → PReg → SReg → SReg → Bool → Cond → Instr) : Except FormErr Instr :=
  need (w.mod.extractLsb' 4 7 == 0) (.ok (k (guardOf w) w.dst w.sa w.sb (w.mod.getLsbD 3) (condOfBits (modSub w))))
def dSSEL (k : Guard → SReg → PReg → SReg → SReg → Instr) : Except FormErr Instr :=
  need (w.mod.extractLsb' 6 5 == 0) (.ok (k (guardOf w) w.dst (w.mod.extractLsb' 0 6) w.sa w.sb))
def dSF3 (k : Guard → Fmt → RM → SReg → SReg → SReg → Instr) : Except FormErr Instr :=
  need (w.mod.extractLsb' 0 2 == 0) (want (fmtOfBits (modFmt w)) fun f => want (rmOfBits (modRM w)) fun r =>
    .ok (k (guardOf w) f r w.dst w.sa w.sb))
def dSF2 (k : Guard → Fmt → RM → SReg → SReg → Instr) : Except FormErr Instr :=
  need (w.mod.extractLsb' 0 2 == 0 && w.sb == 0) (want (fmtOfBits (modFmt w)) fun f => want (rmOfBits (modRM w)) fun r =>
    .ok (k (guardOf w) f r w.dst w.sa))
def dSF3n (k : Guard → Fmt → SReg → SReg → SReg → Instr) : Except FormErr Instr :=
  need (w.mod.extractLsb' 0 5 == 0) (want (fmtOfBits (modFmt w)) fun f => .ok (k (guardOf w) f w.dst w.sa w.sb))
def dSFCMP (k : Guard → Fmt → Cond → PReg → SReg → SReg → Instr) : Except FormErr Instr :=
  need (w.mod.extractLsb' 3 2 == 0) (want (fmtOfBits (modFmt w)) fun f =>
    .ok (k (guardOf w) f (condOfBits (modSub w)) w.dst w.sa w.sb))
def dSFCVT (k : Guard → Fmt → Fmt → RM → SReg → SReg → Instr) : Except FormErr Instr :=
  need (w.mod.extractLsb' 0 2 == 0) (want (fmtOfBits (modFmt w)) fun f => want (fmtOfBits w.sb) fun s =>
    want (rmOfBits (modRM w)) fun r => .ok (k (guardOf w) f s r w.dst w.sa))
def dSATM (k : Guard → Fmt → Scope → SReg → SReg → SReg → Instr) : Except FormErr Instr :=
  need (modSub w == 0) (want (fmtOfBits (modFmt w)) fun f => .ok (k (guardOf w) f (modScope w) w.dst w.sa w.sb))
def dSTCALL (k : Guard → BitVec 6 → Scope → SReg → SReg → SReg → Instr) : Except FormErr Instr :=
  need (modSub w == 0) (.ok (k (guardOf w) (modFmt w) (modScope w) w.dst w.sa w.sb))
def csrOf : BitVec 12 := w.sb.extractLsb' 0 1 ++ w.mod
def dSCSRR (k : Guard → SReg → BitVec 12 → Instr) : Except FormErr Instr :=
  need (w.sa == 0 && decide (w.sb.toNat < 2)) (.ok (k (guardOf w) w.dst (csrOf w)))
def dSCSRW (k : Guard → BitVec 12 → SReg → Instr) : Except FormErr Instr :=
  need (w.dst == 0 && decide (w.sb.toNat < 2)) (.ok (k (guardOf w) (csrOf w) w.sa))
def dSSEM (k : Guard → WReg → SReg → Instr) : Except FormErr Instr :=
  need (w.mod == 0 && w.sb == 0) (want (reg5 w.dst) fun d => .ok (k (guardOf w) d w.sa))

def dV3r (k : Guard → Fmt → RM → QReg → QSrc → QSrc → Instr) : Except FormErr Instr :=
  want (fmtOfBits (modFmt w)) fun f => want (rmOfBits (modSub w)) fun r => .ok (k (guardOf w) f r w.dst (qsA w) (qsB w))
def dV3 (k : Guard → Fmt → QReg → QSrc → QSrc → Instr) : Except FormErr Instr :=
  need (modSub w == 0) (want (fmtOfBits (modFmt w)) fun f => .ok (k (guardOf w) f w.dst (qsA w) (qsB w)))
def dV2 (k : Guard → Fmt → QReg → QSrc → Instr) : Except FormErr Instr :=
  need (modSub w == 0 && !modKB w && w.sb == 0) (want (fmtOfBits (modFmt w)) fun f => .ok (k (guardOf w) f w.dst (qsA w)))
def dV2r (k : Guard → Fmt → RM → QReg → QSrc → Instr) : Except FormErr Instr :=
  need (!modKB w && w.sb == 0) (want (fmtOfBits (modFmt w)) fun f => want (rmOfBits (modSub w)) fun r =>
    .ok (k (guardOf w) f r w.dst (qsA w)))
def dVCMP (k : Guard → Fmt → Cond → QReg → QSrc → QSrc → Instr) : Except FormErr Instr :=
  want (fmtOfBits (modFmt w)) fun f => .ok (k (guardOf w) f (condOfBits (modSub w)) w.dst (qsA w) (qsB w))
def dV3n (k : Guard → QReg → QSrc → QSrc → Instr) : Except FormErr Instr :=
  need (modFmt w == 0 && modSub w == 0) (.ok (k (guardOf w) w.dst (qsA w) (qsB w)))
def dV2n (k : Guard → QReg → QSrc → Instr) : Except FormErr Instr :=
  need (modFmt w == 0 && modSub w == 0 && !modKB w && w.sb == 0) (.ok (k (guardOf w) w.dst (qsA w)))
def dVCVT (k : Guard → Fmt → Fmt → RM → Bool → QReg → QSrc → Instr) : Except FormErr Instr :=
  want (fmtOfBits (modFmt w)) fun f => want (fmtOfBits w.sb) fun s => want (rmOfBits (modSub w)) fun r =>
    .ok (k (guardOf w) f s r (modKB w) w.dst (qsA w))
def dVSAT (k : Guard → Fmt → BitVec 3 → QReg → QSrc → Instr) : Except FormErr Instr :=
  need (!modKB w && w.sb == 0) (want (fmtOfBits (modFmt w)) fun f => .ok (k (guardOf w) f (modSub w) w.dst (qsA w)))
def dVBC (k : Guard → Fmt → QReg → SReg → Instr) : Except FormErr Instr :=
  need (modSub w == 0 && !modKA w && !modKB w && w.sb == 0) (want (fmtOfBits (modFmt w)) fun f =>
    .ok (k (guardOf w) f w.dst w.sa))
def dVEX (k : Guard → Fmt → SReg → QSrc → SReg → Instr) : Except FormErr Instr :=
  need (modSub w == 0 && !modKB w) (want (fmtOfBits (modFmt w)) fun f => .ok (k (guardOf w) f w.dst (qsA w) w.sb))
def dVIO (k : Guard → Fmt → QReg → Instr) : Except FormErr Instr :=
  need (modSub w == 0 && !modKA w && !modKB w && w.sa == 0 && w.sb == 0) (want (fmtOfBits (modFmt w)) fun f =>
    .ok (k (guardOf w) f w.dst))
def dVPOP (k : Guard → QReg → Instr) : Except FormErr Instr :=
  need (w.mod == 0 && w.dst == 0 && w.sb == 0) (.ok (k (guardOf w) w.sa))
def dVAN (k : Guard → Fmt → BitVec 6 → QSrc → Instr) : Except FormErr Instr :=
  need (modSub w == 0 && !modKB w && w.sb == 0) (want (fmtOfBits (modFmt w)) fun f => .ok (k (guardOf w) f w.dst (qsA w)))
def vOff : BitVec 8 := w.mod.extractLsb' 3 8
def dVMEM (k : Guard → BitVec 2 → QReg → SReg → BitVec 8 → Instr) : Except FormErr Instr :=
  need (w.sb == 0) (want (sub2 (modSub w)) fun m => .ok (k (guardOf w) m w.dst w.sa (vOff w)))
def dVMEMS (k : Guard → BitVec 2 → QReg → SReg → SReg → BitVec 8 → Instr) : Except FormErr Instr :=
  want (sub2 (modSub w)) fun m => .ok (k (guardOf w) m w.dst w.sa w.sb (vOff w))

def dMP (k : Guard → Fmt → BitVec 4 → Bool → AReg → GSrc → GSrc → Instr) : Except FormErr Instr :=
  need (!w.sa.getLsbD 5 && !w.sb.getLsbD 5) (want (fmtOfBits (modFmt w)) fun f => want (reg4 w.dst) fun d =>
    .ok (k (guardOf w) f (w.mod.extractLsb' 1 4) (w.mod.getLsbD 0) d (ringOf w.sa) (ringOf w.sb)))
def dMPD (k : Guard → Fmt → BitVec 4 → Bool → AReg → GSrc → SReg → Instr) : Except FormErr Instr :=
  need (!w.sa.getLsbD 5) (want (fmtOfBits (modFmt w)) fun f => want (reg4 w.dst) fun d =>
    .ok (k (guardOf w) f (w.mod.extractLsb' 1 4) (w.mod.getLsbD 0) d (ringOf w.sa) w.sb))
def dMZ (k : Guard → AReg → Instr) : Except FormErr Instr :=
  need (w.mod == 0 && w.sa == 0 && w.sb == 0) (want (reg4 w.dst) fun d => .ok (k (guardOf w) d))
def dMLC (k : Guard → AReg → SReg → Instr) : Except FormErr Instr :=
  need (w.mod == 0 && w.sb == 0) (want (reg4 w.dst) fun d => .ok (k (guardOf w) d w.sa))
def dMSC (k : Guard → Fmt → RM → SReg → AReg → SReg → Instr) : Except FormErr Instr :=
  need (!modKA w && !modKB w) (want (fmtOfBits (modFmt w)) fun f => want (rmOfBits (modSub w)) fun r =>
    want (reg4 w.sa) fun a => .ok (k (guardOf w) f r w.dst a w.sb))
def dMRD (k : Guard → QReg → AReg → SReg → Instr) : Except FormErr Instr :=
  need (w.mod == 0) (want (reg4 w.sa) fun a => .ok (k (guardOf w) w.dst a w.sb))
def dMWR (k : Guard → AReg → QSrc → SReg → Instr) : Except FormErr Instr :=
  need (modFmt w == 0 && modSub w == 0 && !modKB w) (want (reg4 w.dst) fun d => .ok (k (guardOf w) d (qsA w) w.sb))
def dMCS (k : Guard → BitVec 4 → SReg → SReg → Instr) : Except FormErr Instr :=
  need (w.mod == 0) (want (reg4 w.dst) fun d => .ok (k (guardOf w) d w.sa w.sb))

/-- The M layout of a logical instruction: FMT 0 and no keep bits (R236). -/
def lLayout : Bool := modFmt w == 0 && !modKA w && !modKB w
def dLDD (k : Guard → RM → DReg → DReg → DReg → Instr) : Except FormErr Instr :=
  need (lLayout w) (want (rmOfBits (modSub w)) fun r => want (reg5 w.dst) fun d => want (reg5 w.sa) fun a =>
    want (reg5 w.sb) fun b => .ok (k (guardOf w) r d a b))
def dLDS (k : Guard → RM → DReg → DReg → SReg → Instr) : Except FormErr Instr :=
  need (lLayout w) (want (rmOfBits (modSub w)) fun r => want (reg5 w.dst) fun d => want (reg5 w.sa) fun a =>
    .ok (k (guardOf w) r d a w.sb))
def dLCV (k : Guard → Fmt → RM → DReg → DReg → Instr) : Except FormErr Instr :=
  need (!modKA w && !modKB w && w.sb == 0) (want (fmtOfBits (modFmt w)) fun f => want (rmOfBits (modSub w)) fun r =>
    want (reg5 w.dst) fun d => want (reg5 w.sa) fun a => .ok (k (guardOf w) f r d a))
def dLD (k : Guard → RM → DReg → DReg → Instr) : Except FormErr Instr :=
  need (lLayout w && w.sb == 0) (want (rmOfBits (modSub w)) fun r => want (reg5 w.dst) fun d => want (reg5 w.sa) fun a =>
    .ok (k (guardOf w) r d a))
def dPA (k : Guard → SReg → Instr) : Except FormErr Instr :=
  need (w.mod == 0 && w.dst == 0 && w.sb == 0) (.ok (k (guardOf w) w.sa))
def dPstat : Except FormErr Instr :=
  need (lLayout w && w.dst == 0) (want (sub1 (modSub w)) fun s => want (reg5 w.sa) fun a =>
    if s then .ok (.pstatSet (guardOf w) a w.sb) else need (w.sb == 0) (.ok (.pstatScan (guardOf w) a)))
def dPR (k : Guard → SReg → DReg → SReg → Instr) : Except FormErr Instr :=
  need (w.mod == 0) (want (reg5 w.sa) fun a => .ok (k (guardOf w) w.dst a w.sb))
def dPQ (k : Guard → SReg → SReg → Instr) : Except FormErr Instr :=
  need (w.mod == 0 && w.sb == 0) (.ok (k (guardOf w) w.dst w.sa))

/-- SCOPE is CORE where the C table says 0 (R145). -/
def cScope0 : Bool := w.mod.extractLsb' 3 2 == 0
def dCSP (k : Guard → Signal → BitVec 2 → SReg → SReg → SReg → Instr) : Except FormErr Instr :=
  need (cScope0 w) (want (sub2 (modSub w)) fun m => .ok (k (guardOf w) (sigOf w) m w.dst w.sa w.sb))
def dCSPp (k : Guard → Signal → BitVec 2 → SReg → SReg → SReg → Instr) : Except FormErr Instr := dCSP w k
def dCT (k : Guard → Signal → RM → DReg → DReg → SReg → Instr) : Except FormErr Instr :=
  need (cScope0 w) (want (rmOfBits (modSub w)) fun r => want (reg5 w.dst) fun d => want (reg5 w.sa) fun a =>
    .ok (k (guardOf w) (sigOf w) r d a w.sb))
def dCLB (k : Guard → Signal → Bool → SReg → SReg → SReg → Instr) : Except FormErr Instr :=
  need (cScope0 w) (want (sub1 (modSub w)) fun n => .ok (k (guardOf w) (sigOf w) n w.dst w.sa w.sb))
def dCB (k : Guard → Signal → SReg → Instr) : Except FormErr Instr :=
  need (cScope0 w && modSub w == 0 && w.sa == 0 && w.sb == 0) (.ok (k (guardOf w) (sigOf w) w.dst))
def dCRP (k : Guard → Signal → Bool → GReg → SReg → SReg → Instr) : Except FormErr Instr :=
  need (cScope0 w) (want (sub1 (modSub w)) fun s => want (reg4 w.dst) fun d =>
    .ok (k (guardOf w) (sigOf w) s d w.sa w.sb))
def dCSpP (k : Guard → Signal → Bool → SReg → SReg → SReg → Instr) : Except FormErr Instr := dCLB w k
def dCSp (k : Guard → Signal → Bool → SReg → SReg → SReg → Instr) : Except FormErr Instr := dCLB w k
def dCRAp (k : Guard → Signal → Scope → BitVec 2 → Bool → SReg → SReg → SReg → Instr) : Except FormErr Instr :=
  .ok (k (guardOf w) (sigOf w) (modScope w) (w.mod.extractLsb' 0 2) (w.mod.getLsbD 2) w.dst w.sa w.sb)
def dCRA (k : Guard → Signal → Scope → BitVec 2 → Bool → SReg → SReg → SReg → Instr) : Except FormErr Instr := dCRAp w k
def dColl (e : Bool) : Except FormErr Instr :=
  need (cScope0 w) (match (modSub w).toNat with
    | 0 => .ok (.collAg (guardOf w) e (sigOf w) w.dst w.sa w.sb)
    | 1 => .ok (.collRs (guardOf w) e (sigOf w) w.dst w.sa w.sb)
    | 2 => .ok (.collAr (guardOf w) e (sigOf w) w.dst w.sa w.sb)
    | 3 => .ok (.collBc (guardOf w) e (sigOf w) w.dst w.sa w.sb)
    | 4 => .ok (.collA2a (guardOf w) e (sigOf w) w.dst w.sa w.sb)
    | _ => .error .illegalBundle)
def dCQ (k : Guard → SReg → SReg → Instr) : Except FormErr Instr :=
  need (w.mod == 0 && w.sb == 0) (.ok (k (guardOf w) w.dst w.sa))

def dXPK (k : Guard → Fmt → BitVec 2 → QReg → QSrc → Instr) : Except FormErr Instr :=
  need (!modKB w && w.sb == 0) (want (fmtOfBits (modFmt w)) fun f => want (sub2 (modSub w)) fun n =>
    .ok (k (guardOf w) f n w.dst (qsA w)))
def dXSC (k : Guard → Fmt → RM → QReg → QSrc → SReg → Instr) : Except FormErr Instr :=
  need (!modKB w) (want (fmtOfBits (modFmt w)) fun f => want (rmOfBits (modSub w)) fun r =>
    .ok (k (guardOf w) f r w.dst (qsA w) w.sb))
def dXSL (k : Guard → SReg → SReg → Instr) : Except FormErr Instr :=
  need (modSub w == 0 && !modKA w && !modKB w && w.sb == 0) (want (fmtOfBits (modFmt w)) fun f =>
    if f = .e8m0 then .ok (k (guardOf w) w.dst w.sa) else .error .illegalFormat)
def dX3 (k : Guard → Fmt → QReg → QSrc → QSrc → Instr) : Except FormErr Instr := dV3 w k
def dX2 (k : Guard → Fmt → QReg → QSrc → Instr) : Except FormErr Instr := dV2 w k
def dXQS (k : Guard → Fmt → QReg → QSrc → SReg → Instr) : Except FormErr Instr :=
  need (modSub w == 0 && !modKB w) (want (fmtOfBits (modFmt w)) fun f => .ok (k (guardOf w) f w.dst (qsA w) w.sb))
def dX2n (k : Guard → QReg → QSrc → Instr) : Except FormErr Instr := dV2n w k
def dXIN (k : Guard → Fmt → Bool → QReg → QSrc → QSrc → Instr) : Except FormErr Instr :=
  want (fmtOfBits (modFmt w)) fun f => want (sub1 (modSub w)) fun h => .ok (k (guardOf w) f h w.dst (qsA w) (qsB w))
def dXSF (k : Guard → BitVec 17 → Instr) : Except FormErr Instr :=
  need (w.dst == 0 && w.sa == 0) (.ok (k (guardOf w) (imm17Of w)))
def dLsel : Except FormErr Instr :=
  need (modFmt w == 0 && !modKB w) (match (modSub w).toNat with
    | 0 => want (reg5 w.dst) fun d => .ok (.lselLdd (guardOf w) d (qsA w) w.sb)
    | 1 => need (!modKA w) (want (reg5 w.sa) fun a => .ok (.lselStd (guardOf w) w.dst a w.sb))
    | 2 => want (reg4 w.dst) fun d => .ok (.lselLdg (guardOf w) d (qsA w) w.sb)
    | 3 => need (!modKA w) (want (reg4 w.sa) fun a => .ok (.lselStg (guardOf w) w.dst a w.sb))
    | _ => .error .illegalBundle)
def dXN (k : Guard → Instr) : Except FormErr Instr :=
  need (w.mod == 0 && w.dst == 0 && w.sa == 0 && w.sb == 0) (.ok (k (guardOf w)))

def dWB (k : Guard → BitVec 17 → Instr) : Except FormErr Instr :=
  need (w.dst == 0 && w.sa == 0) (.ok (k (guardOf w) (imm17Of w)))
def dWBP (k : Guard → PReg → BitVec 17 → Instr) : Except FormErr Instr :=
  need (w.dst == 0) (.ok (k (guardOf w) w.sa (imm17Of w)))
def dWA (k : Guard → SReg → Instr) : Except FormErr Instr := dPA w k
def dWC (k : Guard → SReg → BitVec 17 → Instr) : Except FormErr Instr :=
  need (w.sa == 0) (.ok (k (guardOf w) w.dst (imm17Of w)))
def dWL (k : Guard → SReg → BitVec 17 → Instr) : Except FormErr Instr := dWBP w k
def dWait : Except FormErr Instr :=
  need (w.mod.extractLsb' 3 8 == 0 && w.sb == 0) (want (sub1 (modSub w)) fun c => want (reg5 w.dst) fun d =>
    .ok (if c then .waitCon (guardOf w) d w.sa else .wait (guardOf w) d w.sa))
def dWN (k : Guard → Instr) : Except FormErr Instr := dXN w k
def dWT (k : Guard → BitVec 8 → Instr) : Except FormErr Instr :=
  need (w.dst == 0 && w.sa == 0 && w.sb == 0 && decide (w.mod.toNat < 256)) (.ok (k (guardOf w) (w.mod.extractLsb' 0 8)))
def dWS (k : Guard → WReg → SReg → Instr) : Except FormErr Instr := dSSEM w k
def dWF (k : Guard → BitVec 7 → BitVec 7 → SReg → SReg → Instr) : Except FormErr Instr :=
  need ((imm17Of w).extractLsb' 14 3 == 0)
    (.ok (k (guardOf w) ((imm17Of w).extractLsb' 7 7) ((imm17Of w).extractLsb' 0 7) w.sa w.dst))
def dWFO (k : Guard → DReg → SReg → Instr) : Except FormErr Instr :=
  need (w.mod == 0 && w.sb == 0) (want (reg5 w.dst) fun d => .ok (k (guardOf w) d w.sa))
def dWI (k : Guard → BitVec 17 → Instr) : Except FormErr Instr := dWB w k
def dWSP (k : Guard → Bool → WReg → SReg → Instr) : Except FormErr Instr :=
  need (w.mod.extractLsb' 3 8 == 0 && w.sb == 0) (want (sub1 (modSub w)) fun s => want (reg5 w.dst) fun d =>
    .ok (k (guardOf w) s d w.sa))
def dWE (k : Guard → SReg → SReg → Instr) : Except FormErr Instr :=
  need (w.mod == 0 && w.dst == 0) (.ok (k (guardOf w) w.sa w.sb))
def dWD (k : Guard → SReg → SReg → Instr) : Except FormErr Instr :=
  need (w.mod == 0 && w.sb == 0) (.ok (k (guardOf w) w.dst w.sa))
def dWSC (k : Guard → WReg → SReg → SReg → Instr) : Except FormErr Instr :=
  need (w.mod == 0) (want (reg5 w.dst) fun d => .ok (k (guardOf w) d w.sa w.sb))

end forms

/-! ### The opcode maps -/

/-- The S map (R70): an unlisted OPC is UNDEFINED-OP. -/
def decodeS (w : SlotWord) : Except FormErr Instr :=
  match w.opc.toNat with
  | 0x01 => dSRRR w .add
  | 0x02 => dSRRR w .sub
  | 0x03 => dSRRR w .and
  | 0x04 => dSRRR w .or
  | 0x05 => dSRRR w .xor
  | 0x06 => dSRRR w .shl
  | 0x07 => dSRRR w .shrl
  | 0x08 => dSRRR w .shra
  | 0x09 => dSRRR w .min
  | 0x0a => dSRRR w .max
  | 0x0b => dSRRR w .minn
  | 0x0c => dSRRR w .maxn
  | 0x0d => dSRRR w .mul
  | 0x0e => dSRRR w .mulh
  | 0x0f => dSRRR w .mulhn
  | 0x10 => dSRRR w .divs
  | 0x11 => dSRRR w .divn
  | 0x12 => dSRRR w .rems
  | 0x13 => dSRRR w .remn
  | 0x14 => dSRR w .clz
  | 0x15 => dSRR w .ctz
  | 0x16 => dSRR w .popc
  | 0x17 => dSRRn w .sext
  | 0x18 => dSRRn w .zext
  | 0x20 => dSRI w .addi
  | 0x21 => dSRI w .andi
  | 0x22 => dSRI w .ori
  | 0x23 => dSRI w .xori
  | 0x24 => dSRIs w .shli
  | 0x25 => dSRIs w .shrli
  | 0x26 => dSRIs w .shrai
  | 0x28 => dSLIM w .limm
  | 0x29 => dSLH w .limmh
  | 0x30 => dSCMP w .cmp
  | 0x31 => dSRRR w .pand
  | 0x32 => dSRRR w .por
  | 0x33 => dSRRR w .pxor
  | 0x34 => dSRR w .pnot
  | 0x35 => dSSEL w .sel
  | 0x40 => dSRI w .ldb
  | 0x41 => dSRI w .ldbn
  | 0x42 => dSRI w .ldh
  | 0x43 => dSRI w .ldhn
  | 0x44 => dSRI w .ldw
  | 0x45 => dSRI w .ldwn
  | 0x46 => dSRI w .ldd
  | 0x48 => dSRI w .stb
  | 0x49 => dSRI w .sth
  | 0x4a => dSRI w .stw
  | 0x4b => dSRI w .std
  | 0x50 => dSF3 w .fadd
  | 0x51 => dSF3 w .fsub
  | 0x52 => dSF3 w .fmul
  | 0x53 => dSF3 w .fma
  | 0x54 => dSF3 w .fdiv
  | 0x55 => dSF2 w .fsqrt
  | 0x56 => dSF3n w .fmin
  | 0x57 => dSF3n w .fmax
  | 0x58 => dSFCMP w .fcmp
  | 0x59 => dSFCVT w .fcvt
  | 0x60 => dSATM w .aadd
  | 0x61 => dSATM w .aand
  | 0x62 => dSATM w .aor
  | 0x63 => dSATM w .axor
  | 0x64 => dSATM w .amin
  | 0x65 => dSATM w .amax
  | 0x66 => dSATM w .aswap
  | 0x67 => dSATM w .acas
  | 0x68 => dSATM w .aminn
  | 0x69 => dSATM w .amaxn
  | 0x6a => dSATM w .afadd
  | 0x6b => dSATM w .afmin
  | 0x6c => dSATM w .afmax
  | 0x70 => dSTCALL w .tcall
  | 0x78 => dSCSRR w .csrr
  | 0x79 => dSCSRW w .csrw
  | 0x7a => dSCSRW w .csrs
  | 0x7b => dSCSRW w .csrc
  | 0x7c => dSSEM w .semadd
  | _ => .error .undefinedOp

/-- The V map (R71): an unlisted OPC is UNDEFINED-OP. -/
def decodeV (w : SlotWord) : Except FormErr Instr :=
  match w.opc.toNat with
  | 0x01 => dV3r w .vadd
  | 0x02 => dV3r w .vsub
  | 0x03 => dV3r w .vmul
  | 0x04 => dV3r w .vfma
  | 0x05 => dV3r w .vfms
  | 0x06 => dV3r w .vnfma
  | 0x07 => dV3 w .vmin
  | 0x08 => dV3 w .vmax
  | 0x09 => dV2 w .vabs
  | 0x0a => dV2 w .vneg
  | 0x0b => dV3r w .vadif
  | 0x0c => dVCMP w .vcmp
  | 0x0d => dV3 w .vsel
  | 0x10 => dV3n w .vand
  | 0x11 => dV3n w .vor
  | 0x12 => dV3n w .vxor
  | 0x13 => dV2n w .vnot
  | 0x14 => dV3 w .vshl
  | 0x15 => dV3 w .vshrl
  | 0x16 => dV3 w .vshra
  | 0x18 => dVCVT w .vcvt
  | 0x19 => dVSAT w .vsat
  | 0x1a => dV2r w .vrcp
  | 0x1b => dV2r w .vrsq
  | 0x1c => dV2r w .vexp2
  | 0x1d => dV2r w .vlog2
  | 0x20 => dV3 w .vdot
  | 0x21 => dV2r w .vredadd
  | 0x22 => dV2 w .vredmin
  | 0x23 => dV2 w .vredmax
  | 0x24 => dVBC w .vbcast
  | 0x25 => dVEX w .vextr
  | 0x26 => dVIO w .viota
  | 0x27 => dV2n w .vmov
  | 0x28 => dVPOP w .vpop
  | 0x29 => dVAN w .vany
  | 0x2a => dVAN w .vall
  | 0x2b => dVAN w .vcnt
  | 0x30 => dVMEM w .vld
  | 0x31 => dVMEMS w .vlds
  | 0x32 => dVMEM w .vst
  | 0x33 => dVMEMS w .vsts
  | _ => .error .undefinedOp

/-- The M map (R72): an unlisted OPC is UNDEFINED-OP. -/
def decodeM (w : SlotWord) : Except FormErr Instr :=
  match w.opc.toNat with
  | 0x01 => dMP w .mpass
  | 0x02 => dMPD w .mpassd
  | 0x03 => dMZ w .mzero
  | 0x04 => dMLC w .mloadc
  | 0x05 => dMSC w .mstorec
  | 0x06 => dMRD w .mread
  | 0x07 => dMWR w .mwrite
  | 0x08 => dMCS w .mcsq
  | 0x20 => dLDD w .lmul
  | 0x21 => dLDD w .ladd
  | 0x22 => dLDS w .lmap
  | 0x23 => dLDS w .lfilt
  | 0x24 => dLDS w .lred
  | 0x25 => dLDD w .lgath
  | 0x26 => dLDD w .lscat
  | 0x27 => dLCV w .lcvt
  | 0x28 => dLDS w .lxpose
  | 0x29 => dLDS w .lslice
  | 0x2a => dLD w .lstore
  | 0x40 => dPA w .phint
  | 0x41 => dPA w .ppin
  | 0x42 => dPA w .punpin
  | 0x43 => dPstat w
  | 0x44 => dPR w .pstatr
  | 0x45 => dPQ w .pquery
  | 0x46 => dPA w .pdrop
  | _ => .error .undefinedOp

/-- The C map (R73): an unlisted OPC is UNDEFINED-OP. -/
def decodeC (e : Bool) (w : SlotWord) : Except FormErr Instr :=
  match w.opc.toNat with
  | 0x01 => dCSP w fun g => .cpy g e
  | 0x02 => dCSPp w fun g => .cpyw g e
  | 0x03 => dCT w fun g => .cpyt g e
  | 0x04 => dCLB w fun g => .ldblk g e
  | 0x05 => dCB w fun g => .wbblk g e
  | 0x06 => dCB w fun g => .evblk g e
  | 0x07 => dCRP w fun g => .rpush g e
  | 0x08 => dCSpP w fun g => .gath g e
  | 0x09 => dCSpP w fun g => .scat g e
  | 0x0a => dCRAp w fun g => .scata g e
  | 0x0b => dCRA w fun g => .red g e
  | 0x0c => dColl w e
  | 0x0d => dCSp w fun g => .send g e
  | 0x0e => dCSp w fun g => .recv g e
  | 0x0f => dCQ w fun g => .slotq g e
  | _ => .error .undefinedOp

/-- The X map (R74): an unlisted OPC is UNDEFINED-OP. -/
def decodeX (w : SlotWord) : Except FormErr Instr :=
  match w.opc.toNat with
  | 0x01 => dXPK w .pack
  | 0x02 => dXPK w .unpk
  | 0x03 => dXSC w .scal
  | 0x04 => dXSL w .scld
  | 0x05 => dX3 w .shuf
  | 0x06 => dX2 w .xpose
  | 0x07 => dXQS w .rotl
  | 0x08 => dXQS w .bplx
  | 0x09 => dXQS w .bplm
  | 0x0a => dX2n w .xmv
  | 0x0b => dXIN w .intl
  | 0x0c => dXIN w .dintl
  | 0x0d => dXSF w .setfmt
  | 0x0e => dLsel w
  | 0x0f => dXN w .ntreq
  | _ => .error .undefinedOp

/-- The W map (R75): an unlisted OPC is UNDEFINED-OP. -/
def decodeW (w : SlotWord) : Except FormErr Instr :=
  match w.opc.toNat with
  | 0x01 => dWB w .br
  | 0x02 => dWBP w .brp
  | 0x03 => dWA w .bri
  | 0x04 => dWC w .call
  | 0x05 => dWA w .ret
  | 0x06 => dWL w .loop
  | 0x07 => dWait w
  | 0x08 => dWN w .nret
  | 0x09 => dWT w .trap
  | 0x0a => dWS w .sysc
  | 0x0b => dWN w .halt
  | 0x0c => dWN w .yield
  | 0x0d => dWB w .cropen
  | 0x0e => dWN w .crclose
  | 0x0f => dWF w .fence
  | 0x10 => dWN w .snap
  | 0x11 => dWFO w .force
  | 0x12 => dWI w .grow
  | 0x13 => dWI w .shrink
  | 0x14 => dWN w .taskend
  | 0x15 => dWSP w .spawn
  | 0x16 => dWE w .enq
  | 0x17 => dWD w .deq
  | 0x18 => dWSC w .scan
  | 0x19 => dWE w .lcmapw
  | 0x1a => dWN w .eret
  | 0x1b => dWA w .ctxsv
  | 0x1c => dWA w .ctxld
  | _ => .error .undefinedOp

/-- The instruction of a slot word at a position (0 S, 1 V0, 2 V1, 3 M, 4 C0, 5 C1, 6 X, 7 W), or the fault of order 4, 5
or 6 (R53, R69, R78). At V0 and V1 a queue of the other cluster is ILLEGAL-BUNDLE (R169). -/
def decodeSlot (pos : Nat) (w : SlotWord) : Except FormErr Instr :=
  let r : Except FormErr Instr :=
    match pos with
    | 0 => decodeS w
    | 1 | 2 => decodeV w
    | 3 => decodeM w
    | 4 => decodeC false w
    | 5 => decodeC true w
    | 6 => decodeX w
    | _ => decodeW w
  match r with
  | .error e => .error e
  | .ok i =>
    match formFault i with
    | some .illegalBundle => .error .illegalBundle
    | f =>
      if (pos = 1 ∨ pos = 2) ∧ vCluster w ≠ (pos == 2) then .error .illegalBundle
      else match f with
        | some e => .error e
        | none => .ok i
where
  /-- The cluster a V word names: its destination queue, or its source where the destination is none. -/
  vCluster (w : SlotWord) : Bool :=
    match w.opc.toNat with
    | 0x25 | 0x28 | 0x29 | 0x2A | 0x2B => cluster w.sa
    | _ => cluster w.dst

/-! ### Bundles (R53 to R59) -/

/-- A decoded bundle before its slots are interpreted: the header fields and, for each position, the slot word or none.
`len` is the number of bytes it takes in the stream. -/
structure Bundle where
  seg : Bool
  pp : Bool
  stop : Bool
  hold : BitVec 8
  words : List (Option (BitVec 44))
  len : Nat
deriving DecidableEq, Repr

/-- The number of set bits among the first `n`. -/
def presentBelow (p : BitVec 8) : Nat → Nat
  | 0 => 0
  | n + 1 => presentBelow p n + (if p.getLsbD n then 1 else 0)

/-- The words a literal bundle takes (R58). -/
def literalWords (n : Nat) : Nat := (32 + 44 * n + 15) / 16

/-- The header checks that both forms share: reserved bits, and HOLD only on present positions (R53, R55). -/
def headerOk (h : BitVec 32) : Bool :=
  h.extractLsb' 19 13 == 0 && (h.extractLsb' 8 8 &&& ~~~(h.extractLsb' 0 8)) == 0

/-- The slot word that a literal bundle `x` holds at position i, packed without gaps (R58). -/
def literalSlot (x : Nat) (p : BitVec 8) (i : Nat) : Option (BitVec 44) :=
  if p.getLsbD i then some (BitVec.ofNat 44 (x >>> (32 + 44 * presentBelow p i))) else none

/-- The bundle of a literal image, whose low bits are the bundle (R58, R59). -/
def literalBundle (x : Nat) : Except FormErr Bundle :=
  let h := BitVec.ofNat 32 x
  let p := h.extractLsb' 0 8
  let n := presentBelow p 8
  let pad := (x >>> (32 + 44 * n)) % 2 ^ (16 * literalWords n - (32 + 44 * n))
  if headerOk h && pad == 0 then
    .ok ⟨h.getLsbD 18, h.getLsbD 17, h.getLsbD 16, h.extractLsb' 8 8,
      (List.range 8).map (literalSlot x p), 2 * literalWords n⟩
  else .error .illegalBundle

/-- The slot word that a canonical bundle holds at position i (R54). -/
def canonicalSlot (x : BitVec 384) (i : Nat) : BitVec 44 := x.extractLsb' (32 + 44 * i) 44

/-- The bundle of a dictionary entry (R53 to R55). Its length in the stream is one index word. -/
def canonicalBundle (x : BitVec 384) : Except FormErr Bundle :=
  let h := x.extractLsb' 0 32
  let p := h.extractLsb' 0 8
  let absentZero := (List.range 8).all fun i => p.getLsbD i || canonicalSlot x i == 0
  if headerOk h && !h.getLsbD 16 && absentZero then
    .ok ⟨h.getLsbD 18, h.getLsbD 17, false, h.extractLsb' 8 8,
      (List.range 8).map fun i => if p.getLsbD i then some (canonicalSlot x i) else none, 2⟩
  else .error .illegalBundle

/-- The canonical image of a set of slot words under a header (R53, R54). -/
def canonicalImage (h : BitVec 32) (ws : List (Option (BitVec 44))) : BitVec 384 :=
  BitVec.ofNat 384 ((List.range 8).foldr (fun i acc =>
    acc ||| ((ws.getD i none).elim 0 BitVec.toNat) <<< (32 + 44 * i)) h.toNat)

/-- The literal image of a bundle: header, then the present slot words packed, then zeros (R58). -/
def literalImage (b : Bundle) : Nat :=
  let p := (List.range 8).foldr (fun i acc => acc ||| (if (b.words.getD i none).isSome then 1 <<< i else 0)) 0
  let h := p + b.hold.toNat * 2 ^ 8 + (if b.stop then 2 ^ 16 else 0) + (if b.pp then 2 ^ 17 else 0)
    + (if b.seg then 2 ^ 18 else 0)
  let go := b.words.foldl (fun (st : Nat × Nat) w =>
    match w with
    | some v => (st.1 ||| v.toNat <<< st.2, st.2 + 44)
    | none => st) (h, 32)
  go.1

/-! ### Teller and Ovnath words -/

/-- The teller instruction a word of a routine holds (R281, R282); `none` for an undefined OP or a nonzero unused field.
SAT's ranges 6 and 7 and the float formats 3 to 7 are refused by the well-formedness check. -/
noncomputable def tellerWord (w : BitVec 32) : Option Instr :=
  if w &&& 0xfc0fe000#32 = 0x04000000#32 then some (.tellerLdw (w.extractLsb' 23 3) (w.extractLsb' 20 3) (w.extractLsb' 0 13))
  else if w &&& 0xfc0fe000#32 = 0x08000000#32 then some (.tellerLdd (w.extractLsb' 23 3) (w.extractLsb' 20 3) (w.extractLsb' 0 13))
  else if w &&& 0xff81e000#32 = 0x0c000000#32 then some (.tellerStw (w.extractLsb' 20 3) (w.extractLsb' 17 3) (w.extractLsb' 0 13))
  else if w &&& 0xff81e000#32 = 0x10000000#32 then some (.tellerStd (w.extractLsb' 20 3) (w.extractLsb' 17 3) (w.extractLsb' 0 13))
  else if w &&& 0xfc01ffff#32 = 0x20000000#32 then some (.tellerAdd (w.extractLsb' 23 3) (w.extractLsb' 20 3) (w.extractLsb' 17 3))
  else if w &&& 0xfc0fe000#32 = 0x20010000#32 then some (.tellerAddImm (w.extractLsb' 23 3) (w.extractLsb' 20 3) (w.extractLsb' 0 13))
  else if w &&& 0xfc01ffff#32 = 0x24000000#32 then some (.tellerSub (w.extractLsb' 23 3) (w.extractLsb' 20 3) (w.extractLsb' 17 3))
  else if w &&& 0xfc0fe000#32 = 0x24010000#32 then some (.tellerSubImm (w.extractLsb' 23 3) (w.extractLsb' 20 3) (w.extractLsb' 0 13))
  else if w &&& 0xfc01ffff#32 = 0x28000000#32 then some (.tellerAnd (w.extractLsb' 23 3) (w.extractLsb' 20 3) (w.extractLsb' 17 3))
  else if w &&& 0xfc0fe000#32 = 0x28010000#32 then some (.tellerAndImm (w.extractLsb' 23 3) (w.extractLsb' 20 3) (w.extractLsb' 0 13))
  else if w &&& 0xfc01ffff#32 = 0x2c000000#32 then some (.tellerOr (w.extractLsb' 23 3) (w.extractLsb' 20 3) (w.extractLsb' 17 3))
  else if w &&& 0xfc0fe000#32 = 0x2c010000#32 then some (.tellerOrImm (w.extractLsb' 23 3) (w.extractLsb' 20 3) (w.extractLsb' 0 13))
  else if w &&& 0xfc01ffff#32 = 0x30000000#32 then some (.tellerXor (w.extractLsb' 23 3) (w.extractLsb' 20 3) (w.extractLsb' 17 3))
  else if w &&& 0xfc0fe000#32 = 0x30010000#32 then some (.tellerXorImm (w.extractLsb' 23 3) (w.extractLsb' 20 3) (w.extractLsb' 0 13))
  else if w &&& 0xfc01ffff#32 = 0x34000000#32 then some (.tellerShl (w.extractLsb' 23 3) (w.extractLsb' 20 3) (w.extractLsb' 17 3))
  else if w &&& 0xfc0fe000#32 = 0x34010000#32 then some (.tellerShlImm (w.extractLsb' 23 3) (w.extractLsb' 20 3) (w.extractLsb' 0 13))
  else if w &&& 0xfc01ffff#32 = 0x38000000#32 then some (.tellerShrl (w.extractLsb' 23 3) (w.extractLsb' 20 3) (w.extractLsb' 17 3))
  else if w &&& 0xfc0fe000#32 = 0x38010000#32 then some (.tellerShrlImm (w.extractLsb' 23 3) (w.extractLsb' 20 3) (w.extractLsb' 0 13))
  else if w &&& 0xfc01ffff#32 = 0x3c000000#32 then some (.tellerShra (w.extractLsb' 23 3) (w.extractLsb' 20 3) (w.extractLsb' 17 3))
  else if w &&& 0xfc0fe000#32 = 0x3c010000#32 then some (.tellerShraImm (w.extractLsb' 23 3) (w.extractLsb' 20 3) (w.extractLsb' 0 13))
  else if w &&& 0xfc01ffff#32 = 0x40000000#32 then some (.tellerMin (w.extractLsb' 23 3) (w.extractLsb' 20 3) (w.extractLsb' 17 3))
  else if w &&& 0xfc0fe000#32 = 0x40010000#32 then some (.tellerMinImm (w.extractLsb' 23 3) (w.extractLsb' 20 3) (w.extractLsb' 0 13))
  else if w &&& 0xfc01ffff#32 = 0x44000000#32 then some (.tellerMax (w.extractLsb' 23 3) (w.extractLsb' 20 3) (w.extractLsb' 17 3))
  else if w &&& 0xfc0fe000#32 = 0x44010000#32 then some (.tellerMaxImm (w.extractLsb' 23 3) (w.extractLsb' 20 3) (w.extractLsb' 0 13))
  else if w &&& 0xfc01ffff#32 = 0x48000000#32 then some (.tellerMinn (w.extractLsb' 23 3) (w.extractLsb' 20 3) (w.extractLsb' 17 3))
  else if w &&& 0xfc0fe000#32 = 0x48010000#32 then some (.tellerMinnImm (w.extractLsb' 23 3) (w.extractLsb' 20 3) (w.extractLsb' 0 13))
  else if w &&& 0xfc01ffff#32 = 0x4c000000#32 then some (.tellerMaxn (w.extractLsb' 23 3) (w.extractLsb' 20 3) (w.extractLsb' 17 3))
  else if w &&& 0xfc0fe000#32 = 0x4c010000#32 then some (.tellerMaxnImm (w.extractLsb' 23 3) (w.extractLsb' 20 3) (w.extractLsb' 0 13))
  else if w &&& 0xfc011fff#32 = 0x60000000#32 then some (.tellerFadd (w.extractLsb' 23 3) (w.extractLsb' 20 3) (w.extractLsb' 17 3) (w.extractLsb' 13 3))
  else if w &&& 0xfc011fff#32 = 0x64000000#32 then some (.tellerFmin (w.extractLsb' 23 3) (w.extractLsb' 20 3) (w.extractLsb' 17 3) (w.extractLsb' 13 3))
  else if w &&& 0xfc011fff#32 = 0x68000000#32 then some (.tellerFmax (w.extractLsb' 23 3) (w.extractLsb' 20 3) (w.extractLsb' 17 3) (w.extractLsb' 13 3))
  else if w &&& 0xfc011fff#32 = 0x80000000#32 then some (.tellerCmp (w.extractLsb' 23 3) (w.extractLsb' 20 3) (w.extractLsb' 17 3) (w.extractLsb' 13 3))
  else if w &&& 0xfc0f0000#32 = 0x80010000#32 then some (.tellerCmpImm (w.extractLsb' 23 3) (w.extractLsb' 20 3) (w.extractLsb' 13 3) (w.extractLsb' 0 13))
  else if w &&& 0xfc01fff8#32 = 0x84000000#32 then some (.tellerSel (w.extractLsb' 23 3) (w.extractLsb' 20 3) (w.extractLsb' 17 3) (w.extractLsb' 0 3))
  else if w &&& 0xfc0f1fff#32 = 0x88000000#32 then some (.tellerSat (w.extractLsb' 23 3) (w.extractLsb' 20 3) (w.extractLsb' 13 3))
  else if w &&& 0xfc01ffff#32 = 0x8c000000#32 then some (.tellerMrg (w.extractLsb' 23 3) (w.extractLsb' 20 3) (w.extractLsb' 17 3))
  else if w &&& 0xfc7fe000#32 = 0x90000000#32 then some (.tellerLimm (w.extractLsb' 23 3) (w.extractLsb' 0 13))
  else none

/-- The instruction of the scalar slot of an Ovnath bundle (R403, R405, R406). -/
noncomputable def ovnWordS (w : BitVec 32) : Option Instr :=
  if w &&& 0xff0001ff#32 = 0x01000000#32 then some (.ovnAdd (w.extractLsb' 19 5) (w.extractLsb' 14 5) (w.extractLsb' 9 5))
  else if w &&& 0xff0001ff#32 = 0x02000000#32 then some (.ovnSub (w.extractLsb' 19 5) (w.extractLsb' 14 5) (w.extractLsb' 9 5))
  else if w &&& 0xff0001ff#32 = 0x03000000#32 then some (.ovnMul (w.extractLsb' 19 5) (w.extractLsb' 14 5) (w.extractLsb' 9 5))
  else if w &&& 0xff0001ff#32 = 0x04000000#32 then some (.ovnDiv (w.extractLsb' 19 5) (w.extractLsb' 14 5) (w.extractLsb' 9 5))
  else if w &&& 0xff0001ff#32 = 0x05000000#32 then some (.ovnAnd (w.extractLsb' 19 5) (w.extractLsb' 14 5) (w.extractLsb' 9 5))
  else if w &&& 0xff0001ff#32 = 0x06000000#32 then some (.ovnOr (w.extractLsb' 19 5) (w.extractLsb' 14 5) (w.extractLsb' 9 5))
  else if w &&& 0xff0001ff#32 = 0x07000000#32 then some (.ovnXor (w.extractLsb' 19 5) (w.extractLsb' 14 5) (w.extractLsb' 9 5))
  else if w &&& 0xff0001ff#32 = 0x08000000#32 then some (.ovnShl (w.extractLsb' 19 5) (w.extractLsb' 14 5) (w.extractLsb' 9 5))
  else if w &&& 0xff0001ff#32 = 0x09000000#32 then some (.ovnShr (w.extractLsb' 19 5) (w.extractLsb' 14 5) (w.extractLsb' 9 5))
  else if w &&& 0xff0001ff#32 = 0x0a000000#32 then some (.ovnShra (w.extractLsb' 19 5) (w.extractLsb' 14 5) (w.extractLsb' 9 5))
  else if w &&& 0xff000000#32 = 0x0b000000#32 then some (.ovnAddi (w.extractLsb' 19 5) (w.extractLsb' 14 5) (w.extractLsb' 0 14))
  else if w &&& 0xff07c000#32 = 0x0c000000#32 then some (.ovnLi (w.extractLsb' 19 5) (w.extractLsb' 0 14))
  else if w &&& 0xff07c000#32 = 0x0d000000#32 then some (.ovnLis (w.extractLsb' 19 5) (w.extractLsb' 0 14))
  else if w &&& 0xff80001f#32 = 0x0e000000#32 then some (.ovnCmp (w.extractLsb' 19 4) (w.extractLsb' 14 5) (w.extractLsb' 9 5) (w.extractLsb' 8 1) (w.extractLsb' 5 3))
  else if w &&& 0xff000000#32 = 0x0f000000#32 then some (.ovnLd (w.extractLsb' 19 5) (w.extractLsb' 14 5) (w.extractLsb' 0 14))
  else if w &&& 0xff000000#32 = 0x10000000#32 then some (.ovnSt (w.extractLsb' 19 5) (w.extractLsb' 14 5) (w.extractLsb' 0 14))
  else none

/-- The instruction of the vector slot of an Ovnath bundle (R403, R405, R406). -/
noncomputable def ovnWordV (w : BitVec 32) : Option Instr :=
  if w &&& 0xff000018#32 = 0x01000000#32 then some (.ovnVadd (w.extractLsb' 19 5) (w.extractLsb' 14 5) (w.extractLsb' 9 5) (w.extractLsb' 5 4) (w.extractLsb' 0 3))
  else if w &&& 0xff000018#32 = 0x02000000#32 then some (.ovnVsub (w.extractLsb' 19 5) (w.extractLsb' 14 5) (w.extractLsb' 9 5) (w.extractLsb' 5 4) (w.extractLsb' 0 3))
  else if w &&& 0xff000018#32 = 0x03000000#32 then some (.ovnVmul (w.extractLsb' 19 5) (w.extractLsb' 14 5) (w.extractLsb' 9 5) (w.extractLsb' 5 4) (w.extractLsb' 0 3))
  else if w &&& 0xff000018#32 = 0x04000000#32 then some (.ovnVfma (w.extractLsb' 19 5) (w.extractLsb' 14 5) (w.extractLsb' 9 5) (w.extractLsb' 5 4) (w.extractLsb' 0 3))
  else if w &&& 0xff000018#32 = 0x05000000#32 then some (.ovnVmin (w.extractLsb' 19 5) (w.extractLsb' 14 5) (w.extractLsb' 9 5) (w.extractLsb' 5 4) (w.extractLsb' 0 3))
  else if w &&& 0xff000018#32 = 0x06000000#32 then some (.ovnVmax (w.extractLsb' 19 5) (w.extractLsb' 14 5) (w.extractLsb' 9 5) (w.extractLsb' 5 4) (w.extractLsb' 0 3))
  else if w &&& 0xff000018#32 = 0x07000000#32 then some (.ovnVcmp (w.extractLsb' 19 5) (w.extractLsb' 14 5) (w.extractLsb' 9 5) (w.extractLsb' 5 4) (w.extractLsb' 0 3))
  else if w &&& 0xff00001f#32 = 0x08000000#32 then some (.ovnVsel (w.extractLsb' 19 5) (w.extractLsb' 14 5) (w.extractLsb' 9 5) (w.extractLsb' 5 4))
  else if w &&& 0xff003018#32 = 0x09000000#32 then some (.ovnVcvt (w.extractLsb' 19 5) (w.extractLsb' 14 5) (w.extractLsb' 9 3) (w.extractLsb' 5 4) (w.extractLsb' 0 3))
  else if w &&& 0xff003e1f#32 = 0x0a000000#32 then some (.ovnVbc (w.extractLsb' 19 5) (w.extractLsb' 14 5) (w.extractLsb' 5 4))
  else if w &&& 0xff003e18#32 = 0x0b000000#32 then some (.ovnVred (w.extractLsb' 19 5) (w.extractLsb' 14 5) (w.extractLsb' 5 4) (w.extractLsb' 0 3))
  else if w &&& 0xff000018#32 = 0x0c000000#32 then some (.ovnVdot (w.extractLsb' 19 5) (w.extractLsb' 14 5) (w.extractLsb' 9 5) (w.extractLsb' 5 4) (w.extractLsb' 0 3))
  else if w &&& 0xff000000#32 = 0x0d000000#32 then some (.ovnVld (w.extractLsb' 19 5) (w.extractLsb' 14 5) (w.extractLsb' 0 14))
  else if w &&& 0xff000000#32 = 0x0e000000#32 then some (.ovnVst (w.extractLsb' 19 5) (w.extractLsb' 14 5) (w.extractLsb' 0 14))
  else if w &&& 0xff00001f#32 = 0x0f000000#32 then some (.ovnVext (w.extractLsb' 19 5) (w.extractLsb' 14 5) (w.extractLsb' 9 5) (w.extractLsb' 5 4))
  else none

/-- The instruction of the tile slot of an Ovnath bundle (R403, R405, R406). -/
noncomputable def ovnWordM (w : BitVec 32) : Option Instr :=
  if w &&& 0xff07ffff#32 = 0x01000000#32 then some (.ovnMz (w.extractLsb' 19 5))
  else if w &&& 0xff00001f#32 = 0x02000000#32 then some (.ovnMma (w.extractLsb' 19 5) (w.extractLsb' 14 5) (w.extractLsb' 9 5) (w.extractLsb' 5 4))
  else if w &&& 0xff000018#32 = 0x03000000#32 then some (.ovnMst (w.extractLsb' 19 5) (w.extractLsb' 14 5) (w.extractLsb' 9 5) (w.extractLsb' 5 4) (w.extractLsb' 0 3))
  else if w &&& 0xff0001ff#32 = 0x04000000#32 then some (.ovnMrd (w.extractLsb' 19 5) (w.extractLsb' 14 5) (w.extractLsb' 9 5))
  else none

/-- The instruction of the control slot of an Ovnath bundle (R403, R405, R406). -/
noncomputable def ovnWordW (w : BitVec 32) : Option Instr :=
  if w &&& 0xfff80000#32 = 0x01000000#32 then some (.ovnJ (w.extractLsb' 0 19))
  else if w &&& 0xff87c000#32 = 0x02000000#32 then some (.ovnJk (w.extractLsb' 19 4) (w.extractLsb' 0 14))
  else if w &&& 0xff000000#32 = 0x03000000#32 then some (.ovnCall (w.extractLsb' 19 5) (w.extractLsb' 0 19))
  else if w &&& 0xfff83fff#32 = 0x04000000#32 then some (.ovnRet (w.extractLsb' 14 5))
  else if w &&& 0xffffffff#32 = 0x05000000#32 then some (.ovnEnd)
  else if w &&& 0xffffff00#32 = 0x06000000#32 then some (.ovnTrap (w.extractLsb' 0 8))
  else if w &&& 0xff003fff#32 = 0x07000000#32 then some (.ovnSys (w.extractLsb' 19 5) (w.extractLsb' 14 5))
  else none

/-- The four slot words of an Ovnath bundle: slot i at bits 32i+31:32i (R403). -/
def ovnSlot (x : BitVec 128) (i : Nat) : BitVec 32 := x.extractLsb' (32 * i) 32

/-- The instruction of an Ovnath slot, `none` when the slot is empty (OP 0), refused when it is no row of R405 and R406. -/
noncomputable def ovnDecodeSlot (x : BitVec 128) (i : Nat) : Except FormErr (Option Instr) :=
  let w := ovnSlot x i
  if w.extractLsb' 24 8 = 0 then (if w = 0 then .ok none else .error .illegalBundle)
  else
    let r := match i with
      | 0 => ovnWordS w
      | 1 => ovnWordV w
      | 2 => ovnWordM w
      | _ => ovnWordW w
    match r with
    | some j => if WellFormed j then .ok (some j) else .error .illegalBundle
    | none => .error .undefinedOp

/-- A teller instruction of a routine, well formed (R278, R281). -/
noncomputable def tellerDecode (w : BitVec 32) : Option Instr :=
  match tellerWord w with
  | some i => if WellFormed i then some i else none
  | none => none

/-- The instruction of a bare 32-bit word, whose slot the word itself does not say: the row with the most fixed bits that
matches, an Ovnath row before a teller row (log 5). -/
noncomputable def bareWord (w : BitVec 32) : Option Instr :=
  if w &&& 0xffffffff#32 = 0x05000000#32 then some (.ovnEnd)
  else if w &&& 0xfff83fff#32 = 0x04000000#32 then some (.ovnRet (w.extractLsb' 14 5))
  else if w &&& 0xff07ffff#32 = 0x01000000#32 then some (.ovnMz (w.extractLsb' 19 5))
  else if w &&& 0xffffff00#32 = 0x06000000#32 then some (.ovnTrap (w.extractLsb' 0 8))
  else if w &&& 0xfc01ffff#32 = 0x20000000#32 then some (.tellerAdd (w.extractLsb' 23 3) (w.extractLsb' 20 3) (w.extractLsb' 17 3))
  else if w &&& 0xfc01ffff#32 = 0x24000000#32 then some (.tellerSub (w.extractLsb' 23 3) (w.extractLsb' 20 3) (w.extractLsb' 17 3))
  else if w &&& 0xfc01ffff#32 = 0x28000000#32 then some (.tellerAnd (w.extractLsb' 23 3) (w.extractLsb' 20 3) (w.extractLsb' 17 3))
  else if w &&& 0xfc01ffff#32 = 0x2c000000#32 then some (.tellerOr (w.extractLsb' 23 3) (w.extractLsb' 20 3) (w.extractLsb' 17 3))
  else if w &&& 0xfc01ffff#32 = 0x30000000#32 then some (.tellerXor (w.extractLsb' 23 3) (w.extractLsb' 20 3) (w.extractLsb' 17 3))
  else if w &&& 0xfc01ffff#32 = 0x34000000#32 then some (.tellerShl (w.extractLsb' 23 3) (w.extractLsb' 20 3) (w.extractLsb' 17 3))
  else if w &&& 0xfc01ffff#32 = 0x38000000#32 then some (.tellerShrl (w.extractLsb' 23 3) (w.extractLsb' 20 3) (w.extractLsb' 17 3))
  else if w &&& 0xfc01ffff#32 = 0x3c000000#32 then some (.tellerShra (w.extractLsb' 23 3) (w.extractLsb' 20 3) (w.extractLsb' 17 3))
  else if w &&& 0xfc01ffff#32 = 0x40000000#32 then some (.tellerMin (w.extractLsb' 23 3) (w.extractLsb' 20 3) (w.extractLsb' 17 3))
  else if w &&& 0xfc01ffff#32 = 0x44000000#32 then some (.tellerMax (w.extractLsb' 23 3) (w.extractLsb' 20 3) (w.extractLsb' 17 3))
  else if w &&& 0xfc01ffff#32 = 0x48000000#32 then some (.tellerMinn (w.extractLsb' 23 3) (w.extractLsb' 20 3) (w.extractLsb' 17 3))
  else if w &&& 0xfc01ffff#32 = 0x4c000000#32 then some (.tellerMaxn (w.extractLsb' 23 3) (w.extractLsb' 20 3) (w.extractLsb' 17 3))
  else if w &&& 0xfc0f1fff#32 = 0x88000000#32 then some (.tellerSat (w.extractLsb' 23 3) (w.extractLsb' 20 3) (w.extractLsb' 13 3))
  else if w &&& 0xfc01ffff#32 = 0x8c000000#32 then some (.tellerMrg (w.extractLsb' 23 3) (w.extractLsb' 20 3) (w.extractLsb' 17 3))
  else if w &&& 0xff003fff#32 = 0x07000000#32 then some (.ovnSys (w.extractLsb' 19 5) (w.extractLsb' 14 5))
  else if w &&& 0xfc011fff#32 = 0x60000000#32 then some (.tellerFadd (w.extractLsb' 23 3) (w.extractLsb' 20 3) (w.extractLsb' 17 3) (w.extractLsb' 13 3))
  else if w &&& 0xfc011fff#32 = 0x64000000#32 then some (.tellerFmin (w.extractLsb' 23 3) (w.extractLsb' 20 3) (w.extractLsb' 17 3) (w.extractLsb' 13 3))
  else if w &&& 0xfc011fff#32 = 0x68000000#32 then some (.tellerFmax (w.extractLsb' 23 3) (w.extractLsb' 20 3) (w.extractLsb' 17 3) (w.extractLsb' 13 3))
  else if w &&& 0xfc011fff#32 = 0x80000000#32 then some (.tellerCmp (w.extractLsb' 23 3) (w.extractLsb' 20 3) (w.extractLsb' 17 3) (w.extractLsb' 13 3))
  else if w &&& 0xfc01fff8#32 = 0x84000000#32 then some (.tellerSel (w.extractLsb' 23 3) (w.extractLsb' 20 3) (w.extractLsb' 17 3) (w.extractLsb' 0 3))
  else if w &&& 0xff003e1f#32 = 0x0a000000#32 then some (.ovnVbc (w.extractLsb' 19 5) (w.extractLsb' 14 5) (w.extractLsb' 5 4))
  else if w &&& 0xff0001ff#32 = 0x01000000#32 then some (.ovnAdd (w.extractLsb' 19 5) (w.extractLsb' 14 5) (w.extractLsb' 9 5))
  else if w &&& 0xff0001ff#32 = 0x02000000#32 then some (.ovnSub (w.extractLsb' 19 5) (w.extractLsb' 14 5) (w.extractLsb' 9 5))
  else if w &&& 0xff0001ff#32 = 0x03000000#32 then some (.ovnMul (w.extractLsb' 19 5) (w.extractLsb' 14 5) (w.extractLsb' 9 5))
  else if w &&& 0xff0001ff#32 = 0x04000000#32 then some (.ovnDiv (w.extractLsb' 19 5) (w.extractLsb' 14 5) (w.extractLsb' 9 5))
  else if w &&& 0xff0001ff#32 = 0x05000000#32 then some (.ovnAnd (w.extractLsb' 19 5) (w.extractLsb' 14 5) (w.extractLsb' 9 5))
  else if w &&& 0xff0001ff#32 = 0x06000000#32 then some (.ovnOr (w.extractLsb' 19 5) (w.extractLsb' 14 5) (w.extractLsb' 9 5))
  else if w &&& 0xff0001ff#32 = 0x07000000#32 then some (.ovnXor (w.extractLsb' 19 5) (w.extractLsb' 14 5) (w.extractLsb' 9 5))
  else if w &&& 0xff0001ff#32 = 0x08000000#32 then some (.ovnShl (w.extractLsb' 19 5) (w.extractLsb' 14 5) (w.extractLsb' 9 5))
  else if w &&& 0xff0001ff#32 = 0x09000000#32 then some (.ovnShr (w.extractLsb' 19 5) (w.extractLsb' 14 5) (w.extractLsb' 9 5))
  else if w &&& 0xff0001ff#32 = 0x0a000000#32 then some (.ovnShra (w.extractLsb' 19 5) (w.extractLsb' 14 5) (w.extractLsb' 9 5))
  else if w &&& 0xff0001ff#32 = 0x04000000#32 then some (.ovnMrd (w.extractLsb' 19 5) (w.extractLsb' 14 5) (w.extractLsb' 9 5))
  else if w &&& 0xfc7fe000#32 = 0x90000000#32 then some (.tellerLimm (w.extractLsb' 23 3) (w.extractLsb' 0 13))
  else if w &&& 0xff003e18#32 = 0x0b000000#32 then some (.ovnVred (w.extractLsb' 19 5) (w.extractLsb' 14 5) (w.extractLsb' 5 4) (w.extractLsb' 0 3))
  else if w &&& 0xff80001f#32 = 0x0e000000#32 then some (.ovnCmp (w.extractLsb' 19 4) (w.extractLsb' 14 5) (w.extractLsb' 9 5) (w.extractLsb' 8 1) (w.extractLsb' 5 3))
  else if w &&& 0xff87c000#32 = 0x02000000#32 then some (.ovnJk (w.extractLsb' 19 4) (w.extractLsb' 0 14))
  else if w &&& 0xff07c000#32 = 0x0c000000#32 then some (.ovnLi (w.extractLsb' 19 5) (w.extractLsb' 0 14))
  else if w &&& 0xff07c000#32 = 0x0d000000#32 then some (.ovnLis (w.extractLsb' 19 5) (w.extractLsb' 0 14))
  else if w &&& 0xfff80000#32 = 0x01000000#32 then some (.ovnJ (w.extractLsb' 0 19))
  else if w &&& 0xff00001f#32 = 0x08000000#32 then some (.ovnVsel (w.extractLsb' 19 5) (w.extractLsb' 14 5) (w.extractLsb' 9 5) (w.extractLsb' 5 4))
  else if w &&& 0xff00001f#32 = 0x0f000000#32 then some (.ovnVext (w.extractLsb' 19 5) (w.extractLsb' 14 5) (w.extractLsb' 9 5) (w.extractLsb' 5 4))
  else if w &&& 0xff00001f#32 = 0x02000000#32 then some (.ovnMma (w.extractLsb' 19 5) (w.extractLsb' 14 5) (w.extractLsb' 9 5) (w.extractLsb' 5 4))
  else if w &&& 0xfc0fe000#32 = 0x04000000#32 then some (.tellerLdw (w.extractLsb' 23 3) (w.extractLsb' 20 3) (w.extractLsb' 0 13))
  else if w &&& 0xfc0fe000#32 = 0x08000000#32 then some (.tellerLdd (w.extractLsb' 23 3) (w.extractLsb' 20 3) (w.extractLsb' 0 13))
  else if w &&& 0xff81e000#32 = 0x0c000000#32 then some (.tellerStw (w.extractLsb' 20 3) (w.extractLsb' 17 3) (w.extractLsb' 0 13))
  else if w &&& 0xff81e000#32 = 0x10000000#32 then some (.tellerStd (w.extractLsb' 20 3) (w.extractLsb' 17 3) (w.extractLsb' 0 13))
  else if w &&& 0xfc0fe000#32 = 0x20010000#32 then some (.tellerAddImm (w.extractLsb' 23 3) (w.extractLsb' 20 3) (w.extractLsb' 0 13))
  else if w &&& 0xfc0fe000#32 = 0x24010000#32 then some (.tellerSubImm (w.extractLsb' 23 3) (w.extractLsb' 20 3) (w.extractLsb' 0 13))
  else if w &&& 0xfc0fe000#32 = 0x28010000#32 then some (.tellerAndImm (w.extractLsb' 23 3) (w.extractLsb' 20 3) (w.extractLsb' 0 13))
  else if w &&& 0xfc0fe000#32 = 0x2c010000#32 then some (.tellerOrImm (w.extractLsb' 23 3) (w.extractLsb' 20 3) (w.extractLsb' 0 13))
  else if w &&& 0xfc0fe000#32 = 0x30010000#32 then some (.tellerXorImm (w.extractLsb' 23 3) (w.extractLsb' 20 3) (w.extractLsb' 0 13))
  else if w &&& 0xfc0fe000#32 = 0x34010000#32 then some (.tellerShlImm (w.extractLsb' 23 3) (w.extractLsb' 20 3) (w.extractLsb' 0 13))
  else if w &&& 0xfc0fe000#32 = 0x38010000#32 then some (.tellerShrlImm (w.extractLsb' 23 3) (w.extractLsb' 20 3) (w.extractLsb' 0 13))
  else if w &&& 0xfc0fe000#32 = 0x3c010000#32 then some (.tellerShraImm (w.extractLsb' 23 3) (w.extractLsb' 20 3) (w.extractLsb' 0 13))
  else if w &&& 0xfc0fe000#32 = 0x40010000#32 then some (.tellerMinImm (w.extractLsb' 23 3) (w.extractLsb' 20 3) (w.extractLsb' 0 13))
  else if w &&& 0xfc0fe000#32 = 0x44010000#32 then some (.tellerMaxImm (w.extractLsb' 23 3) (w.extractLsb' 20 3) (w.extractLsb' 0 13))
  else if w &&& 0xfc0fe000#32 = 0x48010000#32 then some (.tellerMinnImm (w.extractLsb' 23 3) (w.extractLsb' 20 3) (w.extractLsb' 0 13))
  else if w &&& 0xfc0fe000#32 = 0x4c010000#32 then some (.tellerMaxnImm (w.extractLsb' 23 3) (w.extractLsb' 20 3) (w.extractLsb' 0 13))
  else if w &&& 0xff003018#32 = 0x09000000#32 then some (.ovnVcvt (w.extractLsb' 19 5) (w.extractLsb' 14 5) (w.extractLsb' 9 3) (w.extractLsb' 5 4) (w.extractLsb' 0 3))
  else if w &&& 0xff000018#32 = 0x01000000#32 then some (.ovnVadd (w.extractLsb' 19 5) (w.extractLsb' 14 5) (w.extractLsb' 9 5) (w.extractLsb' 5 4) (w.extractLsb' 0 3))
  else if w &&& 0xff000018#32 = 0x02000000#32 then some (.ovnVsub (w.extractLsb' 19 5) (w.extractLsb' 14 5) (w.extractLsb' 9 5) (w.extractLsb' 5 4) (w.extractLsb' 0 3))
  else if w &&& 0xff000018#32 = 0x03000000#32 then some (.ovnVmul (w.extractLsb' 19 5) (w.extractLsb' 14 5) (w.extractLsb' 9 5) (w.extractLsb' 5 4) (w.extractLsb' 0 3))
  else if w &&& 0xff000018#32 = 0x04000000#32 then some (.ovnVfma (w.extractLsb' 19 5) (w.extractLsb' 14 5) (w.extractLsb' 9 5) (w.extractLsb' 5 4) (w.extractLsb' 0 3))
  else if w &&& 0xff000018#32 = 0x05000000#32 then some (.ovnVmin (w.extractLsb' 19 5) (w.extractLsb' 14 5) (w.extractLsb' 9 5) (w.extractLsb' 5 4) (w.extractLsb' 0 3))
  else if w &&& 0xff000018#32 = 0x06000000#32 then some (.ovnVmax (w.extractLsb' 19 5) (w.extractLsb' 14 5) (w.extractLsb' 9 5) (w.extractLsb' 5 4) (w.extractLsb' 0 3))
  else if w &&& 0xff000018#32 = 0x07000000#32 then some (.ovnVcmp (w.extractLsb' 19 5) (w.extractLsb' 14 5) (w.extractLsb' 9 5) (w.extractLsb' 5 4) (w.extractLsb' 0 3))
  else if w &&& 0xff000018#32 = 0x0c000000#32 then some (.ovnVdot (w.extractLsb' 19 5) (w.extractLsb' 14 5) (w.extractLsb' 9 5) (w.extractLsb' 5 4) (w.extractLsb' 0 3))
  else if w &&& 0xff000018#32 = 0x03000000#32 then some (.ovnMst (w.extractLsb' 19 5) (w.extractLsb' 14 5) (w.extractLsb' 9 5) (w.extractLsb' 5 4) (w.extractLsb' 0 3))
  else if w &&& 0xfc0f0000#32 = 0x80010000#32 then some (.tellerCmpImm (w.extractLsb' 23 3) (w.extractLsb' 20 3) (w.extractLsb' 13 3) (w.extractLsb' 0 13))
  else if w &&& 0xff000000#32 = 0x0b000000#32 then some (.ovnAddi (w.extractLsb' 19 5) (w.extractLsb' 14 5) (w.extractLsb' 0 14))
  else if w &&& 0xff000000#32 = 0x0f000000#32 then some (.ovnLd (w.extractLsb' 19 5) (w.extractLsb' 14 5) (w.extractLsb' 0 14))
  else if w &&& 0xff000000#32 = 0x10000000#32 then some (.ovnSt (w.extractLsb' 19 5) (w.extractLsb' 14 5) (w.extractLsb' 0 14))
  else if w &&& 0xff000000#32 = 0x03000000#32 then some (.ovnCall (w.extractLsb' 19 5) (w.extractLsb' 0 19))
  else if w &&& 0xff000000#32 = 0x0d000000#32 then some (.ovnVld (w.extractLsb' 19 5) (w.extractLsb' 14 5) (w.extractLsb' 0 14))
  else if w &&& 0xff000000#32 = 0x0e000000#32 then some (.ovnVst (w.extractLsb' 19 5) (w.extractLsb' 14 5) (w.extractLsb' 0 14))
  else none

/-- The one slot instruction of a bundle that has exactly one present slot. -/
def soleSlot (b : Bundle) : Option Instr :=
  match ((List.range 8).filterMap fun i => (b.words.getD i none).map fun w => (i, w)) with
  | [] => some .nop
  | [(i, w)] => match decodeSlot i (splitSlot w) with | .ok j => some j | .error _ => none
  | _ => none

/-- The instruction the decoder reads from an instruction whose bits are `w`, numbered from the first word: a 32-bit teller or
Ovnath word, a literal bundle of 32 bits or more, an Ovnath bundle of 128 bits with one slot, or a dictionary entry of 384 bits. -/
noncomputable def decodeTableWord (nbits w : Nat) : Option Instr :=
  if nbits = 32 then
    match bareWord (BitVec.ofNat 32 w) with
    | some i => if WellFormed i then some i else none
    | none => match literalBundle (w % 2 ^ 32) with
      | .ok b => soleSlot b
      | .error _ => none
  else if nbits = 128 then
    let x := BitVec.ofNat 128 w
    match (List.range 4).filterMap fun i => match ovnDecodeSlot x i with | .ok (some j) => some j | _ => none with
    | [i] => some i
    | _ => none
  else if nbits = 384 then
    match canonicalBundle (BitVec.ofNat 384 w) with
    | .ok b => soleSlot b
    | .error _ => none
  else
    match literalBundle (w % 2 ^ nbits) with
    | .ok b => soleSlot b
    | .error _ => none

/-! ### The encoder -/

/-- The V position of a queue: V0 or V1 by its cluster (R33). -/
def vPos (q : QReg) : Nat := if cluster q then 2 else 1
/-- The C position of an engine (R33). -/
def cPos (e : Bool) : Nat := if e then 5 else 4

/-- The slot word of an opcode, a guard and fields (R60). -/
def slotWord (opc : BitVec 8) (g : Guard) (dst sa sb : BitVec 6) (mod : BitVec 11) : SlotWord :=
  ⟨opc, g.neg, g.pred, dst, sa, sb, mod⟩

/-- The slot position and slot word of a native slot instruction (R53, R60, R63, R64). -/
def encodeSlot : Instr → Option (Nat × SlotWord)
  | .add g d a b => some (0, slotWord 0x01 g (d) (a) (b) (0))
  | .sub g d a b => some (0, slotWord 0x02 g (d) (a) (b) (0))
  | .and g d a b => some (0, slotWord 0x03 g (d) (a) (b) (0))
  | .or g d a b => some (0, slotWord 0x04 g (d) (a) (b) (0))
  | .xor g d a b => some (0, slotWord 0x05 g (d) (a) (b) (0))
  | .shl g d a b => some (0, slotWord 0x06 g (d) (a) (b) (0))
  | .shrl g d a b => some (0, slotWord 0x07 g (d) (a) (b) (0))
  | .shra g d a b => some (0, slotWord 0x08 g (d) (a) (b) (0))
  | .min g d a b => some (0, slotWord 0x09 g (d) (a) (b) (0))
  | .max g d a b => some (0, slotWord 0x0a g (d) (a) (b) (0))
  | .minn g d a b => some (0, slotWord 0x0b g (d) (a) (b) (0))
  | .maxn g d a b => some (0, slotWord 0x0c g (d) (a) (b) (0))
  | .mul g d a b => some (0, slotWord 0x0d g (d) (a) (b) (0))
  | .mulh g d a b => some (0, slotWord 0x0e g (d) (a) (b) (0))
  | .mulhn g d a b => some (0, slotWord 0x0f g (d) (a) (b) (0))
  | .divs g d a b => some (0, slotWord 0x10 g (d) (a) (b) (0))
  | .divn g d a b => some (0, slotWord 0x11 g (d) (a) (b) (0))
  | .rems g d a b => some (0, slotWord 0x12 g (d) (a) (b) (0))
  | .remn g d a b => some (0, slotWord 0x13 g (d) (a) (b) (0))
  | .clz g d a => some (0, slotWord 0x14 g (d) (a) (0) (0))
  | .ctz g d a => some (0, slotWord 0x15 g (d) (a) (0) (0))
  | .popc g d a => some (0, slotWord 0x16 g (d) (a) (0) (0))
  | .sext g d a n => some (0, slotWord 0x17 g (d) (a) (n) (0))
  | .zext g d a n => some (0, slotWord 0x18 g (d) (a) (n) (0))
  | .addi g d a i => some (0, slotWord 0x20 g (d) (a) (immHi i) (immLo i))
  | .andi g d a i => some (0, slotWord 0x21 g (d) (a) (immHi i) (immLo i))
  | .ori g d a i => some (0, slotWord 0x22 g (d) (a) (immHi i) (immLo i))
  | .xori g d a i => some (0, slotWord 0x23 g (d) (a) (immHi i) (immLo i))
  | .shli g d a n => some (0, slotWord 0x24 g (d) (a) (0) (n.zeroExtend 11))
  | .shrli g d a n => some (0, slotWord 0x25 g (d) (a) (0) (n.zeroExtend 11))
  | .shrai g d a n => some (0, slotWord 0x26 g (d) (a) (0) (n.zeroExtend 11))
  | .limm g d i => some (0, slotWord 0x28 g (d) (0) (immHi i) (immLo i))
  | .limmh g d k v => some (0, slotWord 0x29 g (d) (k.zeroExtend 6) (immHi (v.zeroExtend 17)) (immLo (v.zeroExtend 17)))
  | .cmp g d a b nat cond => some (0, slotWord 0x30 g (d) (a) (b) (0#7 ++ ofBool nat ++ condBits cond))
  | .pand g d a b => some (0, slotWord 0x31 g (d) (a) (b) (0))
  | .por g d a b => some (0, slotWord 0x32 g (d) (a) (b) (0))
  | .pxor g d a b => some (0, slotWord 0x33 g (d) (a) (b) (0))
  | .pnot g d a => some (0, slotWord 0x34 g (d) (a) (0) (0))
  | .sel g d p a b => some (0, slotWord 0x35 g (d) (a) (b) (0#5 ++ p))
  | .ldb g d a i => some (0, slotWord 0x40 g (d) (a) (immHi i) (immLo i))
  | .ldbn g d a i => some (0, slotWord 0x41 g (d) (a) (immHi i) (immLo i))
  | .ldh g d a i => some (0, slotWord 0x42 g (d) (a) (immHi i) (immLo i))
  | .ldhn g d a i => some (0, slotWord 0x43 g (d) (a) (immHi i) (immLo i))
  | .ldw g d a i => some (0, slotWord 0x44 g (d) (a) (immHi i) (immLo i))
  | .ldwn g d a i => some (0, slotWord 0x45 g (d) (a) (immHi i) (immLo i))
  | .ldd g d a i => some (0, slotWord 0x46 g (d) (a) (immHi i) (immLo i))
  | .stb g d a i => some (0, slotWord 0x48 g (d) (a) (immHi i) (immLo i))
  | .sth g d a i => some (0, slotWord 0x49 g (d) (a) (immHi i) (immLo i))
  | .stw g d a i => some (0, slotWord 0x4a g (d) (a) (immHi i) (immLo i))
  | .std g d a i => some (0, slotWord 0x4b g (d) (a) (immHi i) (immLo i))
  | .fadd g f r d a b => some (0, slotWord 0x50 g (d) (a) (b) (fmtBits f ++ rmBits r ++ 0#2))
  | .fsub g f r d a b => some (0, slotWord 0x51 g (d) (a) (b) (fmtBits f ++ rmBits r ++ 0#2))
  | .fmul g f r d a b => some (0, slotWord 0x52 g (d) (a) (b) (fmtBits f ++ rmBits r ++ 0#2))
  | .fma g f r d a b => some (0, slotWord 0x53 g (d) (a) (b) (fmtBits f ++ rmBits r ++ 0#2))
  | .fdiv g f r d a b => some (0, slotWord 0x54 g (d) (a) (b) (fmtBits f ++ rmBits r ++ 0#2))
  | .fsqrt g f r d a => some (0, slotWord 0x55 g (d) (a) (0) (fmtBits f ++ rmBits r ++ 0#2))
  | .fmin g f d a b => some (0, slotWord 0x56 g (d) (a) (b) (fmtBits f ++ 0#5))
  | .fmax g f d a b => some (0, slotWord 0x57 g (d) (a) (b) (fmtBits f ++ 0#5))
  | .fcmp g f cond d a b => some (0, slotWord 0x58 g (d) (a) (b) (fmtBits f ++ 0#2 ++ condBits cond))
  | .fcvt g f src r d a => some (0, slotWord 0x59 g (d) (a) (fmtBits src) (fmtBits f ++ rmBits r ++ 0#2))
  | .aadd g f sc d a b => some (0, slotWord 0x60 g (d) (a) (b) (fmtBits f ++ scopeBits sc ++ 0#3))
  | .aand g f sc d a b => some (0, slotWord 0x61 g (d) (a) (b) (fmtBits f ++ scopeBits sc ++ 0#3))
  | .aor g f sc d a b => some (0, slotWord 0x62 g (d) (a) (b) (fmtBits f ++ scopeBits sc ++ 0#3))
  | .axor g f sc d a b => some (0, slotWord 0x63 g (d) (a) (b) (fmtBits f ++ scopeBits sc ++ 0#3))
  | .amin g f sc d a b => some (0, slotWord 0x64 g (d) (a) (b) (fmtBits f ++ scopeBits sc ++ 0#3))
  | .amax g f sc d a b => some (0, slotWord 0x65 g (d) (a) (b) (fmtBits f ++ scopeBits sc ++ 0#3))
  | .aswap g f sc d a b => some (0, slotWord 0x66 g (d) (a) (b) (fmtBits f ++ scopeBits sc ++ 0#3))
  | .acas g f sc d a b => some (0, slotWord 0x67 g (d) (a) (b) (fmtBits f ++ scopeBits sc ++ 0#3))
  | .aminn g f sc d a b => some (0, slotWord 0x68 g (d) (a) (b) (fmtBits f ++ scopeBits sc ++ 0#3))
  | .amaxn g f sc d a b => some (0, slotWord 0x69 g (d) (a) (b) (fmtBits f ++ scopeBits sc ++ 0#3))
  | .afadd g f sc d a b => some (0, slotWord 0x6a g (d) (a) (b) (fmtBits f ++ scopeBits sc ++ 0#3))
  | .afmin g f sc d a b => some (0, slotWord 0x6b g (d) (a) (b) (fmtBits f ++ scopeBits sc ++ 0#3))
  | .afmax g f sc d a b => some (0, slotWord 0x6c g (d) (a) (b) (fmtBits f ++ scopeBits sc ++ 0#3))
  | .tcall g id sc d a b => some (0, slotWord 0x70 g (d) (a) (b) (id ++ scopeBits sc ++ 0#3))
  | .csrr g d n => some (0, slotWord 0x78 g (d) (0) (csrHi n) (csrLo n))
  | .csrw g n a => some (0, slotWord 0x79 g (0) (a) (csrHi n) (csrLo n))
  | .csrs g n a => some (0, slotWord 0x7a g (0) (a) (csrHi n) (csrLo n))
  | .csrc g n a => some (0, slotWord 0x7b g (0) (a) (csrHi n) (csrLo n))
  | .semadd g w a => some (0, slotWord 0x7c g (w.zeroExtend 6) (a) (0) (0))
  | .vadd g f r d a b => some (vPos d, slotWord 0x01 g (d) (a.q) (b.q) (vMod f a.peek b.peek (rmBits r)))
  | .vsub g f r d a b => some (vPos d, slotWord 0x02 g (d) (a.q) (b.q) (vMod f a.peek b.peek (rmBits r)))
  | .vmul g f r d a b => some (vPos d, slotWord 0x03 g (d) (a.q) (b.q) (vMod f a.peek b.peek (rmBits r)))
  | .vfma g f r d a b => some (vPos d, slotWord 0x04 g (d) (a.q) (b.q) (vMod f a.peek b.peek (rmBits r)))
  | .vfms g f r d a b => some (vPos d, slotWord 0x05 g (d) (a.q) (b.q) (vMod f a.peek b.peek (rmBits r)))
  | .vnfma g f r d a b => some (vPos d, slotWord 0x06 g (d) (a.q) (b.q) (vMod f a.peek b.peek (rmBits r)))
  | .vmin g f d a b => some (vPos d, slotWord 0x07 g (d) (a.q) (b.q) (vMod f a.peek b.peek 0))
  | .vmax g f d a b => some (vPos d, slotWord 0x08 g (d) (a.q) (b.q) (vMod f a.peek b.peek 0))
  | .vabs g f d a => some (vPos d, slotWord 0x09 g (d) (a.q) (0) (vMod f a.peek false 0))
  | .vneg g f d a => some (vPos d, slotWord 0x0a g (d) (a.q) (0) (vMod f a.peek false 0))
  | .vadif g f r d a b => some (vPos d, slotWord 0x0b g (d) (a.q) (b.q) (vMod f a.peek b.peek (rmBits r)))
  | .vcmp g f cond d a b => some (vPos d, slotWord 0x0c g (d) (a.q) (b.q) (vMod f a.peek b.peek (condBits cond)))
  | .vsel g f d a b => some (vPos d, slotWord 0x0d g (d) (a.q) (b.q) (vMod f a.peek b.peek 0))
  | .vand g d a b => some (vPos d, slotWord 0x10 g (d) (a.q) (b.q) (vMod .f64 a.peek b.peek 0))
  | .vor g d a b => some (vPos d, slotWord 0x11 g (d) (a.q) (b.q) (vMod .f64 a.peek b.peek 0))
  | .vxor g d a b => some (vPos d, slotWord 0x12 g (d) (a.q) (b.q) (vMod .f64 a.peek b.peek 0))
  | .vnot g d a => some (vPos d, slotWord 0x13 g (d) (a.q) (0) (vMod .f64 a.peek false 0))
  | .vshl g f d a b => some (vPos d, slotWord 0x14 g (d) (a.q) (b.q) (vMod f a.peek b.peek 0))
  | .vshrl g f d a b => some (vPos d, slotWord 0x15 g (d) (a.q) (b.q) (vMod f a.peek b.peek 0))
  | .vshra g f d a b => some (vPos d, slotWord 0x16 g (d) (a.q) (b.q) (vMod f a.peek b.peek 0))
  | .vcvt g f src r sat d a => some (vPos d, slotWord 0x18 g (d) (a.q) (fmtBits src) (vMod f a.peek sat (rmBits r)))
  | .vsat g f t d a => some (vPos d, slotWord 0x19 g (d) (a.q) (0) (vMod f a.peek false t))
  | .vrcp g f r d a => some (vPos d, slotWord 0x1a g (d) (a.q) (0) (vMod f a.peek false (rmBits r)))
  | .vrsq g f r d a => some (vPos d, slotWord 0x1b g (d) (a.q) (0) (vMod f a.peek false (rmBits r)))
  | .vexp2 g f r d a => some (vPos d, slotWord 0x1c g (d) (a.q) (0) (vMod f a.peek false (rmBits r)))
  | .vlog2 g f r d a => some (vPos d, slotWord 0x1d g (d) (a.q) (0) (vMod f a.peek false (rmBits r)))
  | .vdot g f d a b => some (vPos d, slotWord 0x20 g (d) (a.q) (b.q) (vMod f a.peek b.peek 0))
  | .vredadd g f r d a => some (vPos d, slotWord 0x21 g (d) (a.q) (0) (vMod f a.peek false (rmBits r)))
  | .vredmin g f d a => some (vPos d, slotWord 0x22 g (d) (a.q) (0) (vMod f a.peek false 0))
  | .vredmax g f d a => some (vPos d, slotWord 0x23 g (d) (a.q) (0) (vMod f a.peek false 0))
  | .vbcast g f d a => some (vPos d, slotWord 0x24 g (d) (a) (0) (vMod f false false 0))
  | .vextr g f d a b => some (vPos a.q, slotWord 0x25 g (d) (a.q) (b) (vMod f a.peek false 0))
  | .viota g f d => some (vPos d, slotWord 0x26 g (d) (0) (0) (vMod f false false 0))
  | .vmov g d a => some (vPos d, slotWord 0x27 g (d) (a.q) (0) (vMod .f64 a.peek false 0))
  | .vpop g a => some (vPos a, slotWord 0x28 g (0) (a) (0) (0))
  | .vany g f d a => some (vPos a.q, slotWord 0x29 g (d) (a.q) (0) (vMod f a.peek false 0))
  | .vall g f d a => some (vPos a.q, slotWord 0x2a g (d) (a.q) (0) (vMod f a.peek false 0))
  | .vcnt g f d a => some (vPos a.q, slotWord 0x2b g (d) (a.q) (0) (vMod f a.peek false 0))
  | .vld g m d a off => some (vPos d, slotWord 0x30 g (d) (a) (0) (off ++ m.zeroExtend 3))
  | .vlds g m d a b off => some (vPos d, slotWord 0x31 g (d) (a) (b) (off ++ m.zeroExtend 3))
  | .vst g m d a off => some (vPos d, slotWord 0x32 g (d) (a) (0) (off ++ m.zeroExtend 3))
  | .vsts g m d a b off => some (vPos d, slotWord 0x33 g (d) (a) (b) (off ++ m.zeroExtend 3))
  | .mpass g f seq sat d a b => some (3, slotWord 0x01 g (d.zeroExtend 6) (ringBits a) (ringBits b) (fmtBits f ++ seq ++ ofBool sat))
  | .mpassd g f seq sat d a b => some (3, slotWord 0x02 g (d.zeroExtend 6) (ringBits a) (b) (fmtBits f ++ seq ++ ofBool sat))
  | .mzero g d => some (3, slotWord 0x03 g (d.zeroExtend 6) (0) (0) (0))
  | .mloadc g d a => some (3, slotWord 0x04 g (d.zeroExtend 6) (a) (0) (0))
  | .mstorec g f r d a b => some (3, slotWord 0x05 g (d) (a.zeroExtend 6) (b) (vMod f false false (rmBits r)))
  | .mread g d a b => some (3, slotWord 0x06 g (d) (a.zeroExtend 6) (b) (0))
  | .mwrite g d a b => some (3, slotWord 0x07 g (d.zeroExtend 6) (a.q) (b) (vMod .f64 a.peek false 0))
  | .mcsq g d a b => some (3, slotWord 0x08 g (d.zeroExtend 6) (a) (b) (0))
  | .lmul g r d a b => some (3, slotWord 0x20 g (d.zeroExtend 6) (a.zeroExtend 6) (b.zeroExtend 6) (vMod .f64 false false (rmBits r)))
  | .ladd g r d a b => some (3, slotWord 0x21 g (d.zeroExtend 6) (a.zeroExtend 6) (b.zeroExtend 6) (vMod .f64 false false (rmBits r)))
  | .lmap g r d a b => some (3, slotWord 0x22 g (d.zeroExtend 6) (a.zeroExtend 6) (b) (vMod .f64 false false (rmBits r)))
  | .lfilt g r d a b => some (3, slotWord 0x23 g (d.zeroExtend 6) (a.zeroExtend 6) (b) (vMod .f64 false false (rmBits r)))
  | .lred g r d a b => some (3, slotWord 0x24 g (d.zeroExtend 6) (a.zeroExtend 6) (b) (vMod .f64 false false (rmBits r)))
  | .lgath g r d a b => some (3, slotWord 0x25 g (d.zeroExtend 6) (a.zeroExtend 6) (b.zeroExtend 6) (vMod .f64 false false (rmBits r)))
  | .lscat g r d a b => some (3, slotWord 0x26 g (d.zeroExtend 6) (a.zeroExtend 6) (b.zeroExtend 6) (vMod .f64 false false (rmBits r)))
  | .lcvt g f r d a => some (3, slotWord 0x27 g (d.zeroExtend 6) (a.zeroExtend 6) (0) (vMod f false false (rmBits r)))
  | .lxpose g r d a b => some (3, slotWord 0x28 g (d.zeroExtend 6) (a.zeroExtend 6) (b) (vMod .f64 false false (rmBits r)))
  | .lslice g r d a b => some (3, slotWord 0x29 g (d.zeroExtend 6) (a.zeroExtend 6) (b) (vMod .f64 false false (rmBits r)))
  | .lstore g r d a => some (3, slotWord 0x2a g (d.zeroExtend 6) (a.zeroExtend 6) (0) (vMod .f64 false false (rmBits r)))
  | .phint g a => some (3, slotWord 0x40 g (0) (a) (0) (0))
  | .ppin g a => some (3, slotWord 0x41 g (0) (a) (0) (0))
  | .punpin g a => some (3, slotWord 0x42 g (0) (a) (0) (0))
  | .pstatScan g a => some (3, slotWord 0x43 g (0) (a.zeroExtend 6) (0) (0))
  | .pstatSet g a b => some (3, slotWord 0x43 g (0) (a.zeroExtend 6) (b) (1))
  | .pstatr g d a b => some (3, slotWord 0x44 g (d) (a.zeroExtend 6) (b) (0))
  | .pquery g d a => some (3, slotWord 0x45 g (d) (a) (0) (0))
  | .pdrop g a => some (3, slotWord 0x46 g (0) (a) (0) (0))
  | .cpy g e sg m d a b => some (cPos e, slotWord 0x01 g (d) (a) (b) (cMod sg .core (m.zeroExtend 3)))
  | .cpyw g e sg m d a b => some (cPos e, slotWord 0x02 g (d) (a) (b) (cMod sg .core (m.zeroExtend 3)))
  | .cpyt g e sg r d a b => some (cPos e, slotWord 0x03 g (d.zeroExtend 6) (a.zeroExtend 6) (b) (cMod sg .core (rmBits r)))
  | .ldblk g e sg ntc d a b => some (cPos e, slotWord 0x04 g (d) (a) (b) (cMod sg .core (ofBool3 ntc)))
  | .wbblk g e sg d => some (cPos e, slotWord 0x05 g (d) (0) (0) (cMod sg .core 0))
  | .evblk g e sg d => some (cPos e, slotWord 0x06 g (d) (0) (0) (cMod sg .core 0))
  | .rpush g e sg sp d a b => some (cPos e, slotWord 0x07 g (d.zeroExtend 6) (a) (b) (cMod sg .core (ofBool3 sp)))
  | .gath g e sg sp d a b => some (cPos e, slotWord 0x08 g (d) (a) (b) (cMod sg .core (ofBool3 sp)))
  | .scat g e sg sp d a b => some (cPos e, slotWord 0x09 g (d) (a) (b) (cMod sg .core (ofBool3 sp)))
  | .scata g e sg sc op sp d a b => some (cPos e, slotWord 0x0a g (d) (a) (b) (cMod sg sc (ofBool sp ++ op)))
  | .red g e sg sc op sp d a b => some (cPos e, slotWord 0x0b g (d) (a) (b) (cMod sg sc (ofBool sp ++ op)))
  | .collAg g e sg d a b => some (cPos e, slotWord 0x0c g (d) (a) (b) (cMod sg .core 0))
  | .collRs g e sg d a b => some (cPos e, slotWord 0x0c g (d) (a) (b) (cMod sg .core 1))
  | .collAr g e sg d a b => some (cPos e, slotWord 0x0c g (d) (a) (b) (cMod sg .core 2))
  | .collBc g e sg d a b => some (cPos e, slotWord 0x0c g (d) (a) (b) (cMod sg .core 3))
  | .collA2a g e sg d a b => some (cPos e, slotWord 0x0c g (d) (a) (b) (cMod sg .core 4))
  | .send g e sg sp d a b => some (cPos e, slotWord 0x0d g (d) (a) (b) (cMod sg .core (ofBool3 sp)))
  | .recv g e sg sp d a b => some (cPos e, slotWord 0x0e g (d) (a) (b) (cMod sg .core (ofBool3 sp)))
  | .slotq g e d a => some (cPos e, slotWord 0x0f g (d) (a) (0) (0))
  | .pack g f n d a => some (6, slotWord 0x01 g (d) (a.q) (0) (vMod f a.peek false (n.zeroExtend 3)))
  | .unpk g f n d a => some (6, slotWord 0x02 g (d) (a.q) (0) (vMod f a.peek false (n.zeroExtend 3)))
  | .scal g f r d a b => some (6, slotWord 0x03 g (d) (a.q) (b) (vMod f a.peek false (rmBits r)))
  | .scld g d a => some (6, slotWord 0x04 g (d) (a) (0) (vMod .e8m0 false false 0))
  | .shuf g f d a b => some (6, slotWord 0x05 g (d) (a.q) (b.q) (vMod f a.peek b.peek 0))
  | .xpose g f d a => some (6, slotWord 0x06 g (d) (a.q) (0) (vMod f a.peek false 0))
  | .rotl g f d a b => some (6, slotWord 0x07 g (d) (a.q) (b) (vMod f a.peek false 0))
  | .bplx g f d a b => some (6, slotWord 0x08 g (d) (a.q) (b) (vMod f a.peek false 0))
  | .bplm g f d a b => some (6, slotWord 0x09 g (d) (a.q) (b) (vMod f a.peek false 0))
  | .xmv g d a => some (6, slotWord 0x0a g (d) (a.q) (0) (vMod .f64 a.peek false 0))
  | .intl g f h d a b => some (6, slotWord 0x0b g (d) (a.q) (b.q) (vMod f a.peek b.peek (ofBool3 h)))
  | .dintl g f h d a b => some (6, slotWord 0x0c g (d) (a.q) (b.q) (vMod f a.peek b.peek (ofBool3 h)))
  | .setfmt g i => some (6, slotWord 0x0d g (0) (0) (immHi i) (immLo i))
  | .lselLdd g d a b => some (6, slotWord 0x0e g (d.zeroExtend 6) (a.q) (b) (vMod .f64 a.peek false 0))
  | .lselStd g d a b => some (6, slotWord 0x0e g (d) (a.zeroExtend 6) (b) (vMod .f64 false false 1))
  | .lselLdg g d a b => some (6, slotWord 0x0e g (d.zeroExtend 6) (a.q) (b) (vMod .f64 a.peek false 2))
  | .lselStg g d a b => some (6, slotWord 0x0e g (d) (a.zeroExtend 6) (b) (vMod .f64 false false 3))
  | .ntreq g => some (6, slotWord 0x0f g (0) (0) (0) (0))
  | .br g i => some (7, slotWord 0x01 g (0) (0) (immHi i) (immLo i))
  | .brp g a i => some (7, slotWord 0x02 g (0) (a) (immHi i) (immLo i))
  | .bri g a => some (7, slotWord 0x03 g (0) (a) (0) (0))
  | .call g d i => some (7, slotWord 0x04 g (d) (0) (immHi i) (immLo i))
  | .ret g a => some (7, slotWord 0x05 g (0) (a) (0) (0))
  | .loop g a i => some (7, slotWord 0x06 g (0) (a) (immHi i) (immLo i))
  | .wait g w a => some (7, slotWord 0x07 g (w.zeroExtend 6) (a) (0) (0))
  | .waitCon g w a => some (7, slotWord 0x07 g (w.zeroExtend 6) (a) (0) (1))
  | .nret g => some (7, slotWord 0x08 g (0) (0) (0) (0))
  | .trap g k => some (7, slotWord 0x09 g (0) (0) (0) (k.zeroExtend 11))
  | .sysc g w a => some (7, slotWord 0x0a g (w.zeroExtend 6) (a) (0) (0))
  | .halt g => some (7, slotWord 0x0b g (0) (0) (0) (0))
  | .yield g => some (7, slotWord 0x0c g (0) (0) (0) (0))
  | .cropen g i => some (7, slotWord 0x0d g (0) (0) (immHi i) (immLo i))
  | .crclose g => some (7, slotWord 0x0e g (0) (0) (0) (0))
  | .fence g ca cb a d => some (7, slotWord 0x0f g (d) (a) (immHi (0#3 ++ ca ++ cb)) (immLo (0#3 ++ ca ++ cb)))
  | .snap g => some (7, slotWord 0x10 g (0) (0) (0) (0))
  | .force g d a => some (7, slotWord 0x11 g (d.zeroExtend 6) (a) (0) (0))
  | .grow g i => some (7, slotWord 0x12 g (0) (0) (immHi i) (immLo i))
  | .shrink g i => some (7, slotWord 0x13 g (0) (0) (immHi i) (immLo i))
  | .taskend g => some (7, slotWord 0x14 g (0) (0) (0) (0))
  | .spawn g sig w a => some (7, slotWord 0x15 g (w.zeroExtend 6) (a) (0) (ofBool11 sig))
  | .enq g a b => some (7, slotWord 0x16 g (0) (a) (b) (0))
  | .deq g d a => some (7, slotWord 0x17 g (d) (a) (0) (0))
  | .scan g w a b => some (7, slotWord 0x18 g (w.zeroExtend 6) (a) (b) (0))
  | .lcmapw g a b => some (7, slotWord 0x19 g (0) (a) (b) (0))
  | .eret g => some (7, slotWord 0x1a g (0) (0) (0) (0))
  | .ctxsv g a => some (7, slotWord 0x1b g (0) (a) (0) (0))
  | .ctxld g a => some (7, slotWord 0x1c g (0) (a) (0) (0))
  | _ => none

/-- The word of a teller or Ovnath instruction (R281, R403). -/
def encodeWord : Instr → Option (BitVec 32)
  | .tellerLdw d a i => some (0x04000000#32 ||| d.zeroExtend 32 <<< 23 ||| a.zeroExtend 32 <<< 20 ||| i.zeroExtend 32)
  | .tellerLdd d a i => some (0x08000000#32 ||| d.zeroExtend 32 <<< 23 ||| a.zeroExtend 32 <<< 20 ||| i.zeroExtend 32)
  | .tellerStw a b i => some (0x0c000000#32 ||| a.zeroExtend 32 <<< 20 ||| b.zeroExtend 32 <<< 17 ||| i.zeroExtend 32)
  | .tellerStd a b i => some (0x10000000#32 ||| a.zeroExtend 32 <<< 20 ||| b.zeroExtend 32 <<< 17 ||| i.zeroExtend 32)
  | .tellerAdd d a b => some (0x20000000#32 ||| d.zeroExtend 32 <<< 23 ||| a.zeroExtend 32 <<< 20 ||| b.zeroExtend 32 <<< 17)
  | .tellerAddImm d a i => some (0x20010000#32 ||| d.zeroExtend 32 <<< 23 ||| a.zeroExtend 32 <<< 20 ||| i.zeroExtend 32)
  | .tellerSub d a b => some (0x24000000#32 ||| d.zeroExtend 32 <<< 23 ||| a.zeroExtend 32 <<< 20 ||| b.zeroExtend 32 <<< 17)
  | .tellerSubImm d a i => some (0x24010000#32 ||| d.zeroExtend 32 <<< 23 ||| a.zeroExtend 32 <<< 20 ||| i.zeroExtend 32)
  | .tellerAnd d a b => some (0x28000000#32 ||| d.zeroExtend 32 <<< 23 ||| a.zeroExtend 32 <<< 20 ||| b.zeroExtend 32 <<< 17)
  | .tellerAndImm d a i => some (0x28010000#32 ||| d.zeroExtend 32 <<< 23 ||| a.zeroExtend 32 <<< 20 ||| i.zeroExtend 32)
  | .tellerOr d a b => some (0x2c000000#32 ||| d.zeroExtend 32 <<< 23 ||| a.zeroExtend 32 <<< 20 ||| b.zeroExtend 32 <<< 17)
  | .tellerOrImm d a i => some (0x2c010000#32 ||| d.zeroExtend 32 <<< 23 ||| a.zeroExtend 32 <<< 20 ||| i.zeroExtend 32)
  | .tellerXor d a b => some (0x30000000#32 ||| d.zeroExtend 32 <<< 23 ||| a.zeroExtend 32 <<< 20 ||| b.zeroExtend 32 <<< 17)
  | .tellerXorImm d a i => some (0x30010000#32 ||| d.zeroExtend 32 <<< 23 ||| a.zeroExtend 32 <<< 20 ||| i.zeroExtend 32)
  | .tellerShl d a b => some (0x34000000#32 ||| d.zeroExtend 32 <<< 23 ||| a.zeroExtend 32 <<< 20 ||| b.zeroExtend 32 <<< 17)
  | .tellerShlImm d a i => some (0x34010000#32 ||| d.zeroExtend 32 <<< 23 ||| a.zeroExtend 32 <<< 20 ||| i.zeroExtend 32)
  | .tellerShrl d a b => some (0x38000000#32 ||| d.zeroExtend 32 <<< 23 ||| a.zeroExtend 32 <<< 20 ||| b.zeroExtend 32 <<< 17)
  | .tellerShrlImm d a i => some (0x38010000#32 ||| d.zeroExtend 32 <<< 23 ||| a.zeroExtend 32 <<< 20 ||| i.zeroExtend 32)
  | .tellerShra d a b => some (0x3c000000#32 ||| d.zeroExtend 32 <<< 23 ||| a.zeroExtend 32 <<< 20 ||| b.zeroExtend 32 <<< 17)
  | .tellerShraImm d a i => some (0x3c010000#32 ||| d.zeroExtend 32 <<< 23 ||| a.zeroExtend 32 <<< 20 ||| i.zeroExtend 32)
  | .tellerMin d a b => some (0x40000000#32 ||| d.zeroExtend 32 <<< 23 ||| a.zeroExtend 32 <<< 20 ||| b.zeroExtend 32 <<< 17)
  | .tellerMinImm d a i => some (0x40010000#32 ||| d.zeroExtend 32 <<< 23 ||| a.zeroExtend 32 <<< 20 ||| i.zeroExtend 32)
  | .tellerMax d a b => some (0x44000000#32 ||| d.zeroExtend 32 <<< 23 ||| a.zeroExtend 32 <<< 20 ||| b.zeroExtend 32 <<< 17)
  | .tellerMaxImm d a i => some (0x44010000#32 ||| d.zeroExtend 32 <<< 23 ||| a.zeroExtend 32 <<< 20 ||| i.zeroExtend 32)
  | .tellerMinn d a b => some (0x48000000#32 ||| d.zeroExtend 32 <<< 23 ||| a.zeroExtend 32 <<< 20 ||| b.zeroExtend 32 <<< 17)
  | .tellerMinnImm d a i => some (0x48010000#32 ||| d.zeroExtend 32 <<< 23 ||| a.zeroExtend 32 <<< 20 ||| i.zeroExtend 32)
  | .tellerMaxn d a b => some (0x4c000000#32 ||| d.zeroExtend 32 <<< 23 ||| a.zeroExtend 32 <<< 20 ||| b.zeroExtend 32 <<< 17)
  | .tellerMaxnImm d a i => some (0x4c010000#32 ||| d.zeroExtend 32 <<< 23 ||| a.zeroExtend 32 <<< 20 ||| i.zeroExtend 32)
  | .tellerFadd d a b f => some (0x60000000#32 ||| d.zeroExtend 32 <<< 23 ||| a.zeroExtend 32 <<< 20 ||| b.zeroExtend 32 <<< 17 ||| f.zeroExtend 32 <<< 13)
  | .tellerFmin d a b f => some (0x64000000#32 ||| d.zeroExtend 32 <<< 23 ||| a.zeroExtend 32 <<< 20 ||| b.zeroExtend 32 <<< 17 ||| f.zeroExtend 32 <<< 13)
  | .tellerFmax d a b f => some (0x68000000#32 ||| d.zeroExtend 32 <<< 23 ||| a.zeroExtend 32 <<< 20 ||| b.zeroExtend 32 <<< 17 ||| f.zeroExtend 32 <<< 13)
  | .tellerCmp d a b c => some (0x80000000#32 ||| d.zeroExtend 32 <<< 23 ||| a.zeroExtend 32 <<< 20 ||| b.zeroExtend 32 <<< 17 ||| c.zeroExtend 32 <<< 13)
  | .tellerCmpImm d a c i => some (0x80010000#32 ||| d.zeroExtend 32 <<< 23 ||| a.zeroExtend 32 <<< 20 ||| c.zeroExtend 32 <<< 13 ||| i.zeroExtend 32)
  | .tellerSel d a b c => some (0x84000000#32 ||| d.zeroExtend 32 <<< 23 ||| a.zeroExtend 32 <<< 20 ||| b.zeroExtend 32 <<< 17 ||| c.zeroExtend 32)
  | .tellerSat d a f => some (0x88000000#32 ||| d.zeroExtend 32 <<< 23 ||| a.zeroExtend 32 <<< 20 ||| f.zeroExtend 32 <<< 13)
  | .tellerMrg d a b => some (0x8c000000#32 ||| d.zeroExtend 32 <<< 23 ||| a.zeroExtend 32 <<< 20 ||| b.zeroExtend 32 <<< 17)
  | .tellerLimm d i => some (0x90000000#32 ||| d.zeroExtend 32 <<< 23 ||| i.zeroExtend 32)
  | .ovnAdd d a b => some (0x01000000#32 ||| d.zeroExtend 32 <<< 19 ||| a.zeroExtend 32 <<< 14 ||| b.zeroExtend 32 <<< 9)
  | .ovnSub d a b => some (0x02000000#32 ||| d.zeroExtend 32 <<< 19 ||| a.zeroExtend 32 <<< 14 ||| b.zeroExtend 32 <<< 9)
  | .ovnMul d a b => some (0x03000000#32 ||| d.zeroExtend 32 <<< 19 ||| a.zeroExtend 32 <<< 14 ||| b.zeroExtend 32 <<< 9)
  | .ovnDiv d a b => some (0x04000000#32 ||| d.zeroExtend 32 <<< 19 ||| a.zeroExtend 32 <<< 14 ||| b.zeroExtend 32 <<< 9)
  | .ovnAnd d a b => some (0x05000000#32 ||| d.zeroExtend 32 <<< 19 ||| a.zeroExtend 32 <<< 14 ||| b.zeroExtend 32 <<< 9)
  | .ovnOr d a b => some (0x06000000#32 ||| d.zeroExtend 32 <<< 19 ||| a.zeroExtend 32 <<< 14 ||| b.zeroExtend 32 <<< 9)
  | .ovnXor d a b => some (0x07000000#32 ||| d.zeroExtend 32 <<< 19 ||| a.zeroExtend 32 <<< 14 ||| b.zeroExtend 32 <<< 9)
  | .ovnShl d a b => some (0x08000000#32 ||| d.zeroExtend 32 <<< 19 ||| a.zeroExtend 32 <<< 14 ||| b.zeroExtend 32 <<< 9)
  | .ovnShr d a b => some (0x09000000#32 ||| d.zeroExtend 32 <<< 19 ||| a.zeroExtend 32 <<< 14 ||| b.zeroExtend 32 <<< 9)
  | .ovnShra d a b => some (0x0a000000#32 ||| d.zeroExtend 32 <<< 19 ||| a.zeroExtend 32 <<< 14 ||| b.zeroExtend 32 <<< 9)
  | .ovnAddi d a i => some (0x0b000000#32 ||| d.zeroExtend 32 <<< 19 ||| a.zeroExtend 32 <<< 14 ||| i.zeroExtend 32)
  | .ovnLi d i => some (0x0c000000#32 ||| d.zeroExtend 32 <<< 19 ||| i.zeroExtend 32)
  | .ovnLis d i => some (0x0d000000#32 ||| d.zeroExtend 32 <<< 19 ||| i.zeroExtend 32)
  | .ovnCmp d a b n c => some (0x0e000000#32 ||| d.zeroExtend 32 <<< 19 ||| a.zeroExtend 32 <<< 14 ||| b.zeroExtend 32 <<< 9 ||| n.zeroExtend 32 <<< 8 ||| c.zeroExtend 32 <<< 5)
  | .ovnLd d a i => some (0x0f000000#32 ||| d.zeroExtend 32 <<< 19 ||| a.zeroExtend 32 <<< 14 ||| i.zeroExtend 32)
  | .ovnSt d a i => some (0x10000000#32 ||| d.zeroExtend 32 <<< 19 ||| a.zeroExtend 32 <<< 14 ||| i.zeroExtend 32)
  | .ovnJ i => some (0x01000000#32 ||| i.zeroExtend 32)
  | .ovnJk k i => some (0x02000000#32 ||| k.zeroExtend 32 <<< 19 ||| i.zeroExtend 32)
  | .ovnCall d i => some (0x03000000#32 ||| d.zeroExtend 32 <<< 19 ||| i.zeroExtend 32)
  | .ovnRet a => some (0x04000000#32 ||| a.zeroExtend 32 <<< 14)
  | .ovnEnd => some (0x05000000#32)
  | .ovnTrap i => some (0x06000000#32 ||| i.zeroExtend 32)
  | .ovnSys d a => some (0x07000000#32 ||| d.zeroExtend 32 <<< 19 ||| a.zeroExtend 32 <<< 14)
  | .ovnVadd d a b f r => some (0x01000000#32 ||| d.zeroExtend 32 <<< 19 ||| a.zeroExtend 32 <<< 14 ||| b.zeroExtend 32 <<< 9 ||| f.zeroExtend 32 <<< 5 ||| r.zeroExtend 32)
  | .ovnVsub d a b f r => some (0x02000000#32 ||| d.zeroExtend 32 <<< 19 ||| a.zeroExtend 32 <<< 14 ||| b.zeroExtend 32 <<< 9 ||| f.zeroExtend 32 <<< 5 ||| r.zeroExtend 32)
  | .ovnVmul d a b f r => some (0x03000000#32 ||| d.zeroExtend 32 <<< 19 ||| a.zeroExtend 32 <<< 14 ||| b.zeroExtend 32 <<< 9 ||| f.zeroExtend 32 <<< 5 ||| r.zeroExtend 32)
  | .ovnVfma d a b f r => some (0x04000000#32 ||| d.zeroExtend 32 <<< 19 ||| a.zeroExtend 32 <<< 14 ||| b.zeroExtend 32 <<< 9 ||| f.zeroExtend 32 <<< 5 ||| r.zeroExtend 32)
  | .ovnVmin d a b f r => some (0x05000000#32 ||| d.zeroExtend 32 <<< 19 ||| a.zeroExtend 32 <<< 14 ||| b.zeroExtend 32 <<< 9 ||| f.zeroExtend 32 <<< 5 ||| r.zeroExtend 32)
  | .ovnVmax d a b f r => some (0x06000000#32 ||| d.zeroExtend 32 <<< 19 ||| a.zeroExtend 32 <<< 14 ||| b.zeroExtend 32 <<< 9 ||| f.zeroExtend 32 <<< 5 ||| r.zeroExtend 32)
  | .ovnVcmp d a b f c => some (0x07000000#32 ||| d.zeroExtend 32 <<< 19 ||| a.zeroExtend 32 <<< 14 ||| b.zeroExtend 32 <<< 9 ||| f.zeroExtend 32 <<< 5 ||| c.zeroExtend 32)
  | .ovnVsel d a b f => some (0x08000000#32 ||| d.zeroExtend 32 <<< 19 ||| a.zeroExtend 32 <<< 14 ||| b.zeroExtend 32 <<< 9 ||| f.zeroExtend 32 <<< 5)
  | .ovnVcvt d a s f r => some (0x09000000#32 ||| d.zeroExtend 32 <<< 19 ||| a.zeroExtend 32 <<< 14 ||| s.zeroExtend 32 <<< 9 ||| f.zeroExtend 32 <<< 5 ||| r.zeroExtend 32)
  | .ovnVbc d a f => some (0x0a000000#32 ||| d.zeroExtend 32 <<< 19 ||| a.zeroExtend 32 <<< 14 ||| f.zeroExtend 32 <<< 5)
  | .ovnVred d a f r => some (0x0b000000#32 ||| d.zeroExtend 32 <<< 19 ||| a.zeroExtend 32 <<< 14 ||| f.zeroExtend 32 <<< 5 ||| r.zeroExtend 32)
  | .ovnVdot d a b f r => some (0x0c000000#32 ||| d.zeroExtend 32 <<< 19 ||| a.zeroExtend 32 <<< 14 ||| b.zeroExtend 32 <<< 9 ||| f.zeroExtend 32 <<< 5 ||| r.zeroExtend 32)
  | .ovnVld d a i => some (0x0d000000#32 ||| d.zeroExtend 32 <<< 19 ||| a.zeroExtend 32 <<< 14 ||| i.zeroExtend 32)
  | .ovnVst d a i => some (0x0e000000#32 ||| d.zeroExtend 32 <<< 19 ||| a.zeroExtend 32 <<< 14 ||| i.zeroExtend 32)
  | .ovnVext d a b f => some (0x0f000000#32 ||| d.zeroExtend 32 <<< 19 ||| a.zeroExtend 32 <<< 14 ||| b.zeroExtend 32 <<< 9 ||| f.zeroExtend 32 <<< 5)
  | .ovnMz d => some (0x01000000#32 ||| d.zeroExtend 32 <<< 19)
  | .ovnMma d a b f => some (0x02000000#32 ||| d.zeroExtend 32 <<< 19 ||| a.zeroExtend 32 <<< 14 ||| b.zeroExtend 32 <<< 9 ||| f.zeroExtend 32 <<< 5)
  | .ovnMst d a b f r => some (0x03000000#32 ||| d.zeroExtend 32 <<< 19 ||| a.zeroExtend 32 <<< 14 ||| b.zeroExtend 32 <<< 9 ||| f.zeroExtend 32 <<< 5 ||| r.zeroExtend 32)
  | .ovnMrd d a b => some (0x04000000#32 ||| d.zeroExtend 32 <<< 19 ||| a.zeroExtend 32 <<< 14 ||| b.zeroExtend 32 <<< 9)
  | _ => none

/-- The words of an instruction as one number with its length in bits: a native slot instruction as a literal bundle of one
slot (R58), NOP as a literal bundle of none, a teller or Ovnath instruction as its word. Events have no words. -/
def encode (i : Instr) : Option (Nat × Nat) :=
  match encodeSlot i with
  | some (pos, w) =>
    some (80, literalImage ⟨false, false, false, 0, (List.range 8).map fun k => if k = pos then some (packSlot w) else none, 10⟩)
  | none =>
    match encodeWord i with
    | some w => some (32, w.toNat)
    | none => if i = .nop then some (32, 0) else none

end Sys2Proof
end

