-- ==== Sys2Proof/Config.lean ====
section
/-! DEFINITION. What the specification leaves open, as constants with no body: the free values of the model.
Nothing in Lean can evaluate one of them, so every statement that meets one holds whatever it is. -/

namespace Sys2Proof

/-- The free value number `k`: what a location holds whose value the specification leaves undefined (R8), and every
result whose value it does not state. The state's counter `free` numbers the values as they are drawn. -/
opaque Config.freeNat : Nat → Nat

end Sys2Proof
end

