-- ==== Sys2Proof/Machine/Elementary.lean ====
section
/-! DEFINITION. The elementary functions of R213, evaluated in fixed point between two bounds; where the bounds do not settle
the kept bits, an exact comparison of integers does (log 49). -/

namespace Sys2Proof.Machine

/-- The working precision of the interval evaluation, in fraction bits. -/
def fxBits : Nat := 320

/-- The fraction bits kept of a function value; the rest is its sticky bit. -/
def fxKeep : Nat := 200

/-- A value between two fixed-point bounds, lo / 2^fxBits and hi / 2^fxBits. -/
structure Interval where
  lo : Nat
  hi : Nat
deriving DecidableEq, Repr

/-- Partial sums of 1 / (k 2^k), rounded down, from k = `k` for `n` terms. -/
def ln2Sum : (n k : Nat) → Nat
  | 0, _ => 0
  | n + 1, k => 2 ^ fxBits / (k * 2 ^ k) + ln2Sum n (k + 1)

/-- Bounds of the natural logarithm of 2. -/
def ln2 : Interval := let s := ln2Sum 330 1; ⟨s, s + 340⟩

/-- The product of a bound with another, downward. -/
def fxMulLo (a b : Nat) : Nat := (a * b) >>> fxBits
/-- The product of a bound with another, upward. -/
def fxMulHi (a b : Nat) : Nat := (a * b) >>> fxBits + 1

/-- The exponential series of `t` below 1, downward: the terms from t^k / k! with `term` the k-th. -/
def expLo (t : Nat) : (n k term : Nat) → Nat
  | 0, _, _ => 0
  | n + 1, k, term => term + expLo t n (k + 1) (fxMulLo term t / (k + 1))

/-- The exponential series upward; after n terms the tail is below the last term. -/
def expHi (t : Nat) : (n k term : Nat) → Nat
  | 0, _, term => 2 * term + 1
  | n + 1, k, term => term + expHi t n (k + 1) (fxMulHi term t / (k + 1) + 1)

/-- The odd series z + z^3/3 + z^5/5 + …, downward. -/
def atanhLo (z2 : Nat) : (n k pow : Nat) → Nat
  | 0, _, _ => 0
  | n + 1, k, pow => pow / k + atanhLo z2 n (k + 2) (fxMulLo pow z2)

/-- The odd series upward, for z at most 1/3. -/
def atanhHi (z2 : Nat) : (n k pow : Nat) → Nat
  | 0, _, pow => 2 * pow + 1
  | n + 1, k, pow => pow / k + 1 + atanhHi z2 n (k + 2) (fxMulHi pow z2)

/-- The kept bits of a value between two bounds. Where these differ, `reaches n` says exactly whether the value is at least n / 2^fxKeep
(R213). -/
def settle (i : Interval) (reaches : Nat → Bool) : Nat :=
  let a := i.lo >>> (fxBits - fxKeep)
  let b := i.hi >>> (fxBits - fxKeep)
  if a = b then a else a + ((List.range (b - a)).filter fun j => reaches (a + j + 1)).length

/-- 2^f is at least n / 2^fxKeep, for the fraction f of x = ±m * 2^e: both sides to the power 2^-e. -/
def exp2Reaches (neg : Bool) (m : Nat) (e : Int) (n : Nat) : Bool :=
  let d := 2 ^ (-e).toNat
  let p := if neg then (d - m % d) % d else m % d
  n ^ d ≤ 2 ^ (p + fxKeep * d)

/-- The magnitude of log2 x is at least n / 2^fxKeep, for x = m * 2^e: both sides as powers of 2, to the power 2^fxKeep. -/
def log2Reaches (neg : Bool) (m : Nat) (e : Int) (n : Nat) : Bool :=
  let d := 2 ^ fxKeep
  if neg then m ^ d * 2 ^ n ≤ 2 ^ ((-e).toNat * d) else 2 ^ (n + (-e).toNat * d) ≤ (m * 2 ^ e.toNat) ^ d

/-- 2^x for a finite nonzero x with m * 2^e its magnitude (R213). -/
def exp2Exact (neg : Bool) (m : Nat) (e : Int) : Exact :=
  let big := (bitLen m : Int) + e > 12
  if big then ⟨false, 1, if neg then -5000 else 5000, true⟩
  else
    -- the integral part (floored) and the fraction in units of 2^-fxBits, rounded down and up
    let sc : Int := e + fxBits
    let magLo := if sc ≥ 0 then m <<< sc.toNat else m >>> (-sc).toNat
    let exact := sc ≥ 0 || m % 2 ^ (-sc).toNat = 0
    let magHi := if exact then magLo else magLo + 1
    let one := 2 ^ fxBits
    let (ip, f) : Int × Interval :=
      if neg then
        let k := ceilDiv magHi one
        (-(k : Int), ⟨k * one - magHi, k * one - magLo⟩)
      else
        let k := magLo / one
        ((k : Int), ⟨magLo - k * one, magHi - k * one⟩)
    if f.hi = 0 then ⟨false, 1, ip, false⟩
    else
      let lo := expLo (fxMulLo f.lo ln2.lo) 80 0 one
      let hi := expHi (fxMulHi f.hi ln2.hi) 80 0 one
      -- 1 < 2^f < 2 strictly for a fraction strictly between 0 and 1
      let hi := if hi ≥ 2 * one then 2 * one - 1 else hi
      ⟨false, settle ⟨lo, hi⟩ (exp2Reaches neg m e), ip - fxKeep, true⟩

/-- log2 x for a finite positive x = m * 2^e (R213). -/
def log2Exact (m : Nat) (e : Int) : Exact :=
  let L := bitLen m
  let E : Int := (L : Int) - 1 + e
  let one := 2 ^ fxBits
  let y := m <<< (fxBits + 1 - L)          -- x / 2^E in [1, 2), exact
  if y = one then ⟨E < 0, E.natAbs, 0, false⟩
  else
    let z := ((y - one) <<< fxBits) / (y + one)
    let lnLo := 2 * atanhLo (fxMulLo z z) 110 1 z
    let lnHi := 2 * atanhHi (fxMulHi (z + 1) (z + 1)) 110 1 (z + 1)
    let lgLo := (lnLo <<< fxBits) / ln2.hi
    let lgHi := (lnHi <<< fxBits) / ln2.lo + 1
    let lgHi := if lgHi ≥ one then one - 1 else lgHi
    if E ≥ 0 then
      ⟨false, settle ⟨E.toNat * one + lgLo, E.toNat * one + lgHi⟩ (log2Reaches false m e), -(fxKeep : Int), true⟩
    else
      let k := E.natAbs * one
      ⟨true, settle ⟨k - lgHi, k - lgLo⟩ (log2Reaches true m e), -(fxKeep : Int), true⟩

/-- 1/√x for a finite positive x = m * 2^e (R213). -/
def rsqExact (m : Nat) (e : Int) : Exact :=
  let k : Nat := 400 + (if e % 2 = 0 then 0 else 1)
  let r := isqrt (2 ^ k / m)
  ⟨false, r, -((e + k) / 2), r * r * m ≠ 2 ^ k⟩

/-- The four functions of R213 on an element of format `f`, before rounding: VRCP 0, VRSQ 1, VEXP2 2, VLOG2 3. -/
def elementaryExact (n : Fmtn) (fn : Nat) (f : Fmt) (x : Nat) : Exactly :=
  let v := valueOf n f x
  match fn, v with
  | _, .nan s => .nan (flagIf s flagNV)
  | 0, v => divExact (.fin false 1 0) v
  | 1, .inf neg => if neg then .nan flagNV else .fin ⟨false, 0, 0, false⟩
  | 1, .fin neg m e =>
    if m = 0 then .inf neg flagDZ else if neg then .nan flagNV else .fin (rsqExact m e)
  | 2, .inf neg => if neg then .fin ⟨false, 0, 0, false⟩ else .inf false 0
  | 2, .fin neg m e => if m = 0 then .fin ⟨false, 1, 0, false⟩ else .fin (exp2Exact neg m e)
  | _, .inf neg => if neg then .nan flagNV else .inf false 0
  | _, .fin neg m e =>
    if m = 0 then .inf true flagDZ else if neg then .nan flagNV else .fin (log2Exact m e)

/-- The four functions of R213 on one lane. -/
def elementary (fn : Nat) (f : Fmt) (mode : RM) (sd : Seed) (x : Nat) : Nat × Flags :=
  finish f mode false sd (elementaryExact (fmtnOf 0x5) fn f x)

end Sys2Proof.Machine
end

