-- ==== Sys2Proof/Machine/Sums.lean ====
section
/-! DEFINITION. The order of sums in a matrix pass, and block sums (R96 to R101, R215). -/

namespace Sys2Proof.Machine

/-- What a block sum has gathered: a NaN term, invalid, infinities of each sign, the exact finite sum as
s * 2^e, and whether every term so far is -0 (R98, R99). -/
structure BlockAcc where
  nan : Bool
  inv : Bool
  pInf : Bool
  nInf : Bool
  s : Int
  e : Int
  allNegZero : Bool
deriving DecidableEq, Repr

/-- The block sum of no terms. -/
def BlockAcc.empty : BlockAcc := ⟨false, false, false, false, 0, 0, true⟩

/-- One more term of a block sum; `inv` says it came of an invalid operation (R98). -/
def blockAdd (b : BlockAcc) (t : Val) (inv : Bool) : BlockAcc :=
  match t with
  | .nan s => { b with nan := true, inv := b.inv || inv || s, allNegZero := false }
  | .inf n => { b with pInf := b.pInf || !n, nInf := b.nInf || n, allNegZero := false }
  | .fin n m e =>
    if m = 0 then { b with allNegZero := b.allNegZero && n }
    else
      let (x, y, e') := alignVals b.s b.e (signedSig n m) e
      { b with s := x + y, e := e', allNegZero := false }

/-- The decision of R98 steps 1 to 3 and R99. -/
def blockResult (b : BlockAcc) : Exactly :=
  if b.nan || (b.pInf && b.nInf) then .nan (flagIf (b.inv || (b.pInf && b.nInf)) flagNV)
  else if b.pInf then .inf false 0
  else if b.nInf then .inf true 0
  else if b.s = 0 then .fin ⟨b.allNegZero, 0, 0, false⟩
  else .fin ⟨b.s < 0, b.s.natAbs, b.e, false⟩

/-- The block sum of a list of values (VREDADD, R215). -/
def blockSum (ts : List Val) : Exactly :=
  blockResult (ts.foldl (fun b t => blockAdd b t false) BlockAcc.empty)

/-- The accumulator format of an operand format (R96). -/
def accFmt (f : Fmt) : Fmt :=
  match f with
  | .f64 => .f64
  | .f32 | .bf16 | .f16 | .b8 _ _ => .f32
  | _ => .int32

/-- The cell codes of R225 at depth k of a sequence register. -/
def cellCode (seq k : Nat) : Nat := field seq (2 * (k % 32)) 2

/-- The absolute difference of two values as an exact result; a zero is +0 (R97, R99). -/
def absDiff (a b : Val) : Exactly :=
  match addExact .rne a b.neg with
  | .fin x => .fin { x with neg := false }
  | .inf _ fl => .inf false fl
  | r => r

/-- An exact result as a value, for use as a term. -/
def Exactly.toVal : Exactly → Val × Flags
  | .nan fl => (.nan false, fl)
  | .inf n fl => (.inf n, fl)
  | .fin x => (.fin x.neg x.m x.e, 0)

/-- An element of a tile with a binary8 zero counted as +0 is already so (R87, R99). The element of a signed or natural
format as a value. -/
def tileVal (n : Fmtn) (f : Fmt) (row k : Nat) : Val :=
  valueOf n f (laneOf (fmtWidth n f) row k)

/-- Sat of R97 on one accumulator element: an infinity of a floating chain is clamped to the finite range. -/
def satFloat (f : Fmt) (x : Nat) : Nat × Flags :=
  match valueOf (fmtnOf 5) f x, gridOf f with
  | .inf n, some g => (encodeMag f n g.maxCode, flagSATD)
  | _, _ => (x, 0)

/-- One step of a strict chain in a floating accumulator format (R97). -/
def chainFloat (acc : Fmt) (sat : Bool) (code : Nat) (x : Nat) (a b : Val) : Nat × Flags :=
  let n := fmtnOf 5
  let sd : Seed := ⟨0, 0, 0⟩
  let c := valueOf n acc x
  let (r, fl) : Nat × Flags :=
    match code with
    | 0 => finish acc .rne sat sd (fmaExact .rne a b c)
    | 1 =>
      let (d, f1) := Exactly.toVal (absDiff a b)
      let (r, f2) := finish acc .rne sat sd (addExact .rne c d)
      (r, f1 ||| f2)
    | k =>
      let (s, f1) := finish acc .rne sat sd (addExact .rne a b)
      let (r, f2) := minMaxFloat n acc (k = 2) x s
      (r, f1 ||| f2)
  if sat then let (r', f') := satFloat acc r; (r', fl ||| f') else (r, fl)

/-- An integer brought to int32: wrapped, or clamped with SAT (R97, R98). -/
def toInt32 (sat : Bool) (i : Int) : Nat × Flags :=
  if sat then
    let (c, out) := clampInt (fmtnOf 5) .int32 i
    (wrap 32 c, flagIf out flagSATD)
  else (wrap 32 i, 0)

/-- One step of a strict chain in int32 (R97). -/
def chainInt (sat : Bool) (code : Nat) (x : Nat) (a b : Int) : Nat × Flags :=
  let c := signedOf 32 x
  match code with
  | 0 => toInt32 sat (c + a * b)
  | 1 => toInt32 sat (c + (a - b).natAbs)
  | k =>
    let (s, f1) := toInt32 false (a + b)
    let s := signedOf 32 s
    let m := if k = 2 then max c s else min c s
    let (r, f2) := toInt32 sat m
    (r, f1 ||| f2)

/-- The depth of a pass (R219): 1,024 bits of a tile row over the element width. -/
def passDepth (n : Fmtn) (f : Fmt) : Nat := 1024 / fmtWidth n f

/-- Whether a pass is a strict chain (R97). -/
def isChain (f : Fmt) (depth seq : Nat) : Bool :=
  f == .f64 || f == .f32 || (List.range (min depth 32)).any (fun k => cellCode seq k ≥ 2)

/-- One element of a pass: the accumulator element `c` after the steps over the rows `ra` of the A tile and `rb` of
the B tile, each 1,024 bits (R96 to R99). -/
def passElement (n : Fmtn) (f : Fmt) (seq : Nat) (sat : Bool) (c ra rb : Nat) : Nat × Flags :=
  let acc := accFmt f
  let depth := passDepth n f
  let w := fmtWidth n f
  let ks := List.range depth
  if acc = .int32 then
    let step (st : Nat × Flags) (k : Nat) : Nat × Flags :=
      let (r, fl) := chainInt sat (cellCode seq k) st.1
        (intVal n f (laneOf w ra k)) (intVal n f (laneOf w rb k))
      (r, st.2 ||| fl)
    if isChain f depth seq then ks.foldl step (c, 0)
    else
      let s := ks.foldl (fun (s : Int) k =>
        let a := intVal n f (laneOf w ra k)
        let b := intVal n f (laneOf w rb k)
        s + (if cellCode seq k = 0 then a * b else ((a - b).natAbs : Int))) (signedOf 32 c)
      toInt32 sat s
  else if isChain f depth seq then
    ks.foldl (fun (st : Nat × Flags) k =>
      let (r, fl) := chainFloat acc sat (cellCode seq k) st.1 (tileVal n f ra k) (tileVal n f rb k)
      (r, st.2 ||| fl)) (c, 0)
  else
    let b0 := blockAdd BlockAcc.empty (valueOf n acc c) false
    let b := ks.foldl (fun b k =>
      let x := tileVal n f ra k
      let y := tileVal n f rb k
      if cellCode seq k = 0 then
        let (p, inv) := mulVal x y
        blockAdd b p (inv || x.isSnan || y.isSnan)
      else
        let (d, fl) := Exactly.toVal (absDiff x y)
        blockAdd b d (fl != 0)) b0
    finish acc .rne sat ⟨0, 0, 0⟩ (blockResult b)

/-- The accumulator element `c` after the products of one block of codes, with every cell code MA (R97, R98, R238). -/
def contract (n : Fmtn) (f : Fmt) (c : Nat) (ps : List (Nat × Nat)) : Nat × Flags :=
  let acc := accFmt f
  if acc = .int32 then
    toInt32 false (ps.foldl (fun (s : Int) p => s + intVal n f p.1 * intVal n f p.2) (signedOf 32 c))
  else if f == .f64 || f == .f32 then
    ps.foldl (fun (st : Nat × Flags) p =>
      let (r, fl) := chainFloat acc false 0 st.1 (valueOf n f p.1) (valueOf n f p.2)
      (r, st.2 ||| fl)) (c, 0)
  else
    let b := ps.foldl (fun b p =>
      let x := valueOf n f p.1
      let y := valueOf n f p.2
      let (v, inv) := mulVal x y
      blockAdd b v (inv || x.isSnan || y.isSnan)) (blockAdd BlockAcc.empty (valueOf n acc c) false)
    finish acc .rne false ⟨0, 0, 0⟩ (blockResult b)

/-- A contraction in ascending k-blocks of `kt` products (R238). -/
def contractAll (n : Fmtn) (f : Fmt) (kt : Nat) : (fuel : Nat) → Nat × Flags → List (Nat × Nat) → Nat × Flags
  | 0, st, _ => st
  | fuel + 1, st, ps =>
    if ps = [] then st
    else
      let (r, fl) := contract n f st.1 (ps.take kt)
      contractAll n f kt fuel (r, st.2 ||| fl) (ps.drop kt)

end Sys2Proof.Machine
end

