-- ==== Sys2Proof/Machine/Maps.lean ====
section
/-! DEFINITION. Sparse tables: a table of values by number, held as a list in rising order of the keys that differ from
what an unlisted key reads as, and sorted sets of numbers. -/

namespace Sys2Proof.Machine

/-- A table from numbers to values. An unlisted key reads as the default that its reader names. -/
abbrev Map (α : Type) := List (Nat × α)

/-- The value at `k`, `d` where the table lists none. -/
def Map.get {α : Type} (d : α) : Map α → Nat → α
  | [], _ => d
  | (k', v) :: m, k => if k' = k then v else Map.get d m k

/-- The entry at `k`, if the table lists one. -/
def Map.find {α : Type} : Map α → Nat → Option α
  | [], _ => none
  | (k', v) :: m, k => if k' = k then some v else Map.find m k

/-- The table with `v` listed at `k`. -/
def Map.put {α : Type} : Map α → Nat → α → Map α
  | [], k, v => [(k, v)]
  | (k', v') :: m, k, v =>
    if k' = k then (k, v) :: m
    else if k < k' then (k, v) :: (k', v') :: m
    else (k', v') :: Map.put m k v

/-- The table without `k`. -/
def Map.erase {α : Type} (m : Map α) (k : Nat) : Map α := m.filter fun e => e.1 != k

/-- The table with `v` at `k`. An entry equal to the default is not listed. -/
def Map.set {α : Type} [DecidableEq α] (d : α) (m : Map α) (k : Nat) (v : α) : Map α :=
  if v = d then Map.erase m k else Map.put m k v

/-- Keys strictly rising from a lower bound, and no entry equal to the default. -/
def Map.wfFrom {α : Type} [DecidableEq α] (d : α) : Nat → Map α → Bool
  | _, [] => true
  | lo, (k, v) :: m => lo ≤ k && v ≠ d && Map.wfFrom d (k + 1) m

/-- The canonical form: keys strictly rising, no entry equal to what an unlisted key reads as. -/
def Map.wf {α : Type} [DecidableEq α] (d : α) (m : Map α) : Bool := Map.wfFrom d 0 m

/-- A set of numbers, in rising order. -/
abbrev NatSet := List Nat

/-- The set with `k` added. -/
def NatSet.insert : NatSet → Nat → NatSet
  | [], k => [k]
  | x :: xs, k => if x = k then x :: xs else if k < x then k :: x :: xs else x :: NatSet.insert xs k

/-- The set without `k`. -/
def NatSet.remove (m : NatSet) (k : Nat) : NatSet := m.filter (· != k)

/-- Entry `k` of a vector of values, the default beyond its end. -/
def vget {α : Type} {n : Nat} (d : α) (v : Vector α n) (k : Nat) : α := v.toArray.getD k d

/-- A vector with entry `k` replaced; unchanged beyond its end. -/
def vset {α : Type} {n : Nat} (v : Vector α n) (k : Nat) (x : α) : Vector α n := v.setIfInBounds k x

end Sys2Proof.Machine
end

