-- ==== Sys2Proof/Machine/State.lean ====
section
/-! DEFINITION. The state of one AW-T8-768 module as plain data. Every field has its value after reset as its default, so
that `State.reset` is the structure with no field given. A table lists only what differs from its reset value. -/

namespace Sys2Proof.Machine

/-- Why the machine stops with a fault. -/
inductive Fault where
  /-- The module's clocks are stopped by THERMTRIP_N (R432) and no reset is on the agenda: raised by `step`. Safe: nothing is
  claimed of a module that does not run. -/
  | clocksStopped
deriving DecidableEq, Repr

/-- Why an instruction has no meaning. -/
inductive Refusal where
  /-- The instruction of this mnemonic has no meaning in the model yet: raised by `exec`. Safe. -/
  | notModelled (mnemonic : String)
deriving DecidableEq, Repr

/-- A register that an instruction of a core writes after a bound (R66, R175). -/
inductive RegName where
  | s (n : Nat)
  | p (n : Nat)
  | d (n : Nat)
  | g (n : Nat)
  | c (n : Nat)
deriving DecidableEq, Repr

/-- A result on its way into a register (R66, R67): the register is undefined until `due`, unless the result has landed
early; with `late` the data has not arrived and the register stays undefined until it does. -/
structure Window where
  reg : RegName
  due : Nat
  landed : Bool := false
  late : Bool := false
  flags : Flags := 0
  /-- The one row of an accumulator that the result is; none for the whole register. -/
  row : Option Nat := none
deriving DecidableEq, Repr

/-- A queue entry (R166, R167): its vector, and when the push that made it lands, with the flags that its landing ORs into FFLAGS
(R93, R203). -/
structure QEntry where
  v : Vec
  due : Nat
  landed : Bool := false
  poison : Bool := false
  flags : Flags := 0
deriving DecidableEq, Repr

/-- One pipeline of a core: the code pointer of its next bundle (R50) and its held words by position (R56). -/
structure Pipe where
  pc : Word64 := 0
  hold : Map (BitVec 44) := []
deriving DecidableEq, Repr

/-- The bundle at issue: its code pointer, the pointer of the bundle that follows it in the stream (R308), its header bits
31:0, and its words by position, repeated ones included. -/
structure Fetched where
  cp : Word64 := 0
  next : Word64 := 0
  header : BitVec 32 := 0
  words : Map (BitVec 44) := []
deriving DecidableEq, Repr

/-- The architectural registers of a core (R16, R225) and the poison marks of those that carry poison (R362). -/
structure Regs where
  s : Vector Word64 64 := Vector.replicate 64 0
  p : BitVec 64 := 1
  d : Vector Desc 32 := Vector.replicate 32 0
  /-- The pending mark of each descriptor register (R231). -/
  dpend : BitVec 32 := 0
  g : Vector (BitVec 128) 16 := Vector.replicate 16 0
  w : Vector (BitVec 32) 32 := Vector.replicate 32 0
  cseq : Vector Word64 16 := Vector.replicate 16 0
  q : Vector (List QEntry) 64 := Vector.replicate 64 []
  /-- Row r of accumulator a at key 64 a + r: 64 elements of 32 bits. -/
  acc : Map Vec := []
  sPoison : BitVec 64 := 0
  accPoison : NatSet := []
deriving DecidableEq, Repr

/-- A pass of the matrix unit between issue and commit (R222 to R224). -/
structure Pass where
  fmt : Fmt
  fmtn : Nat
  seq : Word64
  sat : Bool
  acc : Nat
  a : List (BitVec 1024)
  aPoison : BitVec 64 := 0
  /-- The B tile; none while an MPASSD's tile has not arrived. -/
  b : Option (List (BitVec 1024))
  bPoison : Bool := false
  /-- The physical address of each row of an MPASSD's B tile, its virtual address, the code pointer of its bundle, and the write
  counter at its issue. -/
  bAt : List Nat := []
  bVa : Word64 := 0
  pc : Word64 := 0
  born : Nat := 0
  /-- The cycle of its issue. -/
  cyc : Nat := 0
  /-- Accumulator rows, as 64 a + r, that the pass leaves undefined (R228 rule 3). -/
  junk : NatSet := []
  /-- The cycle at which the pass started; none while an MPASSD waits (R223). -/
  start : Option Nat
deriving DecidableEq, Repr

/-- The writes of an MSTOREC that has issued (R227): physical address, bytes and poison, in ascending rows, its flags, its address
and the code pointer of its bundle. -/
structure MStore where
  writes : List (Nat × List Byte × Bool)
  flags : Flags
  va : Word64
  pc : Word64
  /-- The virtual address of each write. -/
  vas : List Word64 := []
  /-- The cycle of its issue. -/
  cyc : Nat := 0
deriving DecidableEq, Repr

/-- What a copy-engine request does, with the operands read at issue (R144 to R161). -/
inductive ReqOp where
  | copy (opc mode rows rowBytes dst src : Nat) (dstr sstr : Int)
  | tensor (dst src : Desc) (rm : RM) (record : Nat)
  | ldblk (tag base count : Nat) (ntc : Bool)
  | wbblk (tag : Nat)
  | evblk (tag : Nat)
  | rpush (ring slot src : Nat) (stride : Int) (sp : Bool) (fmt : Nat)
  | gath (sp : Bool) (dst base idx iw esz count : Nat)
  | scat (sp : Bool) (base src idx iw esz count : Nat)
  | scata (sp : Bool) (op : Nat) (base src idx iw fmt count : Nat)
  | red (sp : Bool) (op : Nat) (dst src fmt count : Nat)
  | coll (kind group fmt op root tag count dst src : Nat)
  | send (sp : Bool) (group peer tag src len : Nat)
  | recv (sp : Bool) (group peer tag dst len : Nat)
deriving DecidableEq, Repr

/-- A request of a copy engine. -/
structure Req where
  op : ReqOp
  sg : Signal
  /-- Code pointer of the bundle that issued it (R150). -/
  pc : Word64
  /-- VMROOT at issue (R106). -/
  root : Word64
  seed : Word64 := 0
  fmtn : Nat := 5
  /-- Units written so far (R144). -/
  done : Nat := 0
  /-- Flits sent so far (R158). -/
  sent : Nat := 0
  /-- The number of the request on this core, in issue order. -/
  ticket : Nat := 0
  flags : Flags := 0
  /-- The engine has started it (R144). -/
  started : Bool := false
  /-- The links of its transfers, fixed at the start: member and link (R158, R434). -/
  via : List (Nat × Nat) := []
  /-- Stopped at a resumable fault (R149). -/
  held : Bool := false
  /-- Ended at a fault or by an abort: only its signal is still owed (R151). -/
  ended : Bool := false
  /-- It ended at a fault that left a record, after whose presentation alone it signals (R151). -/
  recorded : Bool := false
  /-- Stopped at a failure behind an unresolved record, and its unit to be retried before any other (R151). -/
  stopped : Bool := false
  retry : Bool := false
  /-- A Quay Link with its traffic has gone down (R158). -/
  cut : Bool := false
  /-- The END flit of a SEND has been accepted by its receiver (R161). -/
  accepted : Bool := false
  /-- The modules of its group and this module's index among them, as they stood at issue (R159), and the local extents of a CPYT's source
  and destination. -/
  mods : List Nat := []
  me : Nat := 0
  exts : List (List Nat) := []
  /-- The region of a CPYT whose record has arrived: start and count by dimension (R153). -/
  region : Option (List (Nat × Nat)) := none
  /-- The write counter when the request was issued. -/
  born : Nat := 0
  /-- Physical address of the image header to which its signal goes when the task was saved (R352); 0 for the core. -/
  header : Nat := 0
deriving DecidableEq, Repr

/-- An engine-fault record (R150, R151). -/
structure EngRec where
  kind : Nat
  opc : Nat
  addr : Word64
  pc : Word64
  /-- The cycle in which it was written. -/
  time : Nat
  /-- ENGINE-FAULT has been raised for it. -/
  taken : Bool := false
deriving DecidableEq, Repr

/-- One copy engine (R144). -/
structure Engine where
  reqs : List Req := []
  record : Option EngRec := none
deriving DecidableEq, Repr

/-- A load-block (R138 to R140). -/
structure Block where
  base : Nat
  count : Nat
  ntc : Bool
  /-- The ticket of the LDBLK that made it, and that request's engine. -/
  ticket : Nat
  done : Bool := false
  fault : Bool := false
deriving DecidableEq, Repr

/-- The notice state of a core (R142, R143, R314, R391). -/
structure Notice where
  ldDone : NatSet := []
  ldFault : Map Word64 := []
  timer : Option Word64 := none
  rollback : Option Word64 := none
  running : Bool := false
  shadow : List Word64 := []
  saved : Word64 := 0
  hold : Map (BitVec 44) := []
  segCount : Nat := 0
  segSig : BitVec 32 := 0xFFFFFFFF#32
  /-- The poison of s48 to s55 at notice entry (R362). -/
  shadowBad : BitVec 8 := 0
deriving DecidableEq, Repr

/-- The holder of a poisoned granule (R362, R364): its array code, the core, slice or stack, and the physical address or the index
within the array; the virtual address of an access that met it, 0 for a register. -/
structure Holder where
  kind : Nat
  unit : Nat
  loc : Nat
  va : Word64 := 0
deriving DecidableEq, Repr

/-- An event of MEM-UE or MEM-LOST that waits for a boundary (R365): the array code of the holder, the address of the failing
access and the code pointer of the consuming or issuing bundle. -/
structure MemEvent where
  kind : Nat
  addr : Word64
  pc : Word64
  /-- The cycle from which a boundary takes it: the end of the bound of the access (R284, R304). -/
  due : Nat := 0
  /-- The identifier of a teller call that met the error: TELLER-FAULT where no region is open at the boundary (R284, R368). -/
  call : Option Nat := none
deriving DecidableEq, Repr

/-- Events between bundles that a core has not taken (R340, R350). -/
structure Pending where
  segCheck : Option Nat := none
  segPc : Word64 := 0
  memLost : List MemEvent := []
  memUe : List MemEvent := []
  /-- TELLER-FAULT, and the cycle at which the result pair has landed (R284). -/
  teller : Option Nat := none
  brk : Option (BitVec 8) := none
  watchdog : Bool := false
  /-- A pre-emption request, and the cycles it has waited (R350). -/
  preempt : Option Nat := none
  /-- A PP bundle has committed since the request, or YIELD asks for the boundary (R350, R319). -/
  preemptNow : Bool := false
  codeGone : Bool := false
  /-- The core's snapshot cut falls at the next boundary (R383, R384). -/
  cutNow : Bool := false
deriving DecidableEq, Repr

/-- An open containment region (R366): its handler and whether it was opened in a notice handler. -/
structure Region where
  handler : Word64
  inNotice : Bool
deriving DecidableEq, Repr

/-- Containment state (R365, R370). -/
structure Contain where
  regions : List Region := []
  cause : Word64 := 0
  addr : Word64 := 0
  pc : Word64 := 0
  segCount : Nat := 0
  segSig : BitVec 32 := 0xFFFFFFFF#32
deriving DecidableEq, Repr

/-- A berth node (R230, R233). The maps are words of R233: 24 bytes of four-byte entries for each input. -/
structure BNode where
  op : Nat
  sub : RM
  fmt : Nat
  param : Word64
  dst : Desc
  a : Desc
  b : Desc
  maps : List (BitVec 32)
  pc : Word64
  seq : Nat
  seed : Word64
  record : Word64
  fmtn : Nat
  /-- A pipeline break by its index descriptor, PENDING at issue (R242). -/
  lateIndex : Bool := false
deriving DecidableEq, Repr

/-- A demand whose writes are performed and which has not completed (R239 to R241). -/
structure Demand where
  node : Nat
  full : Bool
  /-- The demanding bundle. -/
  pc : Word64
  /-- Who demands: 0 a FORCE, 1 an LSTORE, 2 an overflow force, 3 an aliasing store, 4 a FENCE. -/
  why : Nat
  /-- Breaks evaluated and not yet counted: observed DENSITY and FINITE, and those recorded of the destination (R258). -/
  breaks : List (Nat × Bool × Nat × Bool)
  /-- The holder of the poisoned data that was consumed (R363), and the address of a POISON word that was met (R304). -/
  ate : Option Holder
  lost : Option Word64 := none
  /-- The plan-cache entry that ran, if any. -/
  entry : Option Nat
  flags : Flags
deriving DecidableEq, Repr

/-- A bracketing of a chain (R255): an operand (node and input), or a contraction with the node whose sign it takes. -/
inductive Br where
  | leaf (node inp : Nat)
  | mul (node : Nat) (l r : Br)
deriving DecidableEq, Repr

/-- A plan-cache entry (R253): the key, the choice for each node in ascending SEQ as PQUERY reports it (R272), the bracketing of each
chain by its last node, nodes by their place in ascending SEQ, and the soundings it recorded. -/
structure PlanEntry where
  key : List Nat
  choices : List Nat
  brk : List (Nat × Br) := []
  reassoc : Bool
  pin : Bool := false
  rpl : Bool := false
  ovr : Bool := false
  gen : Nat
  /-- Recorded soundings: number and version. -/
  soundings : List (Nat × Word64)
  /-- For each break, by the place of its node, the DENSITY and FINITE recorded of its destination (R258). -/
  recorded : List (Nat × Nat × Bool) := []
  /-- The use counter when it was last run, for replacement. -/
  used : Nat
deriving DecidableEq, Repr

/-- The berth and plan state of a core (chapters 11 and 12). -/
structure Berth where
  nodes : Map BNode := []
  seq : Nat := 0
  ovf : BitVec 16 := 0
  als : BitVec 16 := 0
  demand : Option Demand := none
  /-- Completed demands whose units met poison or a POISON word, until the demanding bundle has committed (R363). -/
  owed : List Demand := []
  /-- FORCE (0) and LSTORE (1) whose demand has completed and whose bundle has not committed: its code pointer, and the handle
  of the plan that ran. -/
  forced : List (Nat × Word64 × BitVec 32) := []
  /-- Positions of the bundle at issue that have met the source-range table (R245). -/
  aliased : NatSet := []
  cache : Map PlanEntry := []
  gen : Nat := 1
  uses : Nat := 0
  last : BitVec 32 := 0
deriving DecidableEq, Repr

/-- An NTREQ result in flight (R316). -/
structure NtResult where
  target : Nat
  value : Word64
  null : Bool
  left : Nat
deriving DecidableEq, Repr

/-- A translation that a core holds (R110). -/
structure TlbEntry where
  asid : Nat
  global : Bool
  /-- Bits 56:16 of the virtual address. -/
  granule : Nat
  /-- Physical address of the granule. -/
  pa : Nat
  /-- Permission bits of the leaf: V R W X U G A D in bits 0 to 7. -/
  perm : BitVec 8
deriving DecidableEq, Repr

/-- A line of the instruction cache or an entry of the bundle dictionary cache (R127): its tags, ASID and virtual address, and the
physical address of every line that its bytes came from. What it holds is what stands there: a write drops it (R128). -/
structure CodeLine where
  asid : Nat
  va : Nat
  pa : List Nat
deriving DecidableEq, Repr

/-- Who made a write at a home slice (R291, R302). -/
inductive WriteBy where
  /-- Core `c` on its CORE or TELLER path, for a task of tenant `job`, with the scope of R289: JOB for a store. -/
  | core (c job : Nat) (scope : Scope)
  /-- A request, by its ticket, or a pass or plan of core `c`, in a path class. -/
  | engine (cls : PathClass) (c : Nat) (ticket : Option Nat)
  /-- A general core, a device, or another module's agent. -/
  | outside
  /-- The hardware itself: page-table bits, records, rings and images. -/
  | hard
deriving DecidableEq, Repr

/-- Bytes of a write that a FENCE orders (R300): its number in the history, its class, none for a write of every class, and the first and
last byte. -/
structure OrdWrite where
  n : Nat
  cls : Option PathClass
  lo : Nat
  hi : Nat
deriving DecidableEq, Repr

/-- The task that a core runs (R306, R324, R325). -/
structure Task where
  tenant : Nat
  /-- The graph's number and the node's index in it; spawned nodes are numbered from COUNT on. -/
  graph : Nat
  node : Nat
  prio : Nat
  halted : Bool := false
  /-- TILESRC of the node (R334). -/
  tileSrc : Word64 := 0
  /-- Header address of the image from which the task was restored (R352); 0 for none. -/
  header : Nat := 0
  /-- Timetabled, with its DEADLINE (R329, R330). -/
  deadline : Option Nat := none
deriving DecidableEq, Repr

/-- A task whose saved image the dispatcher holds (R435). -/
structure SavedTask where
  core : Nat
  /-- Physical address of the image's header, its virtual address and the VMROOT that maps it. -/
  image : Nat
  va : Word64
  root : Word64
  task : Task
  ready : Bool
deriving DecidableEq, Repr

/-- A fence that named CORE or TELLER in its B set (R297): a physical range it covered, the write counter at its issue, and the writes
that it ordered before the core's later accesses (R300). -/
structure FenceMark where
  lo : Nat
  hi : Nat
  time : Nat
  ns : List OrdWrite := []
deriving DecidableEq, Repr

/-- What has been ordered for a task under R300, which goes with the task from core to core (R352, R354): the model's record, which no
register shows. -/
structure Order where
  /-- The write counter when the task came to its core, and the writes that it made on cores before (R319). -/
  begun : Nat := 0
  wrote : List OrdWrite := []
  /-- Requests issued on cores before that have ended since: core and ticket. -/
  ended : List (Nat × Nat) := []
  /-- The writes ordered before a later FENCE (R300). -/
  known : List OrdWrite := []
  /-- Signals of requests that have come, by semaphore, core and ticket, and the requests that a completed WAIT counts (R300). -/
  signalled : List (Nat × Nat × Nat) := []
  counted : List (Nat × Nat) := []
  /-- The writes of spawned tasks whose signals have come, by semaphore (R336). -/
  returned : List (Nat × OrdWrite) := []
  fences : List FenceMark := []
deriving DecidableEq, Repr

/-- One compute core with its tender, engines, matrix unit, berth table and caches. -/
structure Core where
  regs : Regs := {}
  main : Pipe := {}
  tender : Pipe := {}
  ir : Fetched := {}
  csr : Map Word64 := []
  windows : List Window := []
  fmtPend : List (BitVec 17 × Nat) := []
  nt : List NtResult := []
  ntCount : Word64 := 0
  scratch : Map Byte := []
  /-- Scratchpad granules of 8 bytes that are poisoned (R124). -/
  scratchPoison : NatSet := []
  /-- The tiles of rings as they stood when they became available, by 16 ring + slot: 64 rows, and the poisoned ones (R154, R221). -/
  tiles : Map (List (BitVec 1024) × BitVec 64) := []
  /-- Scratchpad ranges that became undefined (R123, R235): first offset, end, and the number of the free value of offset 0. -/
  junk : List (Nat × Nat × Nat) := []
  passes : List Pass := []
  mstores : List MStore := []
  /-- The cycle at which the matrix unit is free (R220). -/
  matFree : Nat := 0
  e0 : Engine := {}
  e1 : Engine := {}
  tickets : Nat := 0
  blocks : Map Block := []
  notice : Notice := {}
  pend : Pending := {}
  contain : Contain := {}
  berth : Berth := {}
  tlb : List TlbEntry := []
  /-- The L1 instruction cache by 128-byte lines and the bundle dictionary cache by entries of 48 bytes (R16, R127), newest first. -/
  icache : List CodeLine := []
  dcache : List CodeLine := []
  /-- What is ordered for the core's task, and the writes that its fences order and its next CORE-path access makes known to the job (R300,
  items 3 and 4). -/
  ord : Order := {}
  toPublish : List OrdWrite := []
  /-- For a word with atomics of a narrow scope, the write number below which the core has seen them (R293). -/
  seen : Map Nat := []
  /-- Bytes of code lines as they stood before a write that R128 announced, which words already fetched may still hold
  (R129): physical address and old byte. -/
  oldCode : Map Byte := []
  /-- The core's logical time (R295). -/
  ltime : Nat := 0
  task : Option Task := none
  /-- The task that the core last saved, which the ERET that releases the core hands on (R435), or the image of a halted task (R319). -/
  savedTask : Option SavedTask := none
  /-- Tender level, 0 in the main pipeline (R344). -/
  level : Nat := 0
  /-- The tender has not issued its first bundle (R342). -/
  entering : Bool := false
  /-- The hold state of level 1 while level 2 runs (R57, R347). -/
  lowHold : Map (BitVec 44) := []
  /-- Frozen by escalation (R345), and the level at escalation. -/
  frozen : Bool := false
  /-- Positions that the resumed bundle leaves inactive (R347). -/
  skip : BitVec 8 := 0
  /-- Cycles still to be spent before the next bundle: those of a taken transfer (R305) and open stops (R437). -/
  stall : Nat := 0
  /-- Module frames since a bundle committed (R355). -/
  idleFrames : Nat := 0
  /-- The current bundle has waited at issue in a full ENQ for this many frames (R338). -/
  enqFrames : Nat := 0
  /-- The current bundle last waited in an ENQ to a full queue without an extension (R338). -/
  enqWaits : Bool := false
  /-- Physical address of the image that a CTXSV which has not completed writes (R356). -/
  saving : Option Nat := none
  /-- A page-in has been asked for and not answered; an answer that the CSRW has not seen (R346). -/
  pagein : Bool := false
  pageinAns : Option Bool := none
  /-- The system-call sequence number, whether its request is unanswered, and the semaphore whose raise answers it (R318). -/
  syscSeq : Word64 := 0
  syscOpen : Bool := false
  syscSem : Nat := 0
  /-- The image last saved on the core (R253, R352); 0 for none. -/
  lastImage : Nat := 0
  /-- The core has cut for the running epoch and stands still (R384). -/
  cut : Bool := false
  /-- Cycles since the module's first marker, for the cut's PBOUND (R384). -/
  cutAge : Nat := 0
  /-- The graph this core served last (R333); 0 for none. -/
  served : Nat := 0
deriving DecidableEq, Repr

/-- A teller call or routine under its hold (R275, R280): the issuing core, its result register, the tenant and
identifier, the line's physical address, the registers and the line copy, and the instructions still to run. -/
structure TellerRun where
  core : Nat
  dst : Nat
  tenant : Nat
  id : Nat
  line : Nat
  va : Word64
  pc : Word64
  /-- SCOPE (R289). -/
  scope : Scope := .job
  h : Vector Word64 8 := Vector.replicate 8 0
  data : BitVec 1024 := 0
  stored : Bool := false
  flags : Flags := 0
  /-- The issuing slot consumed poison (R363). -/
  bad : Bool := false
  code : List (BitVec 32) := []
deriving DecidableEq, Repr

/-- An atomic or teller call sent and not yet held (R290). -/
structure SliceReq where
  core : Nat
  dst : Nat
  /-- An atomic's operation code and format; none for a call. -/
  op : Option (Nat × Fmt) := none
  /-- The issuing slot consumed poison (R363). -/
  bad : Bool := false
  tenant : Nat
  id : Nat
  pa : Nat
  va : Word64
  pc : Word64
  arg0 : Word64
  arg1 : Word64
  /-- The cycle of its issue, and SCOPE (R289). -/
  cyc : Nat := 0
  scope : Scope := .job
deriving DecidableEq, Repr

/-- One write in the history that stale reads draw on (R297): its number, its cycle, the address, the bytes it replaced,
and who made it. -/
structure HistWrite where
  n : Nat
  clk : Nat
  addr : Nat
  old : List Byte
  who : WriteBy
deriving DecidableEq, Repr

/-- A word whose value its owner holds (R296): core 0 to 319, or 320 plus the module of another module's core; the value, the virtual
address and the code pointer of the last store. -/
structure OwnedWord where
  owner : Nat
  value : BitVec 32
  /-- The home slice has obtained the value since the last store (R296, R303). -/
  home : Bool := false
  va : Word64 := 0
  pc : Word64 := 0
deriving DecidableEq, Repr

/-- A node of a graph that runs (R324, R325, R336): its 256-byte record, its counter and where it stands. -/
structure TNode where
  record : BitVec 2048
  counter : Nat
  /-- 0 waiting, 1 ready, 2 running, 3 complete. -/
  state : Nat := 0
  /-- The tenant frame in which it became ready (R332). -/
  since : Nat := 0
  /-- The physical core on which it is homed (R332). -/
  home : Option Nat := none
  /-- The effective priority that a pre-empted or spawning task gave it. -/
  cap : Nat := 7
  /-- A spawned node's signal: core and semaphore, or image header and semaphore (R336). -/
  signal : Option (Nat × Nat) := none
  /-- The writes ordered before its accesses: those of the tasks whose completion released it (R319), or of its spawner (R336). -/
  after : List OrdWrite := []
deriving DecidableEq, Repr

/-- A task graph (R323, R325). -/
structure Graph where
  port : Bool
  tenant : Nat
  base : Nat
  count : Nat
  failed : Bool := false
  nodes : Map TNode := []
  spawned : Nat := 0
deriving DecidableEq, Repr

/-- A hold of a tenant's frame by a timetabled task, and the clock of the boundary at which it began (R330). -/
structure Hold where
  tenant : Nat
  graph : Nat
  node : Nat
  began : Nat
deriving DecidableEq, Repr

/-- A hardware queue (R337): its on-die entries and the place and count of those in the memory extension. -/
structure HwQueue where
  die : List Word64 := []
  extHead : Nat := 0
  extCount : Nat := 0
deriving DecidableEq, Repr

/-- A scan that runs on a core (R374 to R376). -/
structure Scan where
  target : Nat
  core : Nat
  sem : Nat
  record : Nat
  /-- The cycle in which the pattern began, or the present one while the target's engines still work for saved contexts (R375). -/
  started : Nat
  /-- The number of its signal on the issuing core, as for a request. -/
  ticket : Nat := 0
  /-- Header address of the image to which its signal goes when the task was saved (R352); 0 for the core. -/
  header : Nat := 0
  /-- The virtual address of the record and the code pointer of the SCAN. -/
  va : Word64 := 0
  pc : Word64 := 0
deriving DecidableEq, Repr

/-- A Quay Link (R434, R385, R391). -/
structure Link where
  up : Bool := false
  peer : Nat := 0
  plink : Nat := 0
  marker : Bool := false
  /-- Its flits are held until its rollback marker arrives (R391). -/
  rollback : Bool := false
  /-- The epoch of a rollback marker that arrived before this module rolled back. -/
  rbMarker : Option Nat := none
deriving DecidableEq, Repr

/-- A transfer that a peer sends to this module (R160, R161), in the order of the receive matcher: the key (group, sending
member, tag), the bytes by offset that no request has taken, whether END came, and the end of the highest byte. -/
structure Inbound where
  group : Nat
  src : Nat
  tag : Nat
  bytes : Map Byte := []
  bad : NatSet := []
  ended : Bool := false
  len : Nat := 0
  /-- The peer aborted it (R151). -/
  aborted : Bool := false
  /-- The link over which it comes, once a flit has, and whether that went down before its END (R158). -/
  link : Option Nat := none
  cut : Bool := false
  /-- The matched request: core and ticket. -/
  taker : Option (Nat × Nat) := none
  /-- Its flits are accepted and discarded (R151, R161). -/
  discard : Bool := false
deriving DecidableEq, Repr

/-- A manifest in the making (R390). -/
structure Manif where
  /-- Physical address of its header; 0 for none. -/
  addr : Nat := 0
  epoch : Nat := 0
  frame : Nat := 0
  /-- Granules that the arm set ARMED, with the address of the copy (0 while none) and whether a word was POISON. -/
  granules : List (Nat × Nat × Bool) := []
  /-- Channel records: link, receiving core, flit (R388). -/
  channel : List (Nat × Nat × Flit) := []
  /-- Logical core, physical core, image address. -/
  contexts : List (Nat × Nat × Nat) := []
  /-- The graph images (R389). -/
  graphs : List (List Byte) := []
  lossy : Bool := false
  failed : Bool := false
deriving DecidableEq, Repr

/-- What the dispatcher and the receive matchers held at a module cut, by the address of its manifest: the images of R387 and
R389 do not say which node a core ran, nor which saved tasks the dispatcher held (log 31). -/
structure CutInfo where
  addr : Nat
  tasks : List (Nat × Task)
  saved : List SavedTask := []
  graphs : List (Nat × Graph)
  inbound : List Inbound
deriving DecidableEq, Repr

/-- What a link's traffic behind its marker is while it is held (R386): a flit, or a line request of another module's agent. -/
inductive HeldItem where
  | flit (f : Flit)
  | access (r : BusAccess)
deriving DecidableEq, Repr

/-- The snapshot state of the module (chapter 22). -/
structure Snap where
  /-- PHASE of R382. -/
  phase : Nat := 0
  /-- The latest epoch this module started or was rolled back to (R385). -/
  epoch : Nat := 0
  /-- The latest epoch whose cut this module has passed, or to which it was rolled back, by tenant (R306, R382). -/
  passed : Map Nat := []
  moduleCut : Bool := false
  /-- Marker flits on the die-to-die paths, by 9 from + to, the control die being die 8, and the paths over which the epoch's has come (R384,
  R385). -/
  onPaths : List (Nat × Flit) := []
  paths : NatSet := []
  /-- The compute dies that have armed (R384). -/
  armed : NatSet := []
  cur : Manif := {}
  /-- The previous epoch's manifest while its copies still run (R384). -/
  old : Option Manif := none
  /-- What is held until the receiving die arms, oldest first, with its link (R386). -/
  held : List (Nat × HeldItem) := []
  cuts : List CutInfo := []
deriving DecidableEq, Repr

/-- The security engine's one-time-index record of a fused LMS key (R430): pairs of leaf index and digest, commits
spent, and whether the stored record verifies. -/
structure IndexRecord where
  pairs : List (Nat × Nat) := []
  commits : Nat := 0
  intact : Bool := true
deriving DecidableEq, Repr

/-- The Ovnath context (R402 to R408): the core on which the program runs, whose main code pointer is the address of its next bundle;
the allotment Q of its load, the bundles of its text and the address of the first; whether the translation's first native bundle has
run; the queue of each resident vector register, by its number; whether the program runs, and whether its SYS has sent its request. -/
structure Ovn where
  core : Nat := 0
  q : Nat := 64
  text : List (BitVec 128) := []
  textVa : Nat := 0
  begun : Bool := false
  place : Map Nat := []
  running : Bool := false
  calling : Bool := false
deriving DecidableEq, Repr

/-- A device context that the IOMMU has read (R421): tc, iohgatp, ta, fsc, and in the extended format msiptp, its address mask and its
pattern. -/
structure IoDevice where
  tc : Nat
  hgatp : Nat
  ta : Nat
  fsc : Nat
  msiptp : Nat := 0
  mask : Nat := 0
  pattern : Nat := 0
deriving DecidableEq, Repr

/-- A translation that the IOMMU holds (R421): the address spaces of its two stages, the pages of the address, of its first stage's result
and of its second stage's, the permission bit that it serves, and G. -/
structure IoHeld where
  gscid : Option Nat
  pscid : Option Nat
  page : Nat
  gpage : Nat
  ppage : Nat
  kind : Nat
  global : Bool
deriving DecidableEq, Repr

/-- The IOMMU (R421): its registers by offset, what it holds of directories and tables, the vectors whose message waits behind a mask, and
the messages sent to interrupt files: address and data. -/
structure Iommu where
  regs : Map Word64 := []
  devices : Map IoDevice := []
  held : List IoHeld := []
  masked : NatSet := []
  sent : List (Nat × Nat) := []
deriving DecidableEq, Repr

/-- The control die beside its registers: CSEM, ports, boot, pins, interrupts (chapters 17 and 26). -/
structure Control where
  /-- The port that owned CSEM last (R322), the one before it, and the cycle in which CSEM was granted. -/
  lastOwner : Nat := 2
  prevOwner : Nat := 2
  granted : Nat := 0
  /-- XINVA and the cycle when the invalidation that runs began (R110). -/
  xinvVa : Word64 := 0
  xinvAt : Nat := 0
  /-- The XINVC and TLINV writes that wait for BUSY to clear (R110, R279). -/
  xinvWait : List Word64 := []
  tlinvWait : List Word64 := []
  /-- MSIs sent: the raising core and the route word of MSIRT (R422, R423). -/
  msi : List (Nat × Nat) := []
  /-- Harts held in reset (R428, R431). -/
  hartsReset : Bool := true
  bootStep : Nat := 0
  thermalAlert : Bool := false
  tripped : Bool := false
  /-- Wired sources 1 and 2 of the APLIC (R432). -/
  boardIrq : Bool := false
  /-- RWL fields that are locked (R5): the offset of the register plus the number of the field in it, from bit 0 up. -/
  locked : NatSet := []
  records : Map IndexRecord := []
deriving DecidableEq, Repr

/-- The module. -/
structure State where
  /-- The cycle (R4). -/
  clk : Nat := 0
  /-- The core whose turn it is, and whether its engines and units move next or its pipeline. -/
  turn : Nat := 0
  units : Bool := false
  cores : Map Core := []
  /-- Memory over the 52-bit physical space (R103): rising addresses, no byte equal to what an unlisted one reads as. -/
  mem : List Host.Cell := []
  /-- Words whose values their owners hold, by word address / 4 (R296). -/
  owned : Map OwnedWord := []
  /-- Writes that a CORE-path access after a FENCE has made known, by tenant, none for every tenant (R300). -/
  published : List (Option Nat × OrdWrite) := []
  hist : List HistWrite := []
  histNext : Nat := 0
  /-- Poisoned 32-byte sectors and POISON words of 4 bytes (R120, R303). -/
  sectorPoison : NatSet := []
  wordPoison : NatSet := []
  /-- Lines whose instruction bit is set (R128). -/
  codeLines : NatSet := []
  /-- Control-die registers by offset (R104). -/
  ctl : Map Word64 := []
  control : Control := {}
  iommu : Iommu := {}
  /-- The module frame (R14), and whether a frame boundary has come whose frame has not begun. -/
  frame : Nat := 0
  frameDue : Bool := false
  /-- Tenant frames, from when the tenant first became VALID, and the holds in force (R328, R330). -/
  tenantFrame : Map Nat := []
  holds : List Hold := []
  graphs : Map Graph := []
  /-- The number of the next graph: graphs are numbered from 1 in the order of their launches. -/
  graphNext : Nat := 1
  saved : List SavedTask := []
  /-- What is ordered for tasks whose context is saved, by the address of the image's header (R352). -/
  orders : Map Order := []
  quarantine : NatSet := []
  hwq : Map HwQueue := []
  scans : List Scan := []
  links : Map Link := []
  /-- Flits sent, oldest first: link and flit. -/
  out : List (Nat × Flit) := []
  inbound : List Inbound := []
  snap : Snap := {}
  /-- Routine entries that the slices hold, by `routineKey` (R279): the 128-byte line. -/
  routines : Map (BitVec 1024) := []
  sliceReqs : List SliceReq := []
  teller : Option TellerRun := none
  ovn : Ovn := {}
  /-- Events that happen next, before any core's turn: the inputs from outside and the free choices of order. -/
  agenda : List Instr := []
  /-- The number of the next free value (the model's own field). -/
  free : Nat := 0
deriving DecidableEq, Repr

/-- The module right after reset (R432): every field at its reset value. -/
def State.reset : State := {}

end Sys2Proof.Machine
end

