-- ==== Sys2Proof/Machine/Regs.lean ====
section
/-! DEFINITION. The CSRs and the control-die registers: numbers, reset values, writable fields and access codes (R5, R104,
R201 and the register tables of the chapters). -/

namespace Sys2Proof.Machine

/-! ### CSR numbers -/

namespace Csr
def FFLAGS := 0x001
def FMTN := 0x002
def SPLIT := 0x100
def NVEC := 0x101
def BLKST := 0x102
def EFCAUSE := 0x103
def EFADDR := 0x104
def EFPC := 0x105
def QALLOT := 0x106
def CHECKMODE := 0x108
def BERTHST := 0x110
def PLANWIN := 0x111
def BFCAUSE := 0x112
def BFPC := 0x113
def BFFPC := 0x114
def BFADDR := 0x115
def SNDBASE := 0x116
def REPLAN := 0x117
def PCOST := 0x118
def PLANST := 0x119
def PHWORD := 0x11A
def TLCAUSE := 0x120
def TLPC := 0x121
def TLADDR := 0x122
def TCMP := 0x130
def FRAME := 0x131
def AGE := 0x132
def TCAUSE := 0x140
def TPC := 0x141
def TADDR := 0x142
def SFMASK := 0x143
def TSKIP := 0x144
def TVEC := 0x145
def TVECEM := 0x146
def TVEC2 := 0x147
def TCAUSE2 := 0x148
def TPC2 := 0x149
def TADDR2 := 0x14A
def TBND0 := 0x150
def TSCR0 := 0x158
def PBOUND := 0x160
def HWDOG := 0x161
def CTXBASE := 0x162
def PGREQ := 0x163
def VMROOT := 0x164
def CRDEPTH := 0x170
def CRCAUSE := 0x171
def CRADDR := 0x172
def CRPC := 0x173
def LCMAP := 0x174
def SNAPEP := 0x180
def RBENTRY := 0x181
end Csr

/-- The value of a stored CSR after module reset. -/
def csrReset (n : Nat) : Word64 :=
  if n = Csr.FMTN then 0x5
  else if n = Csr.SPLIT then 0x8
  else if n = Csr.QALLOT then 64
  else if n = Csr.REPLAN then 0x81100000
  else if n = Csr.PCOST then 0x60002000
  else if n = Csr.PBOUND then 100000
  else if n = Csr.HWDOG then 1024
  else if n = Csr.VMROOT then 0xA000000000000000
  else 0

/-- The bits of a CSR that a write stores (access RW). -/
def csrMask (n : Nat) : Word64 :=
  if n = Csr.FFLAGS then 0x3F
  else if n = Csr.SPLIT then 0xF
  else if n = Csr.NVEC then 0xFFFFFFFFFFFFFFFF
  else if n = Csr.CHECKMODE then 1
  else if n = Csr.PLANWIN then 0xFFBFE000
  else if n = Csr.SNDBASE then 0x01FFFFFFFFFFFF00
  else if n = Csr.REPLAN then 0x81FFFFFF
  else if n = Csr.PCOST then 0xFFFFFFFF
  else if n = Csr.TCMP then 0xFFFFFFFFFFFFFFFF
  else if n = Csr.TCAUSE ∨ n = Csr.TCAUSE2 then 0x80FF0F00000000FF
  else if n = Csr.TPC ∨ n = Csr.TADDR ∨ n = Csr.TPC2 ∨ n = Csr.TADDR2 then 0xFFFFFFFFFFFFFFFF
  else if n = Csr.SFMASK ∨ n = Csr.TSKIP then 0xFF
  else if n = Csr.TVEC ∨ n = Csr.TVECEM ∨ n = Csr.TVEC2 ∨ n = Csr.CTXBASE then 0xFFFFFFFFFFFFFFFF
  else if Csr.TSCR0 ≤ n ∧ n < Csr.TSCR0 + 4 then 0xFFFFFFFFFFFFFFFF
  else if n = Csr.PBOUND ∨ n = Csr.HWDOG then 0xFFFFFFFF
  else if n = Csr.PGREQ then 0x01FFFFFFFFFF0001
  else if n = Csr.VMROOT then 0x0FFFFFFFFFFFFFFF
  else if n = Csr.RBENTRY then 0xFFFFFFFFFFFFFFFF
  else 0

/-- Access code W1C (R5, R201): the bits of a CSR that a written 1 clears. -/
def csrW1c (n : Nat) : Word64 := if n = Csr.TLCAUSE then 0xC000000000000000 else 0

/-- The bits of a CSR that hold a field (R6): those that a write stores and those that hardware sets. -/
def csrHeld (n : Nat) : Word64 :=
  csrMask n |||
    if n = Csr.FMTN then 0x1FFFF
    else if n = Csr.QALLOT then 0x7F
    else if n = Csr.PHWORD then 0x1F
    else if n = Csr.PLANST then 0xFFFFFFFFFFFF0000
    else if n = Csr.TLCAUSE then 0xC00000000000FF3F
    else if n = Csr.BFCAUSE then 0x80FFF00000000000
    else if n = Csr.SNAPEP ∨ n = Csr.TLPC ∨ n = Csr.TLADDR ∨ n = Csr.BFPC ∨ n = Csr.BFFPC ∨ n = Csr.BFADDR then 0xFFFFFFFFFFFFFFFF
    else 0

/-- The image `v` of a CSR as the register holds it: no reserved bit, and VMROOT's MODE as ever (R6, R106). -/
def csrImage (n : Nat) (v : Word64) : Word64 := if n = Csr.VMROOT then 0xA000000000000000 ||| (v &&& csrMask n) else v &&& csrHeld n

/-- The bits of a ring register that hold a field (R172). -/
def ringHeld : BitVec 128 := 0xFFFF001F1F0F0000BF00F000003FE000

/-- A CSR whose writes are privileged (R76, R106, R150, R285, R341). That TBND0 to TBND5 are among the trap CSRs whose writes R341 makes
privileged is DEDUCED (log 65). -/
def csrPrivWrite (n : Nat) : Bool :=
  n == Csr.EFCAUSE || n == Csr.TLCAUSE || n == Csr.TLPC || n == Csr.TLADDR
    || (Csr.TCAUSE ≤ n && n ≤ Csr.TADDR2) || (Csr.TBND0 ≤ n && n < Csr.TBND0 + 6)
    || n == Csr.PBOUND || n == Csr.HWDOG || n == Csr.CTXBASE || n == Csr.VMROOT

/-- A CSR that only the tender accesses (R76, R342, R346). -/
def csrPrivRead (n : Nat) : Bool := n == Csr.PGREQ || (Csr.TSCR0 ≤ n && n < Csr.TSCR0 + 4)

/-! ### Control-die registers (R104) -/

namespace Ctl
def CAPPTR := 0x0
def MODID := 0x1000
def BOOTST := 0x1008
def BOOTSEL := 0x1010
def OSRESTART := 0x1018
def PCIEBIF := 0x1020
def CSEM := 0x1028
def HOVBASE := 0x1030
def KTBASE := 0x1038
def SYSCBASE := 0x1040
def PSTBASE := 0x1048
def SCRUBCTL := 0x1050
def XINVA := 0x1058
def XINVC := 0x1060
def TLINV := 0x1068
def ERRBASE := 0x1070
def ERRPOS := 0x1078
def SLIPBASE := 0x1080
def SLIPPOS := 0x1088
def SNAPCFG := 0x1090
def SNAPAREA := 0x1098
def SNAPPOS := 0x10A0
def SNAPST := 0x10A8
def SNAPLAST := 0x10B0
def ROLLEP := 0x10B8
def ROLLCTL := 0x10C0
def SEMRAISE := 0x10C8
def LNCTL (k : Nat) := 0x1100 + 0x18 * k
def LNSTAT (k : Nat) := 0x1108 + 0x18 * k
def LNBASE (k : Nat) := 0x1110 + 0x18 * k
def MSIRT (k : Nat) := 0x1140 + 8 * k
def QLSTAT (k : Nat) := 0x1180 + 8 * k
def LGRP (n : Nat) := 0x2000 + 8 * n
def LGMEM := 0x2100
def TENMAP (n : Nat) := 0x3000 + 8 * n
def TENCFG (n : Nat) := 0x4000 + 8 * n
def TENROOT (n : Nat) := 0x4800 + 8 * n
def TLBASE (n : Nat) := 0x5000 + 8 * n
def HWQCFG (n : Nat) := 0x6000 + 8 * n
def QROUTE (m : Nat) := 0x7000 + 8 * m
def LCMAP (l : Nat) := 0x8000 + 8 * l
def XESC (c : Nat) := 0xA000 + 8 * c
def PGDONE (c : Nat) := 0xC000 + 8 * c
def XPEND (k j : Nat) := 0xE000 + 64 * k + 8 * j
def SLOTTAB (k j : Nat) := 0x10000 + 512 * k + 8 * j
/-- Physical base of the control-die range (R103). -/
def base := 0x100000000000
end Ctl

/-- `lo ≤ x < lo + n` in steps of 8. -/
def inTab (x lo n : Nat) : Bool := lo ≤ x && x < lo + 8 * n

/-- The reset value of a control-die register. -/
def ctlReset (o : Nat) : Word64 :=
  if o = Ctl.CAPPTR then 8
  else if o = Ctl.SCRUBCTL then 0x03E80E10
  else if o = Ctl.ERRBASE then 8
  else if o = Ctl.SLIPBASE then 4
  else if inTab o 0x3000 40 then 0xFFFFFFFFFFFFFFFF
  else if inTab o 0x4000 256 then 0x0008000000000000
  else if inTab o 0x4800 256 then 0xA000000000000000
  else if inTab o 0x6000 64 then 0x000C000000000000
  else if inTab o 0x8000 320 then BitVec.ofNat 64 (2 ^ 63 + (o - 0x8000) / 8)
  else 0

/-- The bits that a write to a control-die register stores (access RW or RWL). -/
def ctlMask (o : Nat) : Word64 :=
  if o = Ctl.MODID then 0xFF
  else if o = Ctl.BOOTSEL then 1
  else if o = Ctl.OSRESTART then 3
  else if o = Ctl.PCIEBIF then 0xFF
  else if o = Ctl.HOVBASE then 0x000FFFFFFFFFFFC1
  else if o = Ctl.KTBASE then 0xFFFFFFFFFFFFFFC0
  else if o = Ctl.SYSCBASE then 0x000FFFFFFFFF0001
  else if o = Ctl.PSTBASE then 0x000000FFFFFF0001
  else if o = Ctl.SCRUBCTL then 0xFFFFFFFF
  else if o = Ctl.XINVA then 0x01FFFFFFFFFF0000
  else if o = Ctl.XINVC then 0x00000007FFFFFFFF
  else if o = Ctl.TLINV then 0x1FF7F
  else if o = Ctl.ERRBASE ∨ o = Ctl.SLIPBASE then 0x800FFFFFFFFFF01F
  else if o = Ctl.ERRPOS ∨ o = Ctl.SLIPPOS then 0x00000000FFFFFFFF
  else if o = Ctl.SNAPCFG then 0x80FFF00000000000
  else if o = Ctl.SNAPAREA then 0xFFFFFFFFFFFF0000
  else if o = Ctl.SNAPPOS then 0xFFFFFFFF00000000
  else if o = Ctl.ROLLEP then 0xFFFFFFFFFFFFFFFF
  else if o = Ctl.LNCTL 0 ∨ o = Ctl.LNCTL 1 then 0x00FF000000FFFFFF
  else if o = Ctl.LNBASE 0 ∨ o = Ctl.LNBASE 1 then 0x000FFFFFFFFFFF00
  else if inTab o 0x1140 5 then 0x80000000003FFF8F
  else if inTab o 0x2008 15 then 0x80FFF00000000000
  else if inTab o 0x2100 120 then 0xFFFFFFFFFFFFFFFF
  else if inTab o 0x3000 40 then 0xFFFFFFFFFFFFFFFF
  else if inTab o 0x4000 256 then 0x80FF000000000000
  else if inTab o 0x4800 256 then 0x0FFFFFFFFFFFFFFF
  else if inTab o 0x5000 256 then 0x000FFFFFFFFFE001
  else if inTab o 0x6000 64 then 0xFFFE00FFFFFFFFFF
  else if inTab o 0x7000 256 then 0x1F
  else if inTab o 0x8000 320 then 0x80000000000001FF
  else if inTab o 0xC000 320 then 1
  else if inTab o 0x10000 512 then 0x80FF000000000000
  else 0

/-- The RWL fields of a register (R5, R111, R426). -/
def ctlLocks (o : Nat) : List Word64 :=
  if o = Ctl.MODID then [0xFF] else if o = Ctl.PSTBASE then [1, 0x000000FFFFFF0000] else []

/-- Registers guarded by CSEM (R162, R322, R323, R326, R327, R331, R337, R372, R380, R381, R391, R420, R422, R426, R431). -/
def ctlGuarded (o : Nat) : Bool :=
  o == Ctl.OSRESTART || o == Ctl.PCIEBIF || o == Ctl.SLIPBASE || o == Ctl.SNAPCFG || o == Ctl.SNAPAREA || o == Ctl.SNAPPOS
    || o == Ctl.ROLLEP || o == Ctl.ROLLCTL
    || o == Ctl.LNCTL 0 || o == Ctl.LNCTL 1 || o == Ctl.LNBASE 0 || o == Ctl.LNBASE 1
    || inTab o 0x1140 5 || inTab o 0x3000 40 || inTab o 0x4000 256 || inTab o 0x4800 256
    || inTab o 0x6000 64 || inTab o 0x7000 256 || inTab o 0x8000 320 || inTab o 0x10000 512

/-- Registers that only a general core in S or M mode writes (R110, R159, R318, R345, R364, R399, R424). -/
def ctlGeneral (o : Nat) : Bool :=
  o == Ctl.XINVA || o == Ctl.XINVC || o == Ctl.SYSCBASE || o == Ctl.ERRBASE
    || o == Ctl.KTBASE || o == Ctl.SEMRAISE
    || inTab o 0x2008 15 || inTab o 0x2100 120 || inTab o 0xA000 320 || inTab o 0xC000 320

/-- The capability list of R427, byte by byte, from CAPPTR on: seven entries of 24 bytes after the pointer. -/
def capEntry (i : Nat) : List Nat :=
  let head (id len : Nat) := [id, 0, 1, 0] ++ (toBytes 4 len).map BitVec.toNat
  let body (l : List Nat) := l ++ List.replicate (16 - l.length) 0
  match i with
  | 0 => head 1 32 ++ body [64, 0, 0, 1, 16]
  | 1 => head 2 56 ++ body [1, 1]
  | 2 => head 3 80 ++ body [3]
  | 3 => head 4 104 ++ body [7]
  | 4 => head 5 128 ++ body [3]
  | 5 => head 6 152 ++ body [1]
  | 6 => head 7 0 ++ body [0, 0, 0, 0, 12, 64]
  | _ => []

/-- The doubleword at offset `o` of the capability list (R427). -/
def capWord (o : Nat) : Word64 :=
  if o = 0 then 8
  else BitVec.ofNat 64 (ofBytes (((capEntry ((o - 8) / 24)).drop ((o - 8) % 24)).take 8 |>.map (BitVec.ofNat 8)))

/-- Offsets that the map assigns to a register (R104): 8-byte registers, the boot ROM and the device windows. -/
def ctlAssigned (o : Nat) : Bool :=
  o < 0x1000 || inTab o 0x1000 26 || inTab o 0x1100 6 || inTab o 0x1140 5 || inTab o 0x1180 16 || inTab o 0x2008 15 || inTab o 0x2100 120
    || inTab o 0x3000 40 || inTab o 0x4000 256 || inTab o 0x4800 256 || inTab o 0x5000 256 || inTab o 0x6000 64
    || inTab o 0x7000 256 || inTab o 0x8000 320 || inTab o 0xA000 320 || inTab o 0xC000 320
    || inTab o 0xE000 5 || inTab o 0xE040 5 || inTab o 0xE080 5 || inTab o 0x10000 512
    || (0x100000 ≤ o && o < 0x140000) || (0x1000000 ≤ o && o < 0x1001000) || (0x2000000 ≤ o && o < 0x2004000)
    || (0x2008000 ≤ o && o < 0x200C000) || (0x4000000 ≤ o && o < 0x4010000) || (0x5000000 ≤ o && o < 0x5080000)
    || (0x40000000 ≤ o && o < 0x80000000)

/-- Offsets of the IOMMU, APLIC, IMSIC and ECAM windows and of the boot ROM: their contents follow the RISC-V specifications
or the ROM image (R420 to R422, R428). -/
def ctlDevice (o : Nat) : Bool := 0x100000 ≤ o

end Sys2Proof.Machine
end

