-- ==== Sys2Proof/Machine/Ops.lean ====
section
/-! DEFINITION. The named operations over registers, memory, translation and traps that every meaning is written with. -/

namespace Sys2Proof.Machine

open Sys2Proof

/-! ### Cores and free values -/

/-- Core `c` of the module; one that nothing has touched is at its reset values. -/
def State.core (s : State) (c : Nat) : Core := Map.get {} s.cores c

/-- The state with core `c` replaced. -/
def State.setCore (s : State) (c : Nat) (k : Core) : State := { s with cores := Map.put s.cores c k }

/-- The state with core `c` changed by `f`. -/
def State.onCore (s : State) (c : Nat) (f : Core → Core) : State := s.setCore c (f (s.core c))

/-- Free value `k` of this step (R8). -/
def State.freeVal (s : State) (k : Nat) : Nat := Config.freeNat (s.free + k)

/-- The state after a step has drawn up to `n` free values. -/
def State.drew (s : State) (n : Nat) : State := { s with free := s.free + n }

/-- The next free value, and the state with it drawn. -/
def State.draw (s : State) : Nat × State := (s.freeVal 0, s.drew 1)

/-! ### Registers of a core (R16, R164) -/

/-- Scalar `n`; s0 reads zero (R16). -/
def Core.s (k : Core) (n : SReg) : Word64 := if n = 0 then 0 else vget 0 k.regs.s n.toNat
/-- Scalar `n` by number. -/
def Core.sNat (k : Core) (n : Nat) : Word64 := k.s (BitVec.ofNat 6 n)
/-- Predicate `n`; p0 reads true (R16). -/
def Core.p (k : Core) (n : PReg) : Bool := n = 0 || k.regs.p.getLsbD n.toNat
/-- Descriptor `n`. -/
def Core.d (k : Core) (n : DReg) : Desc := vget 0 k.regs.d n.toNat
/-- Ring `n`. -/
def Core.g (k : Core) (n : GReg) : BitVec 128 := vget 0 k.regs.g n.toNat
/-- Semaphore `n`. -/
def Core.w (k : Core) (n : WReg) : BitVec 32 := vget 0 k.regs.w n.toNat
/-- Queue `n`. -/
def Core.q (k : Core) (n : QReg) : List QEntry := vget [] k.regs.q n.toNat
/-- Row `r` of accumulator `a`. -/
def Core.row (k : Core) (a r : Nat) : Vec := Map.get 0 k.regs.acc (64 * a + r)
/-- The undefined scratchpad range that holds offset `o`, if any. -/
def Core.junkAt (k : Core) (o : Nat) : Option (Nat × Nat × Nat) := k.junk.find? fun j => j.1 ≤ o && o < j.2.1
/-- Scratchpad byte at offset `o`: a free value where nothing has written an undefined range since (R8). -/
def Core.sp (k : Core) (o : Nat) : Byte :=
  match Map.find k.scratch o with
  | some b => b
  | none => match k.junkAt o with
    | some j => BitVec.ofNat 8 (Config.freeNat (j.2.2 + o))
    | none => 0
/-- The core with the scratchpad byte at `o` replaced. -/
def Core.spPut (k : Core) (o : Nat) (b : Byte) : Core :=
  { k with scratch := if (k.junkAt o).isSome then Map.put k.scratch o b else Map.set 0 k.scratch o b }
/-- The core with the scratchpad bytes from `lo` up to `hi` undefined; `base` numbers their free values. -/
def Core.spForget (k : Core) (lo hi base : Nat) : Core :=
  if hi ≤ lo then k
  else { k with scratch := k.scratch.filter fun e => !(lo ≤ e.1 && e.1 < hi), junk := (lo, hi, base) :: k.junk }
/-- Bytes of the scratchpad. -/
def Core.spRead (k : Core) (o n : Nat) : List Byte := (List.range n).map fun i => k.sp (o + i)

def Core.setS (k : Core) (n : SReg) (v : Word64) : Core :=
  if n = 0 then k else { k with regs := { k.regs with s := vset k.regs.s n.toNat v } }
def Core.setP (k : Core) (n : PReg) (b : Bool) : Core :=
  if n = 0 then k
  else { k with regs := { k.regs with p := BitVec.ofNat 64 (setField k.regs.p.toNat n.toNat 1 (bit b)) } }
/-- Any write of a descriptor register but a logical instruction's clears the pending mark (R231). -/
def Core.setD (k : Core) (n : DReg) (v : Desc) (mark : Bool) : Core :=
  let m := BitVec.ofNat 32 (setField k.regs.dpend.toNat n.toNat 1 (bit mark))
  { k with regs := { k.regs with d := vset k.regs.d n.toNat v, dpend := m } }
def Core.setG (k : Core) (n : GReg) (v : BitVec 128) : Core :=
  { k with regs := { k.regs with g := vset k.regs.g n.toNat v } }
def Core.setW (k : Core) (n : WReg) (v : BitVec 32) : Core :=
  { k with regs := { k.regs with w := vset k.regs.w n.toNat v } }
def Core.setQ (k : Core) (n : QReg) (v : List QEntry) : Core :=
  { k with regs := { k.regs with q := vset k.regs.q n.toNat v } }
def Core.setRow (k : Core) (a r : Nat) (v : Vec) : Core :=
  { k with regs := { k.regs with acc := Map.set 0 k.regs.acc (64 * a + r) v } }

/-- Poison of scalar `n` (R362). -/
def Core.sBad (k : Core) (n : SReg) : Bool := n ≠ 0 && k.regs.sPoison.getLsbD n.toNat
def Core.setSBad (k : Core) (n : SReg) (b : Bool) : Core :=
  if n = 0 then k
  else { k with regs := { k.regs with sPoison := BitVec.ofNat 64 (setField k.regs.sPoison.toNat n.toNat 1 (bit b)) } }
def Core.rowBad (k : Core) (a r : Nat) : Bool := (64 * a + r) ∈ k.regs.accPoison
def Core.setRowBad (k : Core) (a r : Nat) (b : Bool) : Core :=
  let m := if b then NatSet.insert k.regs.accPoison (64 * a + r) else NatSet.remove k.regs.accPoison (64 * a + r)
  { k with regs := { k.regs with accPoison := m } }

/-- Scratchpad bytes written: a granule whose 8 bytes are all covered loses its poison, a poisoned one stays (R124). -/
def Core.spWrite (k : Core) (o : Nat) (bs : List Byte) : Core :=
  let n := bs.length
  let clear := k.scratchPoison.filter fun g => !(o ≤ 8 * g && 8 * g + 8 ≤ o + n)
  (List.range n).foldl (fun k i => k.spPut (o + i) (bs.getD i 0)) { k with scratchPoison := clear }

/-- Whether a scratchpad range holds poison. -/
def Core.spBad (k : Core) (o n : Nat) : Bool := k.scratchPoison.any fun g => o < 8 * g + 8 && 8 * g < o + n

/-- Marks every granule that a range touches poisoned (R362). -/
def Core.spPoison (k : Core) (o n : Nat) : Core :=
  { k with scratchPoison := (List.range ((o + n + 7) / 8 - o / 8)).foldl (fun m i => NatSet.insert m (o / 8 + i)) k.scratchPoison }

/-- The size of the scratchpad in bytes (R122). -/
def Core.spSize (k : Core) : Nat := 262144 * (Map.get (csrReset Csr.SPLIT) k.csr Csr.SPLIT).toNat

/-! ### CSRs as stored -/

/-- The stored image of CSR `n`. -/
def Core.csrGet (k : Core) (n : Nat) : Word64 := Map.get (csrReset n) k.csr n
/-- The core with CSR `n` holding `v`. -/
def Core.csrPut (k : Core) (n : Nat) (v : Word64) : Core := { k with csr := Map.set (csrReset n) k.csr n v }
/-- Flags ORed into FFLAGS (R93). -/
def Core.orFlags (k : Core) (f : Flags) : Core :=
  k.csrPut Csr.FFLAGS (k.csrGet Csr.FFLAGS ||| f.zeroExtend 64)
/-- The FMTN image that governs the next bundle of the pipeline that issues: in the main pipeline, the newest pending image whose count
has run down to that bundle (R185). -/
def Core.fmtImage (k : Core) : Word64 :=
  if k.level = 0 then
    match (k.fmtPend.filter fun e => e.2 ≤ 1).getLast? with
    | some e => e.1.zeroExtend 64
    | none => k.csrGet Csr.FMTN
  else k.csrGet Csr.FMTN
/-- That image as a format (R83). -/
def Core.fmtn (k : Core) : Fmtn := fmtnOf k.fmtImage.toNat
/-- QALLOT's COUNT (R170). -/
def Core.qallot (k : Core) : Nat := (k.csrGet Csr.QALLOT).toNat
/-- CHECKMODE EN (R174). -/
def Core.checking (k : Core) : Bool := k.csrGet Csr.CHECKMODE = 1
/-- The pipeline that issues: the tender above level 0 (R344). -/
def Core.pipe (k : Core) : Pipe := if k.level = 0 then k.main else k.tender
def Core.setPipe (k : Core) (p : Pipe) : Core := if k.level = 0 then { k with main := p } else { k with tender := p }

/-! ### Results in flight (R66 to R68) -/

/-- The window covers cycle `clk`: its register is undefined there (R66). -/
def Window.opens (w : Window) (clk : Nat) : Bool := !w.landed && (w.late || clk < w.due)

/-- Register `r` is undefined at cycle `clk`. -/
def Core.inFlight (k : Core) (clk : Nat) (r : RegName) : Bool := k.windows.any fun w => w.reg = r && w.opens clk

/-- Register `r` is owned at cycle `clk` (R175): by bounds, not by landing times. -/
def Core.ownedAt (k : Core) (clk : Nat) (r : RegName) : Bool := k.windows.any fun w => w.reg = r && (w.late || clk < w.due)

/-- A pass of format `f` into accumulator `acc` covers accumulator `a`: the pair for f64 (R96). -/
def passCovers (f : Fmt) (acc a : Nat) : Bool := a = acc || (f = .f64 && a = acc + 1)
/-- A pass owns accumulator `a` from its issue to its commit (R175, R223). -/
def Core.passOwns (k : Core) (a : Nat) : Bool := k.passes.any fun p => passCovers p.fmt p.acc a

/-- A queue entry has landed by cycle `clk`. -/
def QEntry.isIn (e : QEntry) (clk : Nat) : Bool := e.landed || e.due ≤ clk

/-- The flags of the queue entries that have landed and not yet left them in FFLAGS. -/
def Core.queueFlags (k : Core) (clk : Nat) : Flags :=
  (List.range 64).foldl (fun f n => (k.q (BitVec.ofNat 6 n)).foldl (fun f e => if e.isIn clk then f ||| e.flags else f) f) 0

/-- Those entries leave them. -/
def Core.takeQueueFlags (k : Core) (clk : Nat) : Core :=
  let f := k.queueFlags clk
  if f = 0 then k
  else
    let take (e : QEntry) : QEntry := if e.isIn clk then { e with flags := 0 } else e
    { k with regs := { k.regs with q := k.regs.q.map fun (l : List QEntry) => l.map take } }.orFlags f

/-- Windows that have closed by cycle `clk` go, and what has landed of them leaves its flags in FFLAGS (R93). -/
def Core.settleWindows (k : Core) (clk : Nat) : Core :=
  let done := k.windows.filter fun w => !w.late && w.due ≤ clk
  let f := (k.windows.filter fun w => !w.opens clk).foldl (fun f w => f ||| w.flags) (0 : Flags)
  let live := (k.windows.filter fun w => !(!w.late && w.due ≤ clk)).map fun w =>
    if w.opens clk then w else { w with flags := 0 }
  if done = [] ∧ f = 0 then { k with windows := live } else { k with windows := live }.orFlags f

/-- What has landed by cycle `clk`, in registers and queues, leaves its flags in FFLAGS. -/
def Core.settle (k : Core) (clk : Nat) : Core := (k.settleWindows clk).takeQueueFlags clk

/-- A window for `r` from cycle `clk` on. -/
def Core.addWindow (k : Core) (clk : Nat) (r : RegName) (bound : Nat) (flags : Flags) : Core :=
  { k with windows := { reg := r, due := clk + bound, flags := flags } :: k.windows }

/-- The late result of register `r` no longer takes the register: a later write has it (R68). -/
def Core.supersede (k : Core) (r : RegName) : Core :=
  { k with windows := k.windows.map fun (w : Window) => if w.reg = r && w.late then { w with reg := .p 0 } else w }

/-- A scalar result with its bound. When an earlier write of the register is still in flight, the register holds either
result (R68), chosen by the free value `pick`. -/
def Core.resultS (k : Core) (clk bound : Nat) (n : SReg) (v : Word64) (bad : Bool) (flags : Flags) (pick : Nat) : Core :=
  if n = 0 then (if flags = 0 then k else k.addWindow clk (.p 0) bound flags)
  else
    let keep := k.inFlight clk (.s n.toNat) && pick % 2 = 1
    let k := if keep then k else ((k.supersede (.s n.toNat)).setS n v).setSBad n bad
    k.addWindow clk (.s n.toNat) bound flags

/-- A predicate result with its bound (R68). -/
def Core.resultP (k : Core) (clk bound : Nat) (n : PReg) (v : Bool) (flags : Flags) (pick : Nat) : Core :=
  if n = 0 then (if flags = 0 then k else k.addWindow clk (.p 0) bound flags)
  else
    let keep := k.inFlight clk (.p n.toNat) && pick % 2 = 1
    let k := if keep then k else k.setP n v
    k.addWindow clk (.p n.toNat) bound flags

/-- A push into queue `n`, which lands in issue order within its bound (R66, R166). -/
def Core.push (k : Core) (clk bound : Nat) (n : QReg) (v : Vec) (bad : Bool) (flags : Flags) : Core :=
  let last := (k.q n).foldl (fun m e => max m e.due) 0
  k.setQ n (k.q n ++ [{ v := v, due := max (clk + bound) last, poison := bad, flags := flags }])

/-! ### Control-die registers -/

/-- The stored image of the control-die register at offset `o`. -/
def State.ctlGet (s : State) (o : Nat) : Word64 := Map.get (ctlReset o) s.ctl o
/-- The state with that register holding `v`. -/
def State.ctlPut (s : State) (o : Nat) (v : Word64) : State := { s with ctl := Map.set (ctlReset o) s.ctl o v }

/-- A message-signalled interrupt of kind `k` for core `c` (R422, R423): kinds 0 to 2 set the core's XPEND bit; one MSI is
sent where MSIRT routes it. -/
def State.msi (s : State) (k c : Nat) : State :=
  let s := if k ≤ 2 then
      let o := Ctl.XPEND k (c / 64)
      s.ctlPut o (s.ctlGet o ||| BitVec.ofNat 64 (2 ^ (c % 64)))
    else s
  let r := (s.ctlGet (Ctl.MSIRT k)).toNat
  if bitAt r 63 && field r 11 11 ≠ 0 && field r 7 4 ≤ 8 then
    { s with control := { s.control with msi := s.control.msi ++ [(c, r % 2 ^ 22)] } }
  else s

/-! ### Memory (R103, R119, R132) -/

/-- Size of local HBM (R103). -/
def hbmSize : Nat := 0xC000000000
/-- The byte of memory at physical address `a`: an unlisted one reads as 0 (log 1). -/
def State.byte (s : State) (a : Nat) : Byte := Map.get 0 s.mem a
/-- The canonical form of memory. -/
def Memory.wf (m : List Host.Cell) : Bool := Map.wf (0 : Byte) m
/-- The state with the byte at `a` replaced. -/
def State.setByte (s : State) (a : Nat) (b : Byte) : State := { s with mem := Map.set 0 s.mem a b }
/-- `n` bytes from `a`. -/
def State.bytes (s : State) (a n : Nat) : List Byte := (List.range n).map fun i => s.byte (a + i)
/-- A little-endian natural of `n` bytes at `a` (R3). -/
def State.natAt (s : State) (a n : Nat) : Nat := ofBytes (s.bytes a n)
/-- Bytes stored from `a` upward, nothing else. -/
def State.setBytes (s : State) (a : Nat) : List Byte → State
  | [] => s
  | b :: bs => (s.setByte a b).setBytes (a + 1) bs
/-- A little-endian natural stored in `n` bytes at `a`. -/
def State.setNat (s : State) (a n v : Nat) : State := s.setBytes a (toBytes n v)

/-- Where a physical address leads (R103). -/
inductive Place where
  | hbm | peer | control | pcie | reserved
deriving DecidableEq, Repr

/-- This module's number (R426). -/
def State.modId (s : State) : Nat := (s.ctlGet Ctl.MODID).toNat

/-- The links that join this module to module `m`, rising (R434). -/
def State.linksTo (s : State) (m : Nat) : List Nat :=
  (List.range 16).filter fun k => let l := Map.get ({} : Link) s.links k; l.up && l.peer = m

/-- Module `m` is reached by a direct link or by a valid route over a link that is up (R426). -/
def State.reaches (s : State) (m : Nat) : Bool :=
  s.linksTo m ≠ [] ||
    (let r := (s.ctlGet (Ctl.QROUTE m)).toNat
     bitAt r 4 && (Map.get ({} : Link) s.links (r % 16)).up)

/-- Where physical address `a` leads; an unreachable or own window and a hole of the map are reserved (R103). -/
def State.place (s : State) (a : Nat) : Place :=
  if a < hbmSize then .hbm
  else if 0x100000000000 ≤ a ∧ a < 0x100100000000 then .control
  else if 0x4000000000000 ≤ a ∧ a < 0x8000000000000 then
    let m := field a 42 8
    if a % 2 ^ 42 < hbmSize ∧ m ≠ s.modId ∧ s.reaches m then .peer else .reserved
  else if 0x8000000000000 ≤ a ∧ a < 0x10000000000000 then .pcie
  else .reserved

/-- The stack of a local physical address (R105). -/
def stackOf (a : Nat) : Nat :=
  field a 16 4 ^^^ field a 20 4 ^^^ field a 24 4 ^^^ field a 28 4 ^^^ field a 32 4 ^^^ field a 36 4
/-- The offset within the stack (R105). -/
def stackOffset (a : Nat) : Nat := field a 20 20 * 65536 + field a 0 16
/-- The home slice of a local line (R119). -/
def sliceOf (a : Nat) : Nat :=
  48 * (stackOf a / 2) + (field a 7 9 + 7 * field a 20 20 + 24 * (stackOf a % 2)) % 48

/-- The key of identifier `id` of tenant `tenant` in the routine cache of slice `slice` (R279). -/
def routineKey (slice tenant id : Nat) : Nat := (slice * 256 + tenant) * 64 + id

/-- An access has a home slice: local HBM or a reachable peer's (R119, R121). -/
def State.homed (s : State) (a : Nat) : Bool := s.place a = .hbm || s.place a = .peer

/-! ### The page-state table and granule copies (R111 to R113, R381) -/

/-- The physical address of a granule's page-state byte, when hardware keeps the table (R111). -/
def State.pageByte (s : State) (granule : Nat) : Option Nat :=
  let b := (s.ctlGet Ctl.PSTBASE).toNat
  if bitAt b 0 then some (field b 16 24 * 65536 + granule) else none

/-- The state of a tracked granule; none when it is not tracked (R111). -/
def State.pageState (s : State) (granule : Nat) : Option Nat :=
  match s.pageByte granule with
  | none => none
  | some a =>
    let x := (s.byte a).toNat
    if !bitAt x 2 then none else if field x 3 5 ≠ 0 then some 3 else some (x % 4)

/-- A tracked granule's byte takes a state (R112). -/
def State.setPageState (s : State) (granule st : Nat) : State :=
  match s.pageByte granule with
  | none => s
  | some a => s.setByte a (BitVec.ofNat 8 (4 + st))

/-- The snapshot area has no granule left (R381). -/
def State.areaFull (s : State) : Bool :=
  let p := (s.ctlGet Ctl.SNAPPOS).toNat
  field (s.ctlGet Ctl.SNAPAREA).toNat 40 24 ≤ (field p 0 32 + 2 ^ 32 - field p 32 32) % 2 ^ 32
/-- The physical address of the granule that the snapshot area gives next (R381). -/
def State.areaNext (s : State) : Nat :=
  let a := (s.ctlGet Ctl.SNAPAREA).toNat
  (field a 16 24 + field (s.ctlGet Ctl.SNAPPOS).toNat 0 32 % field a 40 24) * 65536
/-- The state with that granule taken. -/
def State.areaTake (s : State) : State :=
  let p := (s.ctlGet Ctl.SNAPPOS).toNat
  s.ctlPut Ctl.SNAPPOS (BitVec.ofNat 64 (setField p 0 32 (field p 0 32 + 1)))

/-- A granule's listed bytes copied to another granule; every other byte of the target reads as empty memory. -/
def State.copyGranule (s : State) (src dst : Nat) : State :=
  let cells := (s.mem.filter fun c => src ≤ c.1 && c.1 < src + 65536).map fun c => (c.1 - src + dst, c.2)
  let others := s.mem.filter fun c => !(dst ≤ c.1 && c.1 < dst + 65536)
  { s with mem := others.filter (fun c => c.1 < dst) ++ cells ++ others.filter (fun c => dst ≤ c.1) }

/-- The manifest whose granules are ARMED: the previous epoch's while it runs, else the current one (R384). -/
def Snap.arming (p : Snap) : Manif := p.old.getD p.cur
/-- That manifest replaced. -/
def Snap.putArming (p : Snap) (m : Manif) : Snap := if p.old.isSome then { p with old := some m } else { p with cur := m }

/-! ### What a write does at the home slice beside the bytes -/

/-- Where the 256 bytes stand that the running pipeline may hold ahead of issue, by the translations that the core holds (R129, log 16): physical
address and length of what lies in each granule. -/
def Core.fetchAhead (k : Core) : List (Nat × Nat) :=
  let pc := k.pipe.pc.toNat
  let va := pc - pc % 2
  let n := min 256 (65536 - va % 65536)
  let at_ (a : Nat) : Option Nat := (k.tlb.find? fun e => e.granule = field a 16 41).map fun e => e.pa + a % 65536
  ((at_ va).map fun p => (p, n)).toList ++ ((at_ (va + n)).map fun p => (p, 256 - n)).toList

/-- The instruction caches without what `p` selects. -/
def Core.dropCode (k : Core) (p : CodeLine → Bool) : Core :=
  { k with icache := k.icache.filter fun l => !p l, dcache := k.dcache.filter fun l => !p l }

/-- A write to a line whose instruction bit is set (R128): the bit is cleared, instruction caches drop the line, and words
already fetched, at most 256 bytes ahead, may still be the old ones (R129). -/
def State.codeWrite (s : State) (a n : Nat) : State :=
  let hit := s.codeLines.filter fun l => a < 128 * l + 128 && 128 * l < a + n
  if hit = [] then s
  else
    let old := (List.range n).filter fun i => (a + i) / 128 ∈ hit
    let keep (k : Core) : Core :=
      let ahead := k.fetchAhead
      ({ k with oldCode := old.foldl (fun m i =>
          if (ahead.any fun f => f.1 ≤ a + i && a + i < f.1 + f.2) && (Map.find m (a + i)).isNone then Map.put m (a + i) (s.byte (a + i))
          else m) k.oldCode }).dropCode fun l => l.pa.any fun x => x / 128 ∈ hit
    { s with codeLines := s.codeLines.filter fun l => !(l ∈ hit),
             cores := s.cores.map fun c => (c.1, keep c.2) }

/-- What a write at the home slice met: a POISON word (R304), or a poisoned sector that it covers in part (R132). -/
structure WriteMet where
  lost : Bool := false
  ue : Bool := false
deriving DecidableEq, Repr

/-- Bytes reach the home slice once their granules' page states allow (R113): the instruction bit first (R128), then the bytes, where
a POISON word is not written (R304), a sector covered whole loses its poison, and one covered in part keeps it (R132). -/
def State.homeStore (s : State) (who : WriteBy) (a : Nat) (bs : List Byte) : State × WriteMet :=
  let n := bs.length
  let s := s.codeWrite a n
  let s := { s with histNext := s.histNext + 1,
                    hist := { n := s.histNext, clk := s.clk, addr := a, old := s.bytes a n, who := who } :: s.hist }
  if s.wordPoison = [] ∧ s.sectorPoison = [] then (s.setBytes a bs, {})
  else
    let covered (sec : Nat) : Bool := a ≤ 32 * sec && 32 * sec + 32 ≤ a + n
    let lostAt (x : Nat) : Bool := x / 4 ∈ s.wordPoison
    let badAt (x : Nat) : Bool := x / 32 ∈ s.sectorPoison && !covered (x / 32)
    let met : WriteMet := { lost := (List.range n).any fun i => lostAt (a + i),
                            ue := (List.range n).any fun i => badAt (a + i) }
    let s' := (List.range n).foldl (fun t i =>
      if lostAt (a + i) || badAt (a + i) then t else t.setByte (a + i) (bs.getD i 0)) s
    ({ s' with sectorPoison := s'.sectorPoison.filter fun sec => !covered sec }, met)

/-! ### Records (R331, R364) and page states (R112, R113) -/

/-- Appends a 32-byte record to a ring governed by a base and a position register (R331, R364); `put` writes its bytes. -/
def State.ringPut (s : State) (put : State → Nat → List Byte → State) (baseReg posReg : Nat) (bs : List Byte) : State :=
  let b := (s.ctlGet baseReg).toNat
  let p := (s.ctlGet posReg).toNat
  if !bitAt b 63 then s
  else
    let base := field b 12 40 * 4096
    let n := 2 ^ field b 0 5
    let head := field p 0 32
    let tail := s.natAt (base + 32 * n) 4
    if (head + 2 ^ 32 - tail) % 2 ^ 32 < n then
      (put s (base + 32 * (head % n)) bs).ctlPut posReg (BitVec.ofNat 64 (setField p 0 32 (head + 1)))
    else s.ctlPut posReg (BitVec.ofNat 64 (setField p 32 32 (field p 32 32 + 1)))

/-- What an error record says (R364). -/
structure ErrorInfo where
  array : Nat
  sev : Nat
  unit : Nat
  loc : Nat
  pc : Word64 := 0
deriving DecidableEq, Repr

/-- A record in the error ring (R364), its bytes written by `put`; SEV 1 or more sends the error MSI. -/
def State.logError (s : State) (put : State → Nat → List Byte → State) (e : ErrorInfo) : State :=
  let bs := toBytes 8 s.frame ++ toBytes 1 e.array ++ toBytes 1 e.sev ++ toBytes 2 e.unit ++ toBytes 4 0
    ++ toBytes 8 e.loc ++ toBytes 8 e.pc.toNat
  let s := s.ringPut put Ctl.ERRBASE Ctl.ERRPOS bs
  if 1 ≤ e.sev then s.msi 4 0 else s

/-- A tracked granule's byte with a nonzero reserved bit, a table error (R111). -/
def State.tableErr (s : State) (granule : Nat) : List ErrorInfo :=
  match s.pageByte granule with
  | some a => if bitAt (s.byte a).toNat 2 && field (s.byte a).toNat 3 5 ≠ 0 then [{ array := 8, sev := 4, unit := sliceOf a, loc := a }] else []
  | none => []

/-- The area is exhausted: every ARMED granule of the epoch becomes DIRTY and the manifest fails (R381). -/
def State.copyFails (s : State) (granule : Nat) : State × List ErrorInfo :=
  let m := s.snap.arming
  let s := m.granules.foldl (fun s g => if s.pageState g.1 = some 1 then s.setPageState g.1 3 else s) s
  ({ s with snap := s.snap.putArming { m with failed := true } }, [{ array := 0xFF, sev := 4, unit := 0xFFFF, loc := granule }])

/-- A granule copied to the granule at `pa`, with its manifest entry; the copy is a write to the granule at `pa` (R112). -/
def State.copyInto (s : State) (granule pa : Nat) (bg : Bool) : State :=
  let m := s.snap.arming
  let s := if s.pageState (pa / 65536) = some 0 then s.setPageState (pa / 65536) 3 else s
  let s := s.copyGranule (granule * 65536) pa
  let bad := s.wordPoison.any fun w => w * 4 / 65536 = granule
  let entry (g : Nat × Nat × Bool) : Nat × Nat × Bool := if g.1 = granule then (granule, pa, bad) else g
  let m' : Manif := { m with granules := m.granules.map entry, lossy := m.lossy || bad }
  { s with snap := s.snap.putArming m' }.setPageState granule (if bg then 0 else 2)

/-- The copy of an ARMED granule (R113): made once, with its manifest entry; `bg` for the background copy, which leaves the
granule CLEAN. -/
def State.copyBegun (s : State) (granule : Nat) (bg : Bool) : State × List ErrorInfo :=
  if s.areaFull then s.copyFails granule else (s.areaTake.copyInto granule s.areaNext bg, [])

/-- What a write does to its granule's page state before it applies (R112, R113), and the errors that it meets. -/
def State.trackBegun (s : State) (granule : Nat) : State × List ErrorInfo :=
  match s.pageState granule with
  | some 0 => (s.setPageState granule 3, [])
  | some 1 => s.copyBegun granule false
  | some 3 => (s, s.tableErr granule)
  | _ => (s, [])

/-- The record of an error that page states have met; an error that its own bytes meet there is not logged in turn (log 62). -/
def State.logTable (s : State) (e : ErrorInfo) : State :=
  s.logError (fun s a bs => ((s.trackBegun (a / 65536)).1.homeStore .hard a bs).1) e

/-- What a write does to its granule's page state before it applies (R112, R113). -/
def State.trackWrite (s : State) (granule : Nat) : State := (s.trackBegun granule).2.foldl State.logTable (s.trackBegun granule).1
/-- The copy of an ARMED granule (R113). -/
def State.copyArmed (s : State) (granule : Nat) (bg : Bool) : State :=
  (s.copyBegun granule bg).2.foldl State.logTable (s.copyBegun granule bg).1

/-! ### Writes at the home slice -/

/-- A write of bytes at the home slice: the page state of each granule first (R112), then the bytes. -/
def State.homeWrite (s : State) (who : WriteBy) (a : Nat) (bs : List Byte) : State × WriteMet :=
  let n := bs.length
  if n = 0 then (s, {})
  else
    let s := if a < hbmSize then
        (List.range ((a + n - 1) / 65536 - a / 65536 + 1)).foldl (fun s i => s.trackWrite (a / 65536 + i)) s
      else s
    s.homeStore who a bs

/-- A write of the hardware itself to local HBM: records and manifests (R112, R331, R364, R390). -/
def State.hardWrite (s : State) (a : Nat) (bs : List Byte) : State := (s.homeWrite .hard a bs).1

/-- Appends a 32-byte record to a ring (R331, R364). -/
def State.ringRecord (s : State) (baseReg posReg : Nat) (bs : List Byte) : State := s.ringPut State.hardWrite baseReg posReg bs

/-- An error record (R364); SEV 1 or more sends the error MSI. -/
def State.errorRecord (s : State) (array sev unit loc : Nat) (pc : Word64) : State :=
  s.logError State.hardWrite { array := array, sev := sev, unit := unit, loc := loc, pc := pc }

/-- Marks every sector that a range touches poisoned (R120, R362). -/
def State.poisonRange (s : State) (a n : Nat) : State :=
  { s with sectorPoison := (List.range ((a + n + 31) / 32 - a / 32)).foldl (fun m i => NatSet.insert m (a / 32 + i)) s.sectorPoison }

/-- A range holds a poisoned sector. -/
def State.poisoned (s : State) (a n : Nat) : Bool := s.sectorPoison.any fun x => a < 32 * x + 32 && 32 * x < a + n
/-- A range holds a POISON word. -/
def State.lostIn (s : State) (a n : Nat) : Bool := s.wordPoison.any fun x => a < 4 * x + 4 && 4 * x < a + n

/-! ### What a core is told of poison and lost words (R304, R363 to R365) -/

/-- The tenant that TENMAP gives physical core `p`; 255 for none (R326). -/
def State.tenantOf (s : State) (p : Nat) : Nat := field (s.ctlGet (Ctl.TENMAP (p / 8))).toNat (8 * (p % 8)) 8

/-- The tenant whose task a core runs, which names its job (R277, R380). -/
def State.tenantNow (s : State) (c : Nat) : Nat := ((s.core c).task.map (·.tenant)).getD (s.tenantOf c)

/-- MEM-LOST and MEM-UE wait for the next boundary (R304, R363). -/
def Core.raiseLost (k : Core) (addr pc : Word64) (due : Nat := 0) : Core :=
  { k with pend := { k.pend with memLost := k.pend.memLost ++ [{ kind := 0, addr := addr, pc := pc, due := due }] } }
def Core.raiseUe (k : Core) (kind : Nat) (addr pc : Word64) (due : Nat := 0) (call : Option Nat := none) : Core :=
  { k with pend := { k.pend with memUe := k.pend.memUe ++ [{ kind := kind, addr := addr, pc := pc, due := due, call := call }] } }

/-- The holder of a poisoned sector that an access at `va` met at physical address `pa` (R364): the stack of HBM or the slice that holds
it in L2, which the spec leaves open. -/
def State.memHolder (s : State) (pa : Nat) (va : Word64) : Holder :=
  if s.freeVal 4003 % 2 = 0 then { kind := 1, unit := stackOf pa, loc := pa, va := va } else { kind := 2, unit := sliceOf pa, loc := pa, va := va }

/-- The bundle of core `c` at code pointer `pc` has consumed the poison of a holder (R363, R364): MEM-UE from cycle `due` on, and the
error record. -/
def State.consumed (s : State) (c : Nat) (h : Holder) (pc : Word64) (due : Nat := 0) (call : Option Nat := none) : State :=
  (s.onCore c fun k => k.raiseUe h.kind h.va pc due call).errorRecord h.kind 2 h.unit h.loc pc

/-- Tells core `c` what its access at `va`, physical address `pa`, met (R304, R363). -/
def State.report (s : State) (c : Nat) (va pc : Word64) (pa : Nat) (m : WriteMet) : State :=
  let s := if m.lost then s.onCore c fun k => k.raiseLost va pc else s
  if m.ue then s.consumed c (s.memHolder pa va) pc else s

/-! ### Ownership of words (R296) -/

/-- The value of an owned word goes to its home; what it meets there is told to its owner, a core of this module. -/
def State.sendHome (s : State) (w : Nat) (x : OwnedWord) : State :=
  let (s, met) := s.homeWrite (if x.owner < 320 then .core x.owner (s.tenantNow x.owner) .job else .outside) (4 * w) (toBytes 4 x.value.toNat)
  if x.owner < 320 then s.report x.owner x.va x.pc (4 * w) met else s

/-- Ends the ownership of the words that `p` selects by word and owner: each value goes to its home. -/
def State.endOwned (s : State) (p : Nat → Nat → Bool) : State :=
  let out := s.owned.filter fun e => p e.1 e.2.owner
  let s := { s with owned := s.owned.filter fun e => !p e.1 e.2.owner }
  out.foldl (fun s e => s.sendHome e.1 e.2) s

/-- Ends the ownership of every word in a byte range. -/
def State.endOwnedIn (s : State) (a n : Nat) : State := s.endOwned fun w _ => a < 4 * w + 4 && 4 * w < a + n

/-- Ends the ownership that other agents than core `c` have of the words in a byte range. -/
def State.endOthers (s : State) (c a n : Nat) : State := s.endOwned fun w o => o ≠ c && a < 4 * w + 4 && 4 * w < a + n

/-- The home slices of a byte range obtain the values that owners other than `c` hold, since another agent reads them; the owners stay. -/
def State.obtain (s : State) (c a n : Nat) : State :=
  (s.owned.filter fun e => e.2.owner ≠ c && !e.2.home && a < 4 * e.1 + 4 && 4 * e.1 < a + n).foldl
    (fun s e => { s.sendHome e.1 e.2 with owned := Map.put s.owned e.1 { e.2 with home := true } }) s

/-- The byte that the CORE order holds at `a`: an owner's value before the home's (R292, R296). -/
def State.coreByte (s : State) (a : Nat) : Byte :=
  match Map.find s.owned (a / 4) with
  | some x => x.value.extractLsb' (8 * (a % 4)) 8
  | none => s.byte a

/-- Core `o`, or another module's core, belongs to the job of core `c` (R302, R380). -/
def State.sameJob (s : State) (c o : Nat) : Bool := o = c || 320 ≤ o || s.tenantNow o = s.tenantNow c

/-- The byte at `a` as core `c` finds it: the value that an owner of another job holds is, or is not, included (R302). -/
def State.jobByte (s : State) (c pick a : Nat) : Byte :=
  match Map.find s.owned (a / 4) with
  | some x => if s.sameJob c x.owner || pick % 2 = 1 then s.coreByte a else s.byte a
  | none => s.byte a

/-! ### What FENCE has ordered (R300) -/

/-- Two lists of writes together. -/
def addOrd {α : Type} [DecidableEq α] (l m : List α) : List α := l ++ m.filter (· ∉ l)

/-- A CORE-path access of core `c` takes its place in the CORE order (R292), which the model takes in the order of its steps (log 11): what
the core's fences ordered before it is known to the job from here on, and what others made known before is known to the core (R300, items
3 and 4). -/
def State.coreStep (s : State) (c : Nat) : State :=
  let k := s.core c
  let job := s.tenantNow c
  let pub := addOrd s.published (k.toPublish.map fun x => (some job, x))
  let heard := (pub.filter fun x => x.1 = none || x.1 = some job).map (·.2)
  if k.toPublish = [] && heard.all (· ∈ k.ord.known) then s
  else { s with published := pub }.setCore c { k with ord := { k.ord with known := addOrd k.ord.known heard }, toPublish := [] }

/-! ### Reads that may be old (R293, R297) -/

/-- The byte at `a` with newer writes taken back that `p` admits, newest first, down to the first that it does not. -/
def histByte (p : HistWrite → Bool) (a : Nat) : List HistWrite → Byte → Byte
  | [], b => b
  | h :: hs, b =>
    if a < h.addr || h.addr + h.old.length ≤ a then histByte p a hs b
    else if p h then histByte p a hs (h.old.getD (a - h.addr) 0)
    else b

/-- The least write counter that a load by core `c` may read engine data of byte `a` from (R297): that of the core's last covering FENCE
with CORE in B, or of two frames ago, whichever is later. -/
def State.fenceFloor (s : State) (c a : Nat) : Nat :=
  (s.core c).ord.fences.foldl (fun m x => if x.lo ≤ a && a ≤ x.hi then max m x.time else m) 0
/-- The write counter of two frames ago (R295, R297). -/
def State.frameFloor (s : State) : Nat := s.hist.foldl (fun m h => if h.clk + 2048 < s.clk then max m (h.n + 1) else m) 0

/-- Core `c` stands outside the scope of an atomic of core `d` (R289, R293). -/
def outsideScope (c d : Nat) : Scope → Bool
  | .core => c ≠ d
  | .die => c / 40 ≠ d / 40
  | .pkg => false
  | .job => false

/-- A write that the CORE order of core `c` does not hold, or need not hold for it (R293, R297, R302): of an engine, of an agent outside
the job, or an atomic of a scope that leaves the core out. -/
def State.foreign (s : State) (c : Nat) (h : HistWrite) : Bool :=
  match h.who with
  | .core d job scope => job ≠ s.tenantNow c || outsideScope c d scope
  | .hard => false
  | _ => true

/-- A FENCE of core `c` has ordered write `h` of byte `a` before the core's loads (R300). -/
def State.orderedFor (s : State) (c a : Nat) (h : HistWrite) : Bool :=
  (s.core c).ord.fences.any fun m => m.lo ≤ a && a ≤ m.hi && m.ns.any fun x => x.n = h.n && x.lo ≤ a && a ≤ x.hi

/-- A load of byte `a` by core `c` that reads engine data of write counter `t`, or with `second` the CORE order's value, does not see write
`h`; an atomic that leaves the core out is seen from write counter `t2` down, and in the single order of writes to its word (R293). -/
def State.unseen (s : State) (c a t t2 : Nat) (second : Bool) (h : HistWrite) : Bool :=
  s.foreign c h && !s.orderedFor c a h &&
    match h.who with
    | .core _ job _ => if job = s.tenantNow c then t2 ≤ h.n && Map.get 0 (s.core c).seen (a / 4) ≤ h.n else second || t ≤ h.n
    | _ => second || t ≤ h.n

/-- A CORE-path write of core `c`'s job to byte `a` stands in the history. -/
def State.coreWritten (s : State) (c a : Nat) : Bool :=
  s.hist.any fun h => h.addr ≤ a && a < h.addr + h.old.length && match h.who with
    | .core _ job _ => job = s.tenantNow c
    | _ => false

/-- The writes of a byte range that a load of core `c` may not see. -/
def State.nearby (s : State) (c a n : Nat) : List HistWrite :=
  s.hist.filter fun h => s.foreign c h && a < h.addr + h.old.length && h.addr < a + n

/-- The moment, as a write counter, from which a load sees atomics that leave its core out: a free one of the last two frames (R293, R295). -/
def State.scopeTime (s : State) (pick : Nat) : Nat := s.frameFloor + pick / 7 % (s.histNext + 1 - s.frameFloor)

/-- `n` bytes as a CORE-path load of core `c` reads them (R293, R297, R301): the CORE order's value, or, where others have written, the
home's value at a free moment since the floor, or again the CORE order's, as far as no FENCE has ordered those writes. -/
def State.coreRead (s : State) (c a n pick : Nat) : List Byte :=
  if s.nearby c a n = [] then (List.range n).map fun i => s.jobByte c pick (a + i)
  else
    let lo := s.frameFloor
    let t := lo + pick / 4 % (s.histNext + 1 - lo)
    (List.range n).map fun i =>
      let x := a + i
      histByte (s.unseen c x (max t (s.fenceFloor c x)) (s.scopeTime pick) (pick / 2 % 2 = 1 && s.coreWritten c x)) x s.hist (s.jobByte c pick x)

/-- What a CORE-path load of `n` bytes at `a` by core `c` leaves: its place in the CORE order, the homes' values of words that others own,
and the atomics that it has seen. -/
def State.coreLook (s : State) (c a n pick : Nat) : State :=
  let near := (s.nearby c a n).filter fun h => match h.who with | .core _ job _ => job = s.tenantNow c | _ => false
  let t := s.scopeTime pick
  let s := (s.coreStep c).obtain c a n
  let words := (List.range ((a + n + 3) / 4 - a / 4)).map (a / 4 + ·)
  let see (m : Map Nat) (w : Nat) : Map Nat := Map.put m w (max t (Map.get 0 m w))
  if near = [] then s else s.onCore c fun k => { k with seen := words.foldl see k.seen }

/-- `n` bytes as an engine request born at write counter `born` reads them: the home's value at a free moment since its
issue (R144, R297), an owner's value included or not. -/
def State.engineRead (s : State) (born a n pick : Nat) : List Byte :=
  let base (i : Nat) : Byte := if pick % 2 = 1 then s.coreByte (a + i) else s.byte (a + i)
  let near := s.hist.filter fun h => a < h.addr + h.old.length && h.addr < a + n && born ≤ h.n
  if near = [] then
    if (List.range n).all fun i => s.coreByte (a + i) = s.byte (a + i) then s.bytes a n else (List.range n).map base
  else
    let t := born + pick / 2 % (s.histNext + 1 - born)
    (List.range n).map fun i => histByte (fun h => decide (t ≤ h.n)) (a + i) s.hist (base i)

/-- What such a read leaves: an owner's value that it included is at the home now (R296). -/
def State.engineLook (s : State) (a n pick : Nat) : State := if pick % 2 = 1 then s.obtain 1024 a n else s

/-- A CORE-path store of core `c` at virtual address `va` (R292, R296): other agents' ownership of its words ends; a word homed on another
module stays with the core, but for a POISON one, whose bytes are not written (R304). -/
def State.coreStore (s : State) (c a : Nat) (bs : List Byte) (va pc : Word64) : State × WriteMet :=
  let s := (s.coreStep c).endOthers c a bs.length
  if a < hbmSize then s.homeWrite (.core c (s.tenantNow c) .job) a bs
  else
    ((List.range bs.length).foldl (fun s i =>
      let x := a + i
      let w := x / 4
      let old := ofBytes ((List.range 4).map fun j => s.coreByte (4 * w + j))
      let v := BitVec.ofNat 32 (setField old (8 * (x % 4)) 8 (bs.getD i 0).toNat)
      if w ∈ s.wordPoison then s else { s with owned := Map.put s.owned w { owner := c, value := v, va := va, pc := pc } }) s,
      { lost := s.lostIn a bs.length })

/-! ### Translation (R106 to R110) -/

/-- The kind of an access (R341 DETAIL), a dictionary read being a read of the fetch path (R108, R109). -/
inductive Access where
  | fetch | dict | read | write
deriving DecidableEq, Repr

/-- DETAIL of R341. -/
def Access.detail : Access → Nat
  | .fetch => 1 | .dict => 1 | .read => 2 | .write => 3

/-- A translation that failed: the address, and whether a page-in could resolve it (R344). -/
structure XFault where
  va : Word64
  pageable : Bool
deriving DecidableEq, Repr

/-- A leaf found by a walk: the physical address, the address of its PTE, its permission bits, and whether it is global. -/
structure Leaf where
  pa : Nat
  pte : Nat
  perm : Nat
  global : Bool
deriving DecidableEq, Repr

/-- The leaf at level `l` of the compute cores' page sizes (R107): 64 KiB, 256 MiB, 16 GiB. -/
def napotLeaf (l ppn va : Nat) : Option Nat :=
  match l with
  | 0 => if field ppn 0 4 = 8 then some (field ppn 4 40 * 2 ^ 16 + field va 0 16) else none
  | 1 => if field ppn 0 16 = 0x8000 then some (field ppn 16 28 * 2 ^ 28 + field va 0 28) else none
  | 2 => if field ppn 0 22 = 0x200000 then some (field ppn 22 22 * 2 ^ 34 + field va 0 34) else none
  | _ => none

/-- The Sv57 walk from level `l - 1` down (R107): none where no accepted leaf is found. `glob`: a pointer above had G set, which makes
what lies below it global (R108). The entry that the address indexes is the one used of a NAPOT range, and an entry or a table outside
local HBM has no leaf (log 63). -/
def State.walkFrom (s : State) (va : Nat) : (l ppn : Nat) → (glob : Bool) → Option Leaf
  | 0, _, _ => none
  | l + 1, ppn, glob =>
    let a := ppn * 4096 + 8 * field va (12 + 9 * l) 9
    if !(s.place a = .hbm) then none
    else
      let e := ofBytes ((List.range 8).map fun i => s.coreByte (a + i))
      let r := bitAt e 1
      let w := bitAt e 2
      let x := bitAt e 3
      let n := bitAt e 63
      if !bitAt e 0 || (w && !r) || field e 54 9 ≠ 0 then none
      else if !r && !x then (if n || field e 4 1 = 1 || bitAt e 6 || bitAt e 7 then none else s.walkFrom va l (field e 10 44) (glob || bitAt e 5))
      else if !n then none
      else match napotLeaf l (field e 10 44) va with
        | some pa => some { pa := pa, pte := a, perm := field e 0 8, global := glob || bitAt e 5 }
        | none => none

/-- The walk of a virtual address under a VMROOT image (R106); PPN bits above physical bit 51 fail. -/
def State.walk (s : State) (root : Word64) (va : Nat) : Option Leaf :=
  let ppn := field root.toNat 0 44
  if field ppn 40 4 ≠ 0 then none else s.walkFrom va 5 ppn false

/-- The permission check of R108. `sup` is the tender's privilege. -/
def permOk (kind : Access) (sup : Bool) (perm : Nat) : Bool :=
  let r := bitAt perm 1
  (bitAt perm 4 || sup) &&
    match kind with
    | .fetch => bitAt perm 3
    | .dict => r
    | .read => r
    | .write => r && bitAt perm 2

/-- The translation that core `c` uses for `va`: a walk, or a translation it holds. Where the two differ, either (R110). -/
def State.lookup (s : State) (c : Nat) (root : Word64) (va : Nat) : Option Leaf :=
  let asid := field root.toNat 44 16
  let w := s.walk root va
  match (s.core c).tlb.find? fun e => e.granule = field va 16 41 && (e.asid = asid || e.global) with
  | none => w
  | some e =>
    let held : Leaf := { pa := e.pa + va % 65536, pte := 0, perm := e.perm.toNat, global := e.global }
    match w with
    | some l => if l.pa = held.pa && l.perm / 64 * 64 = held.perm / 64 * 64 && l.perm % 64 = held.perm % 64 then some l
                else if s.freeVal 4000 % 2 = 0 then some l else some held
    | none => if s.freeVal 4000 % 2 = 0 then none else some held

/-- Translates an access of core `c` (R107, R108). -/
def State.translate (s : State) (c : Nat) (root : Word64) (sup : Bool) (kind : Access) (va : Nat) : Except XFault Nat :=
  if !vaValid va then .error ⟨BitVec.ofNat 64 va, false⟩
  else match s.lookup c root va with
    | none => .error ⟨BitVec.ofNat 64 va, true⟩
    | some l => if permOk kind sup l.perm then .ok l.pa else .error ⟨BitVec.ofNat 64 va, true⟩

/-- What an access leaves behind: the translation held by the core, and A and D set in the PTE by an atomic update that
completes before the access takes effect (R108, R110). -/
def State.touch (s : State) (c : Nat) (root : Word64) (kind : Access) (va : Nat) : State :=
  match s.walk root va with
  | none => s
  | some l =>
    let want := l.perm ||| 64 ||| (if kind = .write then 128 else 0)
    let s := if want = l.perm then s else
      (s.homeWrite .hard l.pte [BitVec.ofNat 8 want]).1
    let e : TlbEntry := { asid := field root.toNat 44 16, global := l.global, granule := field va 16 41,
                          pa := l.pa - l.pa % 65536, perm := BitVec.ofNat 8 want }
    let k := s.core c
    if e ∈ k.tlb then s
    else s.setCore c { k with tlb := e :: k.tlb.filter fun x => !(x.granule = e.granule && x.asid = e.asid) }

/-! ### Taking an exception (R339 to R345) -/

/-- The codes of R339. -/
inductive Code where
  | illegalIndex | illegalBundle | undefinedOp | illegalFormat | regRange | queueOver | queueUnder | ownershipBreach
  | privilege | fetchFault | dataFault | engineFault | align | berthFault | planInvalid | tellerFault | memUe | memLost
  | segmentCheck | watchdog | queueDeadlock | codeGone | syscall | brk | preempt
deriving DecidableEq, Repr

/-- CODE of R339. -/
def Code.num : Code → Nat
  | .illegalIndex => 0x01 | .illegalBundle => 0x02 | .undefinedOp => 0x03 | .illegalFormat => 0x04 | .regRange => 0x05
  | .queueOver => 0x06 | .queueUnder => 0x07 | .ownershipBreach => 0x08 | .privilege => 0x09 | .fetchFault => 0x10
  | .dataFault => 0x11 | .engineFault => 0x12 | .align => 0x13 | .berthFault => 0x14 | .planInvalid => 0x15
  | .tellerFault => 0x16 | .memUe => 0x18 | .memLost => 0x19 | .segmentCheck => 0x1A | .watchdog => 0x1B
  | .queueDeadlock => 0x1C | .codeGone => 0x1D | .syscall => 0x1E | .brk => 0x1F | .preempt => 0x20

/-- Everything that a trap record holds (R341, R342). -/
structure TrapInfo where
  code : Code
  /-- Resume code pointer. -/
  tpc : Word64
  taddr : Word64 := 0
  detail : Nat := 0
  /-- The order of R78 for a decode fault, 0 between bundles. -/
  order : Nat := 0
  sfmask : Nat := 0
  forced : Bool := false
  /-- The canonical image of the bundle for faults at issue of orders 3 to 9. -/
  image : BitVec 384 := 0
  /-- The fault arose in the page walk or the permission checks (R344). -/
  pageable : Bool := false
deriving DecidableEq, Repr

/-- The TCAUSE image of a trap (R341). -/
def TrapInfo.cause (t : TrapInfo) : Word64 :=
  BitVec.ofNat 64 (bit t.forced * 2 ^ 63 + (t.detail % 256) * 2 ^ 48 + (t.order % 16) * 2 ^ 40 + t.code.num)

/-- A demand given up (R240): nothing of it stays, and the node that an LSTORE took for it is free again (R438). -/
def Berth.abandon (b : Berth) : Berth :=
  let b' := match b.demand with
    | some d => if d.why = 1 then { b with nodes := Map.erase b.nodes d.node } else b
    | none => b
  { b' with demand := none, forced := [], aliased := [] }

/-- Escalation (R345): both pipelines freeze, XESC records the level and the code, and ESCALATE is sent. -/
def State.escalate (s : State) (c : Nat) (code : Nat) : State :=
  let k := s.core c
  let s := s.setCore c { k with frozen := true, berth := k.berth.abandon }
  (s.ctlPut (Ctl.XESC c) (BitVec.ofNat 64 (2 ^ 63 + k.level * 256 + code))).msi 2 c

/-- The vector of a trap (R342, R344): TVEC at level 0, TVECEM for UNDEFINED-OP, TVEC2 above. -/
def Core.trapVector (k : Core) (code : Code) : Word64 :=
  if k.level ≠ 0 then k.csrGet Csr.TVEC2 else if code = .undefinedOp then k.csrGet Csr.TVECEM else k.csrGet Csr.TVEC

/-- The level-1 records of a trap (R341, R342). -/
def Core.trapRecords (k : Core) (t : TrapInfo) : Core :=
  let k := ((((k.csrPut Csr.TCAUSE t.cause).csrPut Csr.TPC t.tpc).csrPut Csr.TADDR t.taddr).csrPut Csr.SFMASK
    (BitVec.ofNat 64 t.sfmask)).csrPut Csr.TSKIP 0
  (List.range 6).foldl (fun k i => k.csrPut (Csr.TBND0 + i) (t.image.extractLsb' (64 * i) 64)) k

/-- A core that enters its tender at level 1 (R342): the records are written, the main pipeline stands at TPC, and what its
bundle had begun is given up; `wait` are the cycles until the tender's first bundle, which R437 leaves open. -/
def Core.enterTender (k : Core) (t : TrapInfo) (vec : Word64) (wait : Nat) : Core :=
  let k := k.trapRecords t
  { k with level := 1, entering := true, main := { k.main with pc := t.tpc }, tender := { pc := vec, hold := [] }, stall := wait,
           oldCode := [], skip := 0, enqWaits := false, enqFrames := 0, berth := k.berth.abandon }

/-- A core whose tender enters level 2 (R344), with the level-2 records and an empty hold state; that of level 1 is kept (R57). -/
def Core.enterLevel2 (k : Core) (t : TrapInfo) (vec : Word64) (wait : Nat) : Core :=
  let k := ((k.csrPut Csr.TCAUSE2 t.cause).csrPut Csr.TPC2 t.tpc).csrPut Csr.TADDR2 t.taddr
  { k with level := 2, lowHold := k.tender.hold, tender := { pc := vec, hold := [] }, stall := wait, oldCode := [] }

/-- A fault that a page-in can resolve (R344). -/
def TrapInfo.canPage (t : TrapInfo) : Bool := t.pageable && (t.code = .fetchFault || t.code = .dataFault)

/-- Taking an exception into the tender (R342 to R344): the one operation by which every fault and event enters it. At
level 0 the level-1 records are written and the tender starts at TVEC or TVECEM; at level 1 a fault that a page-in can
resolve uses the level-2 records and TVEC2; everything else, and a vector of 0, escalates. -/
def State.takeTrap (s : State) (c : Nat) (t : TrapInfo) : State :=
  let k := s.core c
  let vec := k.trapVector t.code
  if k.level = 0 && vec ≠ 0 then s.setCore c (k.enterTender t vec (s.freeVal 4090))
  else if k.level = 1 && vec ≠ 0 && t.canPage then s.setCore c (k.enterLevel2 t vec (s.freeVal 4090))
  else s.escalate c t.code.num

/-- The return of ERET (R347) from a level to the one below: from level 2 to TPC2 with the hold state that level 1 had (R57), from
level 1 to the main pipeline at TPC with the positions of TSKIP inactive in the resumed bundle, this once. -/
def Core.returnFrom (k : Core) : Core :=
  if k.level = 2 then { k with level := 1, tender := { pc := k.csrGet Csr.TPC2, hold := k.lowHold }, lowHold := [], oldCode := [] }
  else { k with level := 0, main := { k.main with pc := k.csrGet Csr.TPC },
                skip := (k.csrGet Csr.TSKIP).truncate 8, oldCode := [] }

/-- A write of an engine, a pass or a plan at the home slice: other agents' ownership of the words ends (R296, R297). -/
def State.engineWrite (s : State) (who : WriteBy) (a : Nat) (bs : List Byte) : State × WriteMet :=
  (s.endOwnedIn a bs.length).homeWrite who a bs

end Sys2Proof.Machine
end

