-- ==== Sys2Proof/Machine/Tensor.lean ====
section
/-! DEFINITION. Tensor descriptors: fields, checks, shards and the addresses of elements (R114 to R118, R153). -/

namespace Sys2Proof.Machine

open Sys2Proof

/-- One dimension of a descriptor (R114). -/
structure Dim where
  ext : Nat
  shard : Nat
  /-- Shard count, 1 when replicated. -/
  scnt : Nat
  tiled : Bool
  /-- Strided: the unit of the stride is 128 bytes; else one element. -/
  scale : Bool
  /-- Signed stride, in units or in whole tiles. -/
  stride : Int
  /-- Tile extent. -/
  text : Nat
deriving DecidableEq, Repr

/-- Dimension `d` of a descriptor image. -/
def dimOf (x : Desc) (d : Nat) : Dim :=
  let v := field x.toNat (128 + 64 * d) 64
  let tiled := bitAt v 31
  { ext := field v 40 24, shard := field v 38 2, scnt := field v 32 6 + 1, tiled := tiled, scale := bitAt v 30,
    stride := if tiled then signedOf 21 (field v 0 21) else signedOf 30 (field v 0 30),
    text := field v 21 10 + 1 }

def descRank (x : Desc) : Nat := field x.toNat 64 3
def descPlanes (x : Desc) : Bool := bitAt x.toNat 67
def descState (x : Desc) : Nat := field x.toNat 68 2
def descNode (x : Desc) : Nat := field x.toNat 70 8
def descGroup (x : Desc) : Nat := field x.toNat 78 4
def descSnd (x : Desc) : Nat := field x.toNat 82 24
def descPstr (x : Desc) : Nat := field x.toNat 106 22
def descFmtCode (x : Desc) : Nat := field x.toNat 57 6
def descFmt (x : Desc) : Fmt := (fmtOfCode (descFmtCode x)).getD .f64
/-- The base address, sign-extended from bit 56 (R114). -/
def descBase (x : Desc) : Int := signedOf 57 (field x.toNat 0 57)
def descDims (x : Desc) : List Dim := (List.range (descRank x)).map (dimOf x)

/-- The image with STATE and NODE replaced (R231, R241). -/
def descMark (x : Desc) (st node : Nat) : Desc := BitVec.ofNat 512 (setField (setField x.toNat 68 2 st) 70 8 node)

/-- Bits of one stored element: 1 with PLANES (R114). -/
def descBits (n : Fmtn) (x : Desc) : Nat := if descPlanes x then 1 else fmtWidth n (descFmt x)
/-- Planes of a descriptor: one without PLANES (R118). -/
def descPlaneCount (n : Fmtn) (x : Desc) : Nat := if descPlanes x then codeWidth n (descFmt x) else 1

/-- LGRP of group `g` (R159): whether this module is a member, the member count and this module's index. -/
def State.groupOf (s : State) (g : Nat) : Bool × Nat × Nat :=
  let v := (s.ctlGet (Ctl.LGRP g)).toNat
  (1 ≤ g && g ≤ 15 && bitAt v 63, field v 50 6 + 1, field v 44 6)

/-- The module number of member `i` of group `g` (R159). -/
def State.memberModule (s : State) (g i : Nat) : Nat :=
  let o := 64 * (g - 1) + i
  field (s.ctlGet (Ctl.LGMEM + o / 8 * 8)).toNat (8 * (o % 8)) 8

/-- The checks of R115 that raise DATA-FAULT, on a descriptor register's image and its pending mark. -/
def State.descBad (s : State) (x : Desc) (mark : Bool) : Bool :=
  let r := descRank x
  let dims := (List.range 6).map (dimOf x)
  let live := dims.take r
  let sharded := live.filter fun d => d.shard ≠ 0
  let grp := s.groupOf (descGroup x)
  let f := descFmtCode x
  bitAt x.toNat 63 || 2 ≤ descState x || fmtOfCode f = none
    || r = 0 || r = 7
    || (live.any fun d => d.ext = 0 || d.shard = 3 || (d.shard = 0 && d.scnt ≠ 1))
    || ((List.range 6).any fun d => r ≤ d && field x.toNat (128 + 64 * d) 64 ≠ 0)
    || (descGroup x ≠ 0 && sharded = []) || (descGroup x = 0 && sharded ≠ [])
    || (descGroup x ≠ 0 && (!grp.1 || (sharded.foldl (fun p d => p * d.scnt) 1) ≠ grp.2.1))
    || (descPlanes x && !(f = 7 || f = 11 || f = 12 || f = 13 || f = 14 || 16 ≤ f))
    || (!descPlanes x && descPstr x ≠ 0)
    || 2 ^ 24 < (live.filter (·.tiled)).foldl (fun p d => p * d.text) 1
    || (!mark && (descState x ≠ 0 || descNode x ≠ 0))

/-- The check of R115 that raises ALIGN. -/
def descMisaligned (n : Fmtn) (x : Desc) : Bool :=
  let a := if descPlanes x || (descDims x).any (·.tiled) then 128 else max 1 (fmtWidth n (descFmt x) / 8)
  field x.toNat 0 57 % a ≠ 0

/-- The digits of member index `m` over the sharded dimensions, the lowest-numbered one least significant (R116). -/
def shardDigits : List Dim → Nat → List Nat
  | [], _ => []
  | d :: ds, m => if d.shard = 0 then 0 :: shardDigits ds m else m % d.scnt :: shardDigits ds (m / d.scnt)

/-- The local extent of a dimension at digit `j` (R116). -/
def localExt (d : Dim) (j : Nat) : Nat :=
  match d.shard with
  | 0 => d.ext
  | 1 => let b := ceilDiv d.ext d.scnt
         min d.ext ((j + 1) * b) - min d.ext (j * b)
  | _ => if j < d.ext then ceilDiv (d.ext - j) d.scnt else 0

/-- The local extents of a descriptor on this module, dimension 0 first (R116). -/
def State.extents (s : State) (x : Desc) : List Nat :=
  let ds := descDims x
  let js := shardDigits ds (s.groupOf (descGroup x)).2.2
  (List.range ds.length).map fun i => localExt (ds.getD i (dimOf x 0)) (js.getD i 0)

/-- Bytes of one tile (R114). -/
def tileBytes (b : Nat) (ds : List Dim) : Nat :=
  ceilDiv ((ds.filter (·.tiled)).foldl (fun p d => p * d.text) 1 * b) 1024 * 128

/-- The bit offset of the element at local coordinates (R117): dimensions, coordinates, and the product of the tile
extents before them. -/
def bitOffset (b tb : Nat) : List Dim → List Nat → Nat → Int
  | d :: ds, x :: xs, inner =>
    if d.tiled then
      ((x % d.text * inner * b : Nat) : Int) + ((x / d.text : Nat) : Int) * d.stride * ((tb * 8 : Nat) : Int)
        + bitOffset b tb ds xs (inner * d.text)
    else (x : Int) * d.stride * ((if d.scale then 1024 else b : Nat) : Int) + bitOffset b tb ds xs inner
  | _, _, _ => 0

/-- The address, as a signed 64-bit value, and the bit within the byte of plane `k` of the element at `x` (R117, R118). -/
def elementAt (n : Fmtn) (x : Desc) (xs : List Nat) (k : Nat) : Int × Nat :=
  let b := descBits n x
  let ds := descDims x
  let o := bitOffset b (tileBytes b ds) ds xs 1
  (descBase x + (k * descPstr x * 4096 : Nat) + o / 8, (o % 8).toNat)

/-- The least and the greatest contribution of one dimension to the bit offset over an extent (R244). -/
def dimSpan (b tb : Nat) (d : Dim) (ext inner : Nat) : Int × Int :=
  let f (x : Nat) : Int := bitOffset b tb [d] [x] inner
  let last := ext - 1
  let xs := if d.tiled then [0, min (d.text - 1) last, last / d.text * d.text, last, last / d.text * d.text - 1] else [0, last]
  let vs := (xs.filter (· ≤ last)).map f
  (vs.foldl min (f 0), vs.foldl max (f 0))

/-- The spans of all dimensions summed. -/
def spanSum (b tb : Nat) : List Dim → List Nat → Nat → Int × Int
  | d :: ds, e :: es, inner =>
    let a := dimSpan b tb d e inner
    let r := spanSum b tb ds es (if d.tiled then inner * d.text else inner)
    (a.1 + r.1, a.2 + r.2)
  | _, _, _ => (0, 0)

/-- The byte range from the lowest to the highest address that a local extent covers, all planes included (R244); none for
an empty extent. -/
def descRangeOf (n : Fmtn) (x : Desc) (es : List Nat) : Option (Int × Int) :=
  if es.any (· = 0) then none
  else
    let b := descBits n x
    let ds := descDims x
    let sp := spanSum b (tileBytes b ds) ds es 1
    some (descBase x + sp.1 / 8,
      descBase x + ((descPlaneCount n x - 1) * descPstr x * 4096 : Nat) + (sp.2 + b - 1) / 8)
/-- The same over the descriptor's own local extent. -/
def State.descRange (s : State) (n : Fmtn) (x : Desc) : Option (Int × Int) := descRangeOf n x (s.extents x)

/-! ### Regions (R153) -/

/-- A region: start and count by dimension, dimension 0 first. -/
abbrev Region6 := List (Nat × Nat)

/-- The whole of an extent. -/
def wholeRegion (es : List Nat) : Region6 := es.map fun e => (0, e)

/-- The region of a 48-byte record for a tensor of a rank, and whether a word at or above the rank is not zero. -/
def recordRegion (rank : Nat) (bs : List Byte) : Region6 × Bool :=
  let w (i : Nat) : Nat := ofBytes ((bs.drop (4 * i)).take 4)
  ((List.range rank).map fun d => (w (2 * d), w (2 * d + 1)), (List.range 6).any fun d => rank ≤ d && (w (2 * d) ≠ 0 || w (2 * d + 1) ≠ 0))

/-- A region lies within local extents. -/
def regionIn (r : Region6) (es : List Nat) : Bool := (r.zip es).all fun p => p.1.1 + p.1.2 ≤ p.2

/-- The number of elements of a region. -/
def regionSize (r : Region6) : Nat := r.foldl (fun p d => p * d.2) 1

/-- The coordinates of element `i` of a region, in region order (R153). -/
def regionAt : Region6 → Nat → List Nat
  | [], _ => []
  | d :: ds, i => (d.1 + i % d.2) :: regionAt ds (i / d.2)

/-- The position of coordinates in region order over whole extents. -/
def regionIndex : List Nat → List Nat → Nat
  | e :: es, x :: xs => x + e * regionIndex es xs
  | _, _ => 0

/-! ### One element of memory -/

/-- What a read of one element finds: its code, and what the read met. -/
structure Elt where
  v : Nat := 0
  flags : Flags := 0
  /-- The value is poisoned (R362). -/
  bad : Bool := false
  /-- A POISON word was met (R304). -/
  lost : Bool := false
  /-- A row that a filter's result does not hold (R242). -/
  absent : Bool := false
  /-- Failures: node, KIND of R247, and address. -/
  fails : List (Nat × Nat × Nat) := []
  /-- The first poisoned piece, by physical and virtual address, and the virtual address of the first POISON word (R304, R364). -/
  ate : Option (Nat × Nat) := none
  lostAt : Option Nat := none
  /-- The virtual granules read, whose A bits the reads set (R108). -/
  pages : NatSet := []
deriving DecidableEq, Repr

/-- The bytes of one stored piece of an element: the physical address, or the failure of R150 and R247: 1 TRANSLATION,
2 NOHOME. -/
def State.elementPa (s : State) (c : Nat) (root : Word64) (kind : Access) (a : Int) : Except (Nat × Nat) Nat :=
  let va := wrap 64 a
  match s.translate c root false kind va with
  | .error _ => .error (1, va)
  | .ok pa => if s.homed pa then .ok pa else .error (2, va)

/-- The same for an address computed exactly: one outside the valid range of R107 fails as a translation (R117). -/
def State.exactPa (s : State) (c : Nat) (root : Word64) (kind : Access) (a : Int) : Except (Nat × Nat) Nat :=
  if -(2 ^ 56) ≤ a ∧ a < 2 ^ 56 then s.elementPa c root kind a else .error (1, wrap 64 a)

/-- An element read by pieces: each plane, or the whole element; `rd` reads bytes of memory. -/
def State.readElement (s : State) (c : Nat) (root : Word64) (n : Fmtn) (x : Desc) (xs : List Nat) (node : Nat)
    (rd : Nat → Nat → List Byte) : Elt :=
  let b := descBits n x
  (List.range (descPlaneCount n x)).foldl (fun (e : Elt) k =>
    let (a, bo) := elementAt n x xs k
    match s.exactPa c root .read a with
    | .error f => { e with fails := e.fails ++ [(node, f.1, f.2)] }
    | .ok pa =>
      let w := (b + 7) / 8
      let bad := s.poisoned pa w
      let lost := s.lostIn pa w
      { e with v := e.v + field (ofBytes (rd pa w)) bo b <<< (b * k), bad := e.bad || bad, lost := e.lost || lost,
               ate := e.ate.or (if bad then some (pa, wrap 64 a) else none), lostAt := e.lostAt.or (if lost then some (wrap 64 a) else none),
               pages := NatSet.insert e.pages (wrap 64 a / 65536) }) {}

/-- The A bits, or with `kind` a write the A and D bits, of the virtual granules `pages` set, and their translations held (R108, R110). -/
def State.touchPages (s : State) (c : Nat) (root : Word64) (kind : Access) (pages : NatSet) : State :=
  pages.foldl (fun s g => s.touch c root kind (65536 * g)) s

end Sys2Proof.Machine
end

