-- ==== Sys2Proof/Machine/Berth.lean ====
section
/-! DEFINITION. The berth table: references, source ranges, and the value of every element of a node, which is the canonical
evaluation that every plan is held to (R230 to R245, R262). -/

namespace Sys2Proof.Machine

open Sys2Proof

/-! ### Nodes, references and source ranges -/

/-- The node that a descriptor image names when it is PENDING (R114). -/
def pendingNode (d : Desc) : Option Nat := if descState d = 1 then some (descNode d) else none

/-- The descriptor images of a node's inputs; LSTORE, the unary operators and an unused input give one. -/
def BNode.inputs (nd : BNode) : List Desc := if nd.op = 0 || nd.op = 1 || nd.op = 5 || nd.op = 6 then [nd.a, nd.b] else [nd.a]

/-- The nodes that a node takes as inputs (R230). -/
def BNode.edges (nd : BNode) : List Nat := nd.inputs.filterMap pendingNode

/-- Node `n` has a reference: a descriptor register that names it or a live node's input (R231). -/
def Core.referenced (k : Core) (n : Nat) : Bool :=
  ((List.range 32).any fun i => pendingNode (vget 0 k.regs.d i) = some n)
    || k.berth.nodes.any fun e => n ∈ e.2.edges

/-- Frees nodes without a reference, and what that orphans in turn (R231); `fuel` bounds the chain by the table's size. -/
def Core.freeOrphans : Nat → Core → Core
  | 0, k => k
  | fuel + 1, k =>
    match k.berth.nodes.find? fun e => !k.referenced e.1 with
    | none => k
    | some e => Core.freeOrphans fuel { k with berth := { k.berth with nodes := Map.erase k.berth.nodes e.1 } }

/-- The lowest free node number (R230). -/
def Berth.freeNode (b : Berth) : Nat := ((List.range 256).find? fun n => (Map.find b.nodes n).isNone).getD 256

/-- Live nodes, lowest SEQ first. -/
def Berth.bySeq (b : Berth) : List (Nat × BNode) := b.nodes.mergeSort fun x y => x.2.seq ≤ y.2.seq

/-- The root with the lowest SEQ: a node that no live node takes as an input (R230, R243). -/
def Berth.firstRoot (b : Berth) : Option Nat :=
  (b.bySeq.find? fun e => !b.nodes.any fun m => e.1 ∈ m.2.edges).map (·.1)

/-- The source-range entries of a node: the ranges of its MATERIAL inputs (R244); an LSTORE's node has none (R438). -/
def State.sourceRanges (s : State) (nd : BNode) : List (Int × Int) :=
  if nd.op = 10 then []
  else (nd.inputs.filter fun d => pendingNode d = none).filterMap (s.descRange (fmtnOf nd.fmtn))

/-- The number of source-range entries in use (R234). -/
def Berth.sourceUse (b : Berth) : Nat :=
  (b.nodes.map fun e => if e.2.op = 10 then 0 else (e.2.inputs.filter fun d => pendingNode d = none).length).sum

/-- The nodes, lowest SEQ first, that hold an entry intersecting one of the byte ranges `rs` (first, last) (R245). -/
def State.aliasNodes (s : State) (b : Berth) (rs : List (Int × Int)) : List Nat :=
  (b.bySeq.filter fun e => (s.sourceRanges e.2).any fun r => rs.any fun t => r.1 ≤ t.2 && t.1 ≤ r.2).map (·.1)

/-! ### The value of one element of a node -/

/-- What several elements have met together, with a value and its own flags. -/
def Elt.of (es : List Elt) (v : Nat) (fl : Flags) : Elt :=
  { v := v, flags := es.foldl (fun f e => f ||| e.flags) fl, bad := es.any (·.bad), lost := es.any (·.lost),
    absent := es.any (·.absent), fails := es.flatMap (·.fails), ate := es.findSome? (·.ate), lostAt := es.findSome? (·.lostAt),
    pages := es.foldl (fun m e => e.pages.foldl NatSet.insert m) [] }

/-- A contraction over pairs of elements of pass format `f` (R238): the accumulator. Terms that a filter's result does not
hold are no terms, and with no term nothing is computed (R242). -/
def mulElt (n : Fmtn) (f : Fmt) (ps : List (Elt × Elt)) : Elt :=
  let live := ps.filter fun p => !p.1.absent && !p.2.absent
  let acc0 : Nat := match accFmt f with | .f64 => 2 ^ 63 | .f32 => 2 ^ 31 | _ => 0
  let (v, fl) := contractAll n f (passDepth n f) live.length (acc0, 0) (live.map fun p => (p.1.v, p.2.v))
  { Elt.of (live.flatMap fun p => [p.1, p.2]) v fl with absent := live = [], fails := ps.flatMap fun p => p.1.fails ++ p.2.fails,
                                                                    pages := (Elt.of (ps.flatMap fun p => [p.1, p.2]) 0 0).pages }

/-- RELU: max(a, +0) under R95. -/
def reluVal (v : Val) : Val × Flags :=
  match v with
  | .nan s => (Val.zero, flagIf s flagNV)
  | .inf neg => (if neg then Val.zero else v, 0)
  | .fin neg m _ => (if neg || m = 0 then Val.zero else v, 0)

/-- LMAP's function of a floating value, before rounding (R237). -/
def mapFloat (n : Fmtn) (f : Fmt) (fn : Nat) (p : Word64) (x : Nat) : Exactly :=
  let v := valueOf n f x
  let c := valueOf n .f32 (field p.toNat 0 32)
  let ofVal (v : Val) (fl : Flags) : Exactly := match v with
    | .nan s => .nan (fl ||| flagIf s flagNV)
    | .inf neg => .inf neg fl
    | .fin neg m e => .fin ⟨neg, m, e, false⟩
  match fn with
  | 0 => ofVal (reluVal v).1 0
  | 1 => ofVal v.abs 0
  | 2 => ofVal v.neg 0
  | 3 => elementaryExact n 0 f x
  | 4 => elementaryExact n 1 f x
  | 5 => elementaryExact n 2 f x
  | 6 => elementaryExact n 3 f x
  | 7 => let k := field p.toNat 0 8
         if k = 255 then .nan flagNV
         else match v with
           | .fin neg m e => .fin ⟨neg, m, e + k - 127, false⟩
           | v => ofVal v 0
  | 8 => blockSum [v, c]
  | _ => mulExact v c

/-- The flag of RELU's maximum: NV on a signalling NaN (R95). -/
def mapFlags (n : Fmtn) (f : Fmt) (fn x : Nat) : Flags :=
  if fn = 0 then (reluVal (valueOf n f x)).2 else 0

/-- LMAP's function of an integer where its result is an exact integer (R237). -/
def mapInt (fn : Nat) (p : Word64) (a : Int) : Int :=
  let c := signedOf 32 p.toNat
  match fn with
  | 0 => max a 0
  | 1 => a.natAbs
  | 2 => -a
  | 8 => a + c
  | _ => a * c

/-- SCALE of an integer where its result is an exact integer (R237). -/
def scaleInt (p : Word64) (a : Int) : Option Int :=
  let k := field p.toNat 0 8
  if k = 255 then none
  else if 127 ≤ k then some (a * (2 ^ (k - 127) : Nat))
  else if a % (2 ^ (127 - k) : Nat) = 0 then some (a / (2 ^ (127 - k) : Nat)) else none

/-- An input element's index value, signed for FMT 4 and 5 (R237). -/
def indexOf (d : Desc) (e : Elt) : Int := intVal (fmtnOf 5) (descFmt d) e.v

/-- Coordinates with the last one (the row) replaced. -/
def withRow (x : List Nat) (r : Nat) : List Nat := x.dropLast ++ [r]
/-- The row of coordinates. -/
def rowOf (x : List Nat) : Nat := x.getLastD 0

/-- Sum(r) COND T of R242: `c` is COND, `t` the threshold's 32 bits. -/
def filterKeeps (n : Fmtn) (f : Fmt) (c t : Nat) (row : List Elt) : Bool × Flags :=
  let cond : Cond := match c with | 0 => .eq | 1 => .ne | 2 => .lt | 3 => .le | 4 => .gt | _ => .ge
  if fmtIsInt f then (condInt cond (row.foldl (fun (s : Int) e => s + intVal n f e.v) 0) (signedOf 32 t), 0)
  else
    let (v, fl) := Exactly.toVal (blockSum (row.map fun e => valueOf n f e.v))
    let (b, fl2) := condVal cond v (valueOf n .f32 t)
    (b, fl ||| fl2)

/-- The rows of A that an LFILT keeps, in ascending order, and what their reading met (R242). -/
def keptRows (nd : BNode) (es : List Nat) (inp : Nat → List Nat → Elt) : List Nat × Elt :=
  let n := fmtnOf nd.fmtn
  let cols := wholeRegion es.dropLast
  (List.range (es.getLastD 0)).foldl (fun (st : List Nat × Elt) r =>
    let row := (List.range (regionSize cols)).map fun i => inp 0 (regionAt cols i ++ [r])
    if row.any (·.absent) then st
    else
      let (b, fl) := filterKeeps n (descFmt nd.a) (field nd.param.toNat 0 3) (field nd.param.toNat 32 32) row
      (if b then st.1 ++ [r] else st.1, { Elt.of (st.2 :: row) 0 fl with absent := false })) ([], {})

/-- The permutation of LXPOSE (R237). -/
def permOf (p : Word64) (d : Nat) : Nat := field p.toNat (3 * d) 3

/-- The element of a node at local coordinates `x` of its result, rounded into its destination's format (R236 to R238,
R242, R262); `inp i y` gives input i at y, and `old` the destination's old element (LSCAT). -/
def State.nodeElt (s : State) (num : Nat) (nd : BNode) (inp : Nat → List Nat → Elt) (old : List Nat → Elt) (x : List Nat) : Elt :=
  let n := fmtnOf nd.fmtn
  let fa := descFmt nd.a
  let fb := descFmt nd.b
  let fd := descFmt nd.dst
  let ea := s.extents nd.a
  let sd : Seed := ⟨nd.seed.toNat, 0, regionIndex (s.extents nd.dst) x⟩
  let put (es : List Elt) (ints : Bool) (r : Exactly) : Elt :=
    let (v, fl) := deliver n fd nd.sub ints sd r
    Elt.of es v fl
  let putInt (es : List Elt) (i : Int) : Elt := put es true (.fin ⟨i < 0, i.natAbs, 0, false⟩)
  let putVal (f : Fmt) (e : Elt) : Elt :=
    let (v, fl) := convert n fd nd.sub false (fmtIsInt f) sd (valueOf n f e.v)
    Elt.of [e] v fl
  match nd.op with
  | 0 =>
    let kk := ea.headD 0
    let acc := mulElt n fa ((List.range kk).map fun k =>
      (inp 0 (k :: x.getD 1 0 :: x.drop 2), inp 1 (x.getD 0 0 :: k :: x.drop 2)))
    putVal (accFmt fa) acc
  | 1 =>
    let a := inp 0 x
    let b := inp 1 x
    if fmtIsInt fa && fmtIsInt fb then putInt [a, b] (intVal n fa a.v + intVal n fb b.v)
    else put [a, b] false (blockSum [valueOf n fa a.v, valueOf n fb b.v])
  | 2 =>
    let a := inp 0 x
    let fn := field nd.param.toNat 56 8
    let float : Elt :=
      let e := put [a] false (mapFloat n fa fn nd.param a.v)
      { e with flags := e.flags ||| mapFlags n fa fn a.v }
    if fmtIsInt fa && fn = 7 then ((scaleInt nd.param (intVal n fa a.v)).map (putInt [a])).getD float
    else if fmtIsInt fa then putInt [a] (mapInt fn nd.param (intVal n fa a.v))
    else float
  | 3 =>
    let (kept, met) := keptRows nd ea inp
    match kept[rowOf x]? with
    | none => { met with absent := true }
    | some r => let e := putVal fa (inp 0 (withRow x r))
                Elt.of [e, met] e.v 0
  | 4 =>
    let p := nd.param.toNat
    let red (d : Nat) : Bool := bitAt p 3 || d = p % 8
    let reg : Region6 := (List.range ea.length).map fun d => if red d then (0, ea.getD d 0) else (x.getD d 0, 1)
    let all := (List.range (regionSize reg)).map fun i => inp 0 (regionAt reg i)
    let es := all.filter fun e => !e.absent
    if es = [] then { Elt.of all 0 0 with absent := true }
    else
      let met := Elt.of es 0 0
      match field p 4 2 with
      | 0 => if fmtIsInt fa then putInt es (es.foldl (fun (t : Int) e => t + intVal n fa e.v) 0)
             else put es false (blockSum (es.map fun e => valueOf n fa e.v))
      | o =>
        let e0 := es.headD {}
        if fmtIsInt fa then
          putInt es ((es.drop 1).foldl (fun (t : Int) e => if o = 2 then max t (intVal n fa e.v) else min t (intVal n fa e.v)) (intVal n fa e0.v))
        else
          let (v, fl) := (es.drop 1).foldl (fun (t : Nat × Flags) e =>
            let (m, g) := minMaxFloat n fa (o = 2) t.1 e.v
            (m, t.2 ||| g)) (e0.v, 0)
          putVal fa { met with v := v, flags := met.flags ||| fl }
  | 5 =>
    let ix := inp 1 [rowOf x]
    if ix.absent then { ix with v := 0 }
    else
      let i := indexOf nd.b ix
      let bad : Elt := { ix with fails := ix.fails ++ [(num, 3, 0)] }
      if i < 0 || (ea.getLastD 0 : Int) ≤ i then bad
      else
        let a := inp 0 (withRow x i.toNat)
        if a.absent then bad
        else let e := putVal fa a
             Elt.of [e, ix] e.v 0
  | 6 =>
    let rows := s.extents nd.dst |>.getLastD 0
    let look := (List.range (ea.getLastD 0)).map fun r => (r, inp 1 [r], inp 0 (withRow x r))
    let live := look.filter fun t => !t.2.1.absent && !t.2.2.absent
    let out := live.any fun t => indexOf nd.b t.2.1 < 0 || (rows : Int) ≤ indexOf nd.b t.2.1
    let met := Elt.of (live.map (·.2.1)) 0 0
    let met : Elt := if out then { met with fails := met.fails ++ [(num, 3, 0)] } else met
    let e := match (live.filter fun t => indexOf nd.b t.2.1 = rowOf x).getLast? with
      | some t => putVal fa t.2.2
      | none => putVal fd (old x)
    Elt.of [e, met] e.v 0
  | 8 =>
    let y := (List.range x.length).map fun e =>
      x.getD (((List.range x.length).find? fun d => permOf nd.param d = e).getD 0) 0
    putVal fa (inp 0 y)
  | 9 => putVal fa (inp 0 ((List.range x.length).map fun d => x.getD d 0 + field ((nd.maps.getD d 0).toNat) 0 24))
  | _ => putVal fa (inp 0 x)

/-! ### Chains and their bracketing (R255, R265) -/

/-- The operand at the right end, which gives a product's columns. -/
def Br.last : Br → Nat × Nat
  | .leaf n i => (n, i)
  | .mul _ _ r => r.last
/-- The operand at the left end, which gives a product's rows. -/
def Br.first : Br → Nat × Nat
  | .leaf n i => (n, i)
  | .mul _ l _ => l.first

/-- The element at column `j`, row `i`, batch `b` of a bracketed product: `leaf` reads operands, `size` gives an operand's
extents, `round` rounds a contraction of a node into the pass format. -/
def Br.elt (n : Fmtn) (f : Fmt) (leaf : Nat → Nat → List Nat → Elt) (size : Nat × Nat → List Nat)
    (round : Nat → List Nat → List Nat → Elt → Elt) : Br → Nat → Nat → List Nat → Elt
  | .leaf nd inp, j, i, b => leaf nd inp (j :: i :: b)
  | .mul nd l r, j, i, b =>
    let kk := (size l.last).headD 0
    let es := (size r.last).headD 0 :: (size l.first).getD 1 0 :: (size r.last).drop 2
    round nd es (j :: i :: b) (mulElt n f ((List.range kk).map fun k =>
      (l.elt n f leaf size round k i b, r.elt n f leaf size round j k b)))

/-- What a plan's evaluation draws on: the core, its VMROOT, the free choice of other owners' words, and the bracketings of
the chains by their last node. -/
structure Plan where
  c : Nat
  root : Word64
  pick : Nat
  brk : List (Nat × Br) := []

/-- Bytes as a plan of core `c` reads them at the home slice: the core's own stores are included (R245, R246), another
owner's value is or is not (R297). -/
def State.planBytes (s : State) (p : Plan) (a n : Nat) : List Byte :=
  (List.range n).map fun i =>
    match Map.find s.owned ((a + i) / 4) with
    | some x => if x.owner = p.c || p.pick % 2 = 1 then s.coreByte (a + i) else s.byte (a + i)
    | none => s.byte (a + i)

/-- The element of node `num` at `x`; `fuel` exceeds the depth of the graph of live nodes. -/
def State.valueAt (s : State) (p : Plan) (nodes : Map BNode) : Nat → Nat → List Nat → Elt
  | 0, _, _ => {}
  | fuel + 1, num, x =>
    match Map.find nodes num with
    | none => {}
    | some nd =>
      let input (m : Nat) (md : BNode) (i : Nat) (y : List Nat) : Elt :=
        let d := if i = 0 then md.a else md.b
        match pendingNode d with
        | some e => s.valueAt p nodes fuel e y
        | none => s.readElement p.c p.root (fmtnOf md.fmtn) d y m (s.planBytes p)
      match p.brk.find? fun e => e.1 = num with
      | some (_, .mul _ l r) =>
        let n := fmtnOf nd.fmtn
        let f := descFmt nd.a
        let leaf (m i : Nat) (y : List Nat) : Elt := match Map.find nodes m with | some md => input m md i y | none => {}
        let size (o : Nat × Nat) : List Nat := match Map.find nodes o.1 with
          | some md => s.extents (if o.2 = 0 then md.a else md.b) | none => []
        let round (m : Nat) (es y : List Nat) (e : Elt) : Elt := match Map.find nodes m with
          | some md => let (v, fl) := convert n f md.sub false (fmtIsInt f) ⟨md.seed.toNat, 0, regionIndex es y⟩ (valueOf n (accFmt f) e.v)
                       Elt.of [e] v fl
          | none => e
        let kk := (size l.last).headD 0
        let b := x.drop 2
        let acc := mulElt n f ((List.range kk).map fun k =>
          (l.elt n f leaf size round k (x.getD 1 0) b, r.elt n f leaf size round (x.getD 0 0) k b))
        let (v, fl) := convert n (descFmt nd.dst) nd.sub false (fmtIsInt f) ⟨nd.seed.toNat, 0, regionIndex (s.extents nd.dst) x⟩
          (valueOf n (accFmt f) acc.v)
        Elt.of [acc] v fl
      | _ => s.nodeElt num nd (input num nd)
               (fun y => s.readElement p.c p.root (fmtnOf nd.fmtn) nd.dst y num (s.planBytes p)) x

/-- Input `i` of node `num` at `y`. -/
def State.inputAt (s : State) (p : Plan) (nodes : Map BNode) (num : Nat) (nd : BNode) (i : Nat) (y : List Nat) : Elt :=
  let d := if i = 0 then nd.a else nd.b
  match pendingNode d with
  | some e => s.valueAt p nodes 257 e y
  | none => s.readElement p.c p.root (fmtnOf nd.fmtn) d y num (s.planBytes p)

/-- The nodes that a demand of node `num` reaches (R239). -/
def reachNodes (nodes : Map BNode) : Nat → NatSet → List Nat → NatSet
  | 0, acc, _ => acc
  | fuel + 1, acc, front =>
    if front = [] then acc
    else
      let acc := front.foldl NatSet.insert acc
      let next := front.flatMap fun m => ((Map.find nodes m).map BNode.edges).getD []
      reachNodes nodes fuel acc (next.filter fun m => m ∉ acc)

/-- A pipeline break (R242). -/
def BNode.isBreak (nd : BNode) : Bool := nd.op = 3 || (nd.op = 4 && bitAt nd.param.toNat 3) || nd.lateIndex

end Sys2Proof.Machine
end

