-- ==== Sys2Proof/Machine/Operands.lean ====
section
/-! DEFINITION. What each operand form and computation of the S slot gives, on values alone (R186 to R200). -/

namespace Sys2Proof.Machine

/-- The shift count of R188: the low six bits. -/
def shiftCount (b : Word64) : Nat := b.toNat % 64

/-- The integer operations of the S slot that take two scalars (R188). -/
inductive IntOp where
  | add | sub | and | or | xor | shl | shrl | shra | min | max | minn | maxn
  | mul | mulh | mulhn | divs | divn | rems | remn
deriving DecidableEq, Repr

/-- The result of an integer operation (R188, R189). -/
def intOp (o : IntOp) (a b : Word64) : Word64 :=
  match o with
  | .add => a + b
  | .sub => a - b
  | .and => a &&& b
  | .or => a ||| b
  | .xor => a ^^^ b
  | .shl => a <<< shiftCount b
  | .shrl => a >>> shiftCount b
  | .shra => a.sshiftRight (shiftCount b)
  | .min => if a.toInt ≤ b.toInt then a else b
  | .max => if a.toInt ≤ b.toInt then b else a
  | .minn => if a.toNat ≤ b.toNat then a else b
  | .maxn => if a.toNat ≤ b.toNat then b else a
  | .mul => a * b
  | .mulh => BitVec.ofInt 64 ((a.toInt * b.toInt) / (2 ^ 64 : Nat))
  | .mulhn => BitVec.ofNat 64 ((a.toNat * b.toNat) / 2 ^ 64)
  | .divs => if b = 0 then -1 else BitVec.ofInt 64 (Int.tdiv a.toInt b.toInt)
  | .divn => if b = 0 then -1 else BitVec.ofNat 64 (a.toNat / b.toNat)
  | .rems => if b = 0 then a else BitVec.ofInt 64 (Int.tmod a.toInt b.toInt)
  | .remn => if b = 0 then a else BitVec.ofNat 64 (a.toNat % b.toNat)

/-- The latency bound of an integer operation (R70). -/
def intBound : IntOp → Nat
  | .mul | .mulh | .mulhn => 3
  | .divs | .divn | .rems | .remn => 20
  | _ => 1

/-- The number of leading zeros (R190). -/
def clz64 (a : Word64) : Word64 := BitVec.ofNat 64 (64 - bitLen a.toNat)

/-- The number of ones among the low `n` bits. -/
def onesBelow (x : Nat) : Nat → Nat
  | 0 => 0
  | n + 1 => bit (x.testBit n) + onesBelow x n

/-- The number of ones (R190). -/
def popc64 (a : Word64) : Word64 := BitVec.ofNat 64 (onesBelow a.toNat 64)

/-- The number of trailing zeros, 64 for zero (R190): the ones below the lowest set bit. -/
def ctz64 (a : Word64) : Word64 := popc64 (~~~a &&& (a - 1))

/-- SEXT: bits above bit k replaced by copies of bit k (R190). -/
def sext (a : Word64) (k : Nat) : Word64 := BitVec.ofInt 64 (signedOf (k + 1) a.toNat)

/-- ZEXT: bits above bit k cleared (R190). -/
def zext (a : Word64) (k : Nat) : Word64 := BitVec.ofNat 64 (field a.toNat 0 (k + 1))

/-- IMM17 sign-extended (R191, R192). -/
def imm17 (i : BitVec 17) : Word64 := i.signExtend 64

/-- LIMMH: chunk c of the destination replaced (R192). -/
def limmh (x : Word64) (c : BitVec 2) (v : BitVec 16) : Word64 :=
  BitVec.ofNat 64 (setField x.toNat (16 * c.toNat) 16 v.toNat)

/-- The integer compare of CMP (R193). -/
def cmp64 (nat : Bool) (c : Cond) (a b : Word64) : Bool :=
  if nat then condInt c a.toNat b.toNat else condInt c a.toInt b.toInt

/-- An extension of a loaded value of `n` bytes (R133). -/
def extendLoad (n : Nat) (signed : Bool) (x : Nat) : Word64 :=
  if signed then BitVec.ofInt 64 (signedOf (8 * n) x) else BitVec.ofNat 64 (x % 2 ^ (8 * n))

/-! ### Scalar floating point -/

/-- The formats' FMTN has no part in the S slot; the reset image stands in. -/
def fmtn0 : Fmtn := fmtnOf 0x5

/-- The operand of a float S instruction: f32 is read from bits 31:0 (R186). -/
def floatArg (f : Fmt) (a : Word64) : Val := valueOf fmtn0 f a.toNat

/-- The stochastic-rounding draw of the S slot: seed s59, lane 0, index 0 (R92, R196). -/
def seed0 (s59 : Word64) : Seed := ⟨s59.toNat, 0, 0⟩

/-- The float operations of the S slot that round (R196, R197). -/
inductive FloatOp where
  | add | sub | mul | fma | div | sqrt
deriving DecidableEq, Repr

/-- The exact result of a float operation, before rounding. -/
def floatExact (o : FloatOp) (mode : RM) (a b d : Val) : Exactly :=
  match o with
  | .add => addExact mode a b
  | .sub => addExact mode a b.neg
  | .mul => mulExact a b
  | .fma => fmaExact mode a b d
  | .div => divExact a b
  | .sqrt => sqrtExact a

/-- The result and flags of a float operation of the S slot (R196, R197). -/
def floatOp (o : FloatOp) (f : Fmt) (mode : RM) (s59 a b d : Word64) : Word64 × Flags :=
  let r := finish f mode false (seed0 s59) (floatExact o mode (floatArg f a) (floatArg f b) (floatArg f d))
  (BitVec.ofNat 64 r.1, r.2)

/-- FMIN and FMAX (R198). -/
def floatMinMax (mx : Bool) (f : Fmt) (a b : Word64) : Word64 × Flags :=
  let w := fmtWidth fmtn0 f
  let r := minMaxFloat fmtn0 f mx (field a.toNat 0 w) (field b.toNat 0 w)
  (BitVec.ofNat 64 r.1, r.2)

/-- FCMP (R199). -/
def floatCmp (c : Cond) (f : Fmt) (a b : Word64) : Bool × Flags :=
  condVal c (floatArg f a) (floatArg f b)

/-- FCVT: the value of the source format converted; int32 results are sign-extended (R200). -/
def floatConvert (f src : Fmt) (mode : RM) (s59 a : Word64) : Word64 × Flags :=
  let r := convert fmtn0 f mode false (fmtIsInt src) (seed0 s59) (valueOf fmtn0 src a.toNat)
  (if f = .int32 then BitVec.ofInt 64 (signedOf 32 r.1) else BitVec.ofNat 64 r.1, r.2)

end Sys2Proof.Machine
end

