-- ==== Sys2Proof/Machine/Planner.lean ====
section
/-! DEFINITION. The Pilot: soundings, plan keys, the choice of operators, the plan cache, and a demand from its start to its
completion (R239 to R247, R248 to R263). -/

namespace Sys2Proof.Machine

open Sys2Proof

/-! ### Soundings (R248 to R251) -/

/-- What the Pilot reads of a sounding. -/
structure Sounding where
  version : Word64
  density : Nat
  finite : Bool
deriving DecidableEq, Repr

/-- The virtual address of sounding entry `n` of a core (R248). -/
def Core.soundingVa (k : Core) (n : Nat) : Nat :=
  addAddr (256 * n) (signedOf 57 (field (k.csrGet Csr.SNDBASE).toNat 0 57))

/-- The 8 bytes at a virtual address on the CORE path; none where the read fails. -/
def State.coreDouble (s : State) (c va pick : Nat) : Option Nat :=
  match s.translate c ((s.core c).csrGet Csr.VMROOT) false .read va with
  | .error _ => none
  | .ok pa => if s.homed pa then some (ofBytes (s.coreRead c pa 8 pick)) else none

/-- Sounding `n`; none when it counts as absent (R251). -/
def State.sounding (s : State) (c n pick : Nat) : Option Sounding :=
  if n = 0 then none
  else
    let va := (s.core c).soundingVa n
    match s.coreDouble c va pick, s.coreDouble c (addr va 8) pick, s.coreDouble c (addr va 16) pick with
    | some v, some d, some f =>
      if bitAt f 0 then some { version := BitVec.ofNat 64 v, density := field d 0 32, finite := bitAt f 1 } else none
    | _, _, _ => none

/-- The sounding entries numbered `ns`, each as one planning reads it (R251). -/
def State.soundings (s : State) (c : Nat) (ns : List Nat) (pick : Nat) : List (Nat × Option Sounding) := ns.map fun n => (n, s.sounding c n pick)

/-- What the reading of those entries leaves: translations held, A bits set, and the reads in the CORE order (R108, R251, R292). -/
def State.soundingsLook (s : State) (c : Nat) (ns : List Nat) (pick : Nat) : State :=
  let root := (s.core c).csrGet Csr.VMROOT
  (ns.filter (· ≠ 0)).foldl (fun s n => [0, 8, 16].foldl (fun s o =>
    let va := addr ((s.core c).soundingVa n) o
    match s.translate c root false .read va with
    | .error _ => s
    | .ok pa => if s.homed pa then (s.touch c root .read va).coreLook c pa 8 pick else s) s) s

/-- The DENSITY of entry `n` among those read; an absent one reads as 2^24 (R251). -/
def densityIn (tab : List (Nat × Option Sounding)) (n : Nat) : Nat :=
  (((tab.find? fun e => e.1 = n).bind (·.2)).map (·.density)).getD (2 ^ 24)
/-- FINITE of entry `n`; an absent one reads as 0. -/
def finiteIn (tab : List (Nat × Option Sounding)) (n : Nat) : Bool :=
  (((tab.find? fun e => e.1 = n).bind (·.2)).map (·.finite)).getD false

/-! ### Keys (R252) -/

/-- A descriptor image without its BASE. -/
def noBase (d : Desc) : Nat := setField d.toNat 0 57 0

/-- An input's image without its BASE, an edge named by the position of the node it leads to. -/
def keyDesc (order : List Nat) (d : Desc) : Nat :=
  match pendingNode d with
  | some n => setField (noBase d) 70 8 (order.idxOf n)
  | none => noBase d

/-- The key of a demand: nodes reached in ascending SEQ, the region, and the settings (R252). -/
def Core.planKey (k : Core) (reached : List (Nat × BNode)) (reg : Region6) (phword : Word64) : List Nat :=
  let order := reached.map (·.1)
  (reached.flatMap fun e =>
    let nd := e.2
    [nd.op, codeOfFmt (descFmt nd.dst), nd.fmt, nd.param.toNat, noBase nd.dst, keyDesc order nd.a,
     if nd.inputs.length = 2 then keyDesc order nd.b else 0, nd.seed.toNat, nd.fmtn,
     match nd.sub with | .rne => 0 | .rtz => 1 | .rdn => 2 | .rup => 3 | .sr => 4]
      ++ nd.maps.map BitVec.toNat)
    ++ reg.flatMap (fun r => [r.1, r.2])
    ++ [phword.toNat, (k.csrGet Csr.PCOST).toNat, (k.csrGet Csr.REPLAN).toNat, k.qallot, k.spSize,
        field (k.csrGet Csr.PLANWIN).toNat 23 9]

/-! ### The choice of operators (R254, R255) -/

/-- The physical operator of an LMUL: 1 dense, 2 sparse-row, 3 sparse-block, 4 bit-plane (R254). -/
def chooseOp (pcost phword : Word64) (nd : BNode) (d : Nat) : Nat :=
  let plane := accFmt (descFmt nd.a) = .int32 && descPlanes nd.a
  let opf := field phword.toNat 1 3
  if 1 ≤ opf && opf ≤ 4 && (opf ≠ 4 || plane) then opf
  else if plane then 4
  else if d < field pcost.toNat 0 16 * 256 then 2
  else if d < field pcost.toNat 16 16 * 256 then 3
  else 1

/-- The access path of an input: 0 row stream, 1 tiled, 2 gathered (R254). -/
def pathOf (op : Nat) (isA : Bool) (d : Desc) : Nat :=
  if isA && op = 2 then 2 else if (descDims d).any (·.tiled) then 1 else 0

/-- The node that is the only consumer of node `n`, if there is exactly one. -/
def soleConsumer (reached : List (Nat × BNode)) (n : Nat) : Option Nat :=
  match reached.filter fun e => n ∈ e.2.edges with
  | [e] => if (e.2.edges.filter (· = n)).length = 1 then some e.1 else none
  | _ => none

/-- The input of LMUL node `m` through which a chain comes, and the node that it comes from (R255): a node of the same pass format whose
result is an input of `m` and of no other node. Where both inputs come from such nodes, the chain comes through input A, and that of
input B ends where it is (log 64). -/
def chainSide (all : Map BNode) (reached : List (Nat × BNode)) (m : Nat) : Option (Nat × Nat) :=
  (Map.find all m).bind fun md =>
    let side (i : Nat) : Option (Nat × Nat) := (pendingNode (if i = 0 then md.a else md.b)).bind fun n =>
      match Map.find all n with
      | some nd => if nd.op = 0 && descFmt nd.a = descFmt md.a && soleConsumer reached n = some m then some (i, n) else none
      | none => none
    if md.op = 0 then (side 0).or (side 1) else none

/-- The operands of the chain that ends in node `m`, left to right, and the nodes of the signs between them. -/
def chainParts (all : Map BNode) (reached : List (Nat × BNode)) : Nat → Nat → List (Nat × Nat) × List Nat
  | 0, m => ([(m, 0), (m, 1)], [m])
  | fuel + 1, m =>
    match chainSide all reached m with
    | some (0, n) => let l := chainParts all reached fuel n
                     (l.1 ++ [(m, 1)], l.2 ++ [m])
    | some (_, n) => let r := chainParts all reached fuel n
                     ((m, 0) :: r.1, m :: r.2)
    | none => ([(m, 0), (m, 1)], [m])

/-- The least cost of a product of operands (rows, columns, density of the left factor in units of 2^-24) and its
bracketing, the first split furthest left among equals (R255). -/
def bestBracket : Nat → List (Nat × Nat) → List (Nat × Nat × Nat) → List Nat → Nat × Br
  | 0, _, _, _ => (0, .leaf 0 0)
  | fuel + 1, ops, dims, signs =>
    match ops, signs with
    | [o], _ => (0, .leaf o.1 o.2)
    | _, _ =>
      let cands := (List.range (ops.length - 1)).map fun i =>
        let l := bestBracket fuel (ops.take (i + 1)) (dims.take (i + 1)) (signs.take i)
        let r := bestBracket fuel (ops.drop (i + 1)) (dims.drop (i + 1)) (signs.drop (i + 1))
        let m := (dims.headD (0, 0, 0)).1
        let k := (dims.getD i (0, 0, 0)).2.1
        let n := (dims.getLastD (0, 0, 0)).2.1
        let d := if i = 0 then (dims.headD (0, 0, 0)).2.2 else 2 ^ 24
        (l.1 + r.1 + m * n * k * d, Br.mul (signs.getD i 0) l.2 r.2)
      cands.foldl (fun (b : Nat × Br) c => if c.1 < b.1 then c else b) (cands.headD (0, .leaf 0 0))

/-- The signs of a bracketing in the order of their contraction, inner ones and left ones first. -/
def Br.order : Br → List Nat
  | .leaf _ _ => []
  | .mul n l r => l.order ++ r.order ++ [n]

/-- The operands of a bracketing. -/
def Br.leaves : Br → List (Nat × Nat)
  | .leaf n i => [(n, i)]
  | .mul _ l r => l.leaves ++ r.leaves
/-- A bracketing with its nodes renamed. -/
def Br.rename (f : Nat → Nat) : Br → Br
  | .leaf n i => .leaf (f n) i
  | .mul n l r => .mul (f n) (l.rename f) (r.rename f)

/-- The input descriptor that operand (node, input) names. -/
def operandDesc (all : Map BNode) (o : Nat × Nat) : Desc :=
  ((Map.find all o.1).map fun md => if o.2 = 0 then md.a else md.b).getD 0

/-- The density of an input (R254, R255): that of its sounding; of a pipeline break's result, what was observed of it, else that of its
destination's sounding; 1 for any other intermediate result. -/
def inputDensity (all : Map BNode) (seen : List (Nat × Nat)) (tab : List (Nat × Option Sounding)) (d : Desc) : Nat :=
  match pendingNode d with
  | none => densityIn tab (descSnd d)
  | some m => match Map.find all m with
    | some md => if md.isBreak then ((seen.find? fun e => e.1 = m).map (·.2)).getD (densityIn tab (descSnd md.dst)) else 2 ^ 24
    | none => 2 ^ 24

/-- The bracketings of all chains of a demand (R255), keyed by each chain's last node; `dens` gives the density of an operand. -/
def State.bracketAll (s : State) (all : Map BNode) (reached : List (Nat × BNode)) (dens : Desc → Nat) : List (Nat × Br) :=
  reached.filterMap fun e =>
    let goesOn := ((soleConsumer reached e.1).bind (chainSide all reached)).any fun t => t.2 = e.1
    if e.2.op ≠ 0 || goesOn then none
    else
      let (ops, signs) := chainParts all reached 256 e.1
      if signs.length < 2 then none
      else
        let dims := ops.map fun o =>
          let d := operandDesc all o
          let es := s.extents d
          (es.getD 1 0, es.getD 0 0, dens d)
        some (e.1, (bestBracket (ops.length + 1) ops dims signs).2)

/-- The bracketings `old` with those made anew whose chain has an operand that break `m` feeds (R258). -/
def State.rebracket (s : State) (all : Map BNode) (reached : List (Nat × BNode)) (dens : Desc → Nat) (m : Nat) (old : List (Nat × Br)) :
    List (Nat × Br) :=
  let new := s.bracketAll all reached dens
  old.map fun b =>
    if b.2.leaves.any fun o => pendingNode (operandDesc all o) = some m then (new.find? fun t => t.1 = b.1).getD b else b

/-- What PQUERY reports of each node, in ascending SEQ (R272). -/
def planChoices (reached : List (Nat × BNode)) (brk : List (Nat × Br)) (pcost phword : Word64) (dens : Desc → Nat) : List Nat :=
  let muls := (reached.filter fun e => e.2.op = 0).map (·.1)
  let place (n : Nat) : Nat :=
    match brk.find? fun b => n ∈ b.2.order with
    | some b =>
      let mine := muls.filter fun m => m ∈ b.2.order
      muls.idxOf (mine.getD (b.2.order.idxOf n) n)
    | none => muls.idxOf n
  reached.map fun e =>
    let op := if e.2.op = 0 then chooseOp pcost phword e.2 (dens e.2.a) else 0
    let pb := if e.2.inputs.length = 2 then pathOf op false e.2.b else 0
    op + 8 * pathOf op true e.2.a + 32 * pb + (if e.2.op = 0 then 256 * (place e.1 % 256) else 0)

/-- The soundings that a planning reads: of each MATERIAL input and of each break's destination (R251, R253). -/
def planReads (reached : List (Nat × BNode)) : List Nat :=
  ((reached.flatMap fun e =>
    (e.2.inputs.filter fun d => pendingNode d = none).map descSnd ++ (if e.2.isBreak then [descSnd e.2.dst] else [])).filter (· ≠ 0)).eraseDups

/-- The VERSION that a recorded sounding has now: an absent entry reads as zeros (R251). -/
def State.versionNow (s : State) (c n pick : Nat) : Word64 := ((s.sounding c n pick).map (·.version)).getD 0

/-- Every recorded VERSION equals the current one (R253, R260, R261). -/
def State.versionsHold (s : State) (c : Nat) (e : PlanEntry) (pick : Nat) : Bool := e.soundings.all fun p => s.versionNow c p.1 pick = p.2

/-- A plan made anew (R253 to R255): a function of its key and of the sounding entries that it reads. Its GEN and its use come with its
place in the cache. -/
def State.planAnew (s : State) (c : Nat) (all : Map BNode) (reached : List (Nat × BNode)) (key : List Nat) (phword : Word64) (pick : Nat) :
    PlanEntry :=
  let tab := s.soundings c (planReads reached) pick
  let dens := inputDensity all [] tab
  let re := bitAt phword.toNat 0
  let brk := if re then s.bracketAll all reached dens else []
  let order := reached.map (·.1)
  { key := key, choices := planChoices reached brk ((s.core c).csrGet Csr.PCOST) phword dens, reassoc := re, gen := 0, used := 0,
    brk := brk.map fun b => (order.idxOf b.1, b.2.rename order.idxOf),
    soundings := tab.filterMap fun t => t.2.map fun x => (t.1, x.version),
    recorded := (reached.filter fun e => e.2.isBreak).map fun e =>
      (order.idxOf e.1, densityIn tab (descSnd e.2.dst), finiteIn tab (descSnd e.2.dst)) }

/-! ### The plan cache (R253) -/

/-- The handle of entry `i`. -/
def planHandle (i : Nat) (e : PlanEntry) : BitVec 32 := BitVec.ofNat 32 (e.gen * 64 + i)

/-- The entry of a current handle (R253). -/
def Berth.current (b : Berth) (h : Nat) : Option (Nat × PlanEntry) :=
  if h = 0 || 2 ^ 32 ≤ h then none
  else (Map.find b.cache (h % 64)).bind fun e => if e.gen = h / 64 then some (h % 64, e) else none

/-- The number of pinned entries. -/
def Berth.pinned (b : Berth) : Nat := (b.cache.filter fun e => e.2.pin).length

/-- The entry that a new plan takes: an empty one, else the least recently used unpinned one (R253). -/
def Berth.victim (b : Berth) : Nat :=
  match (List.range 64).find? fun i => (Map.find b.cache i).isNone with
  | some i => i
  | none =>
    let free := b.cache.filter fun e => !e.2.pin
    (free.foldl (fun (m : Nat × Nat) e => if e.2.used < m.2 then (e.1, e.2.used) else m)
      ((free.head?.map fun e => (e.1, e.2.used)).getD (0, 0))).1

/-- A new entry at place `i`, with the next GEN (R253). -/
def Berth.newEntry (b : Berth) (i : Nat) (e : PlanEntry) : Berth :=
  { b with cache := Map.put b.cache i { e with gen := b.gen, used := b.uses },
           gen := if b.gen = 2 ^ 26 - 1 then 1 else b.gen + 1, uses := b.uses + 1 }

/-- An entry is run: its RPL and OVR describe this run (R258). -/
def Berth.runEntry (b : Berth) (i : Nat) (e : PlanEntry) : Berth :=
  { b with cache := Map.put b.cache i { e with used := b.uses, rpl := false, ovr := false }, uses := b.uses + 1 }

/-! ### The trap of a demand -/

/-- A fault at issue that a demand meets (R247, R261): the positions in `mask` demanded. -/
def Core.demandTrap (k : Core) (code : Code) (mask : Nat) : TrapInfo :=
  let words := (List.range 8).map fun i => Map.find k.ir.words i
  let pres := (List.range 8).foldl (fun m i => if (words.getD i none).isSome then m ||| 2 ^ i else m) 0
  { code := code, tpc := k.ir.cp, order := 9, sfmask := mask,
    image := canonicalImage (BitVec.ofNat 32 (setField k.ir.header.toNat 0 8 pres)) words }

/-! ### A demand (R239, R240, R247) -/

/-- The plan window is usable (R235). -/
def Core.windowOk (k : Core) : Bool :=
  let w := (k.csrGet Csr.PLANWIN).toNat
  16 ≤ field w 23 9 && field w 13 9 * 8192 + field w 23 9 * 8192 ≤ k.spSize

/-- A request whose writes go to this core's scratchpad (R240). -/
def ReqOp.fillsScratch : ReqOp → Bool
  | .copy _ mode .. => mode = 1 || mode = 3
  | .ldblk .. => true
  | .rpush .. => true
  | .gath sp .. => sp
  | .recv sp .. => sp
  | _ => false

/-- A plan may not start yet: a request that fills the scratchpad has not signalled, or a pass is in flight (R240). -/
def Core.planWaits (k : Core) : Bool :=
  ((k.e0.reqs ++ k.e1.reqs).any fun r => r.op.fillsScratch) || k.passes ≠ []

/-- One write of a plan: the physical and the virtual address, the byte's kept bits and new bits, and whether the element is poisoned. -/
structure PWrite where
  pa : Nat
  va : Nat
  mask : Nat
  bits : Nat
  n : Nat
  bad : Bool

/-- The writes of one element of a destination (R117, R118). -/
def State.elementWrites (s : State) (c : Nat) (root : Word64) (n : Fmtn) (d : Desc) (x : List Nat) (num : Nat) (e : Elt) :
    List PWrite × List (Nat × Nat × Nat) :=
  let b := descBits n d
  (List.range (descPlaneCount n d)).foldl (fun (st : List PWrite × List (Nat × Nat × Nat)) k =>
    let (a, bo) := elementAt n d x k
    match s.exactPa c root .write a with
    | .error f => (st.1, st.2 ++ [(num, f.1, f.2)])
    | .ok pa => (st.1 ++ [{ pa := pa, va := wrap 64 a, mask := (2 ^ b - 1) <<< bo, bits := field (e.v >>> (b * k)) 0 b <<< bo,
                            n := (b + 7) / 8, bad := e.bad }], st.2)) ([], [])

/-- What the units of a plan have met (R132, R304, R363): the holder of poison that was consumed, and the address of a POISON word. -/
structure PlanMet where
  ate : Option Holder := none
  lost : Option Nat := none
deriving DecidableEq, Repr

/-- Performs a write of a plan, or of a CPYT's element, at the home slice; a unit that meets a POISON word is dropped (R304), and a poisoned
element poisons its sector (R362, R363). -/
def State.planWrite (who : WriteBy) (st : State × PlanMet) (w : PWrite) : State × PlanMet :=
  let (s, met) := st
  if s.lostIn w.pa w.n then (s, { met with lost := met.lost.or (some w.va) })
  else
    let old := s.natAt w.pa w.n
    let kept := old ^^^ (old &&& w.mask)
    let (s, m) := s.engineWrite who w.pa (toBytes w.n (kept ||| w.bits))
    (if w.bad then s.poisonRange w.pa w.n else s,
      if m.ue then { met with ate := met.ate.or (some (s.memHolder w.pa (BitVec.ofNat 64 w.va))) } else met)

/-- The failure that a demand reports: the lowest node, within it the lowest address (R247). -/
def worstFail (fs : List (Nat × Nat × Nat)) : Option (Nat × Nat × Nat) :=
  match fs with
  | [] => none
  | f :: rest => some (rest.foldl (fun m g => if g.1 < m.1 || (g.1 = m.1 && g.2.2 < m.2.2) then g else m) f)

/-- The observation of a break's result (R258): the observed DENSITY and FINITE of its present elements. -/
def observe (n : Fmtn) (f : Fmt) (es : List Elt) : Nat × Bool :=
  let live := es.filter fun e => !e.absent
  let nz := (live.filter fun e => !(valueOf n f e.v).isZero).length
  (if live = [] then 0 else nz * 2 ^ 24 / live.length, live.all fun e => (valueOf n f e.v).isFinite)

/-- All local elements of a node's result. -/
def State.wholeNode (s : State) (p : Plan) (nodes : Map BNode) (num : Nat) (nd : BNode) : List Elt :=
  let r := wholeRegion (s.extents nd.dst)
  (List.range (regionSize r)).map fun i => s.valueAt p nodes 257 num (regionAt r i)

/-- All local elements of a node's inputs. -/
def State.wholeInputs (s : State) (p : Plan) (nodes : Map BNode) (num : Nat) (nd : BNode) : List Elt :=
  (List.range nd.inputs.length).flatMap fun i =>
    let r := wholeRegion (s.extents (if i = 0 then nd.a else nd.b))
    (List.range (regionSize r)).map fun j => s.inputAt p nodes num nd i (regionAt r j)

/-- A break's observation differs from the sounding recorded for it (R258). -/
def Core.breakDiffers (k : Core) (density : Nat) (finite : Bool) (rec_ : Nat × Bool) : Bool :=
  let rp := (k.csrGet Csr.REPLAN).toNat
  field rp 0 24 < max density rec_.1 - min density rec_.1 || (bitAt rp 24 && finite != rec_.2)

/-- What the Pilot does at a break that differs (R258): 1 a pin overrides, 2 the later stages are planned anew, 0 nothing. -/
def Core.breakAction (k : Core) (pinned explicit : Bool) (phword : Word64) : Nat :=
  if pinned && explicit then 1
  else if bitAt (k.csrGet Csr.REPLAN).toNat 31 && !bitAt phword.toNat 4 then 2
  else 0

/-- The evaluation of a demand's breaks in ascending SEQ: the plan's bracketings as re-planning changes them (R258), each break with the
elements of its result and of its inputs, and what was observed and recorded of it. -/
structure BreaksRun where
  brk : List (Nat × Br)
  seen : List (Nat × Nat) := []
  done : List ((Nat × BNode) × List Elt × List Elt) := []
  obs : List (Nat × Bool × Nat × Bool) := []

/-- One break evaluated completely (R242), and what follows from its observation (R258). -/
def State.runBreak (s : State) (p : Plan) (all : Map BNode) (reached : List (Nat × BNode)) (recorded : List (Nat × Nat × Bool)) (action : Nat)
    (tab : List (Nat × Option Sounding)) (r : BreaksRun) (e : Nat × BNode) : BreaksRun :=
  let p := { p with brk := r.brk }
  let res := s.wholeNode p all e.1 e.2
  let o := observe (fmtnOf e.2.fmtn) (descFmt e.2.dst) res
  let rec_ := ((recorded.find? fun t => t.1 = e.1).map (·.2)).getD (2 ^ 24, false)
  let differs := (s.core p.c).breakDiffers o.1 o.2 rec_
  let seen := if differs && action = 2 then (e.1, o.1) :: r.seen else r.seen
  { brk := if differs && action = 2 then s.rebracket all reached (inputDensity all seen tab) e.1 r.brk else r.brk,
    seen := seen, done := r.done ++ [(e, res, s.wholeInputs p all e.1 e.2)], obs := r.obs ++ [(o.1, o.2, rec_.1, rec_.2)] }

/-- The nodes that a demand of node `num` over `reg` reaches, in ascending SEQ; an empty region reaches none but the node itself. -/
def Berth.reached (b : Berth) (num : Nat) (reg : Region6) : List (Nat × BNode) :=
  if regionSize reg = 0 then b.bySeq.filter fun e => e.1 = num
  else let r := reachNodes b.nodes 257 [] [num]
       b.bySeq.filter fun e => e.1 ∈ r

/-- What a demand's evaluation finds before anything is written: the writes, the failures of every unit, what was met, and what was observed
of its breaks. -/
structure Evaluated where
  writes : List PWrite
  fails : List (Nat × Nat × Nat)
  met : Elt
  obs : List (Nat × Bool × Nat × Bool)

/-- The canonical evaluation of a demand of node `num` over `reg` (R239, R242, R262) under a plan: every demanded element and every break
that it reaches. -/
def State.evaluate (s : State) (p : Plan) (b : Berth) (num : Nat) (nd : BNode) (reg : Region6) (recorded : List (Nat × Nat × Bool)) (action : Nat)
    (tab : List (Nat × Option Sounding)) : Evaluated :=
  let reached := b.reached num reg
  let breaks := if regionSize reg = 0 then [] else reached.filter fun e => e.2.isBreak
  let r := breaks.foldl (s.runBreak p b.nodes reached recorded action tab) { brk := p.brk }
  let p := { p with brk := r.brk }
  let elts := (List.range (regionSize reg)).map fun i => (regionAt reg i, s.valueAt p b.nodes 257 num (regionAt reg i))
  let met := Elt.of (elts.map (·.2) ++ r.done.flatMap fun e => e.2.1 ++ e.2.2) 0 0
  let ws := (elts.filter fun e => !e.2.absent && !e.2.lost).map fun e => s.elementWrites p.c p.root (fmtnOf nd.fmtn) nd.dst e.1 num e.2
  let counts := (breaks.filter fun e => e.2.op = 3).map fun e =>
    let kept := (keptRows e.2 (s.extents e.2.a) (s.inputAt p b.nodes e.1 e.2)).1
    let va := wrap 64 ((e.2.record.toNat + 8 : Nat) : Int)
    match s.elementPa p.c p.root .write ((e.2.record.toNat + 8 : Nat) : Int) with
    | .error f => (([] : List PWrite), [(e.1, f.1, f.2)])
    | .ok pa => ([{ pa := pa, va := va, mask := 2 ^ 64 - 1, bits := kept.length, n := 8, bad := false }], [])
  let out := ws ++ counts
  { writes := out.flatMap (·.1), fails := met.fails ++ out.flatMap (·.2), met := met, obs := r.obs }

/-- What a plan's reads leave: A bits and translations of the granules read (R108), and the homes' values of other owners' words where the
plan's reads included them (R296). -/
def State.planRead (s : State) (p : Plan) (pages : NatSet) : State :=
  let s := s.touchPages p.c p.root .read pages
  if p.pick % 2 = 0 then s
  else pages.foldl (fun s g => match s.translate p.c p.root false .read (65536 * g) with
    | .ok pa => s.obtain p.c pa 65536
    | .error _ => s) s

/-- The plan window is undefined once a plan has run (R235). -/
def State.forgetWindow (s : State) (c : Nat) : State :=
  let w := ((s.core c).csrGet Csr.PLANWIN).toNat
  let lo := field w 13 9 * 8192
  (s.onCore c fun k => k.spForget lo (lo + field w 23 9 * 8192) (s.free + 8192)).drew 4202496

/-- A write of an LSTORE's demand that does not commit leaves no node (R438). -/
def Berth.dropStore (b : Berth) (why num : Nat) : Berth := if why = 1 then { b with nodes := Map.erase b.nodes num } else b

/-- PLAN-INVALID (R261): nothing is planned, read or written, and INVALIDS increments. -/
def State.planInvalid (s : State) (c num why mask : Nat) : State :=
  let k := s.core c
  let st := (k.csrGet Csr.PLANST).toNat
  let k := k.csrPut Csr.PLANST (BitVec.ofNat 64 (setField st 16 16 (field st 16 16 + 1)))
  (s.setCore c { k with berth := k.berth.dropStore why num }).takeTrap c (k.demandTrap .planInvalid mask)

/-- BERTH-FAULT (R247): the record of failure `f` and the trap; no node changes state, and an LSTORE's node is gone (R438). -/
def State.berthFault (s : State) (c num why mask : Nat) (f : Nat × Nat × Nat) : State :=
  let k := s.core c
  let k := (((k.csrPut Csr.BFCAUSE (BitVec.ofNat 64 (2 ^ 63 + f.1 * 2 ^ 48 + f.2.1 * 2 ^ 44))).csrPut Csr.BFPC
    (((Map.find k.berth.nodes f.1).map BNode.pc).getD 0)).csrPut Csr.BFFPC k.ir.cp).csrPut Csr.BFADDR
      (if f.2.1 = 3 then 0 else BitVec.ofNat 64 f.2.2)
  let t := k.demandTrap .berthFault mask
  (s.setCore c { k with berth := k.berth.abandon.dropStore why num }).takeTrap c t

/-- Starts a demand of node `num` over `reg` by positions `mask` of the bundle at issue (R239 to R247, R252 to R263): finds
or makes the plan, evaluates every demanded element and every break it reaches, and performs the writes. A failure is taken
as BERTH-FAULT, a changed pinned sounding as PLAN-INVALID. The free value 5000 chooses what other owners' words read as,
5001 how many writes stand before a fault. -/
def State.startDemand (s : State) (c num : Nat) (reg : Region6) (full : Bool) (why mask : Nat) : State :=
  let k := s.core c
  let b := k.berth
  let explicit := why ≤ 1
  let pick := s.freeVal 5000
  let phword : Word64 := if explicit then k.csrGet Csr.PHWORD else 0
  let reached := b.reached num reg
  let key := k.planKey reached reg phword
  let hit := b.cache.find? fun e => e.2.key = key
  let holds := hit.all fun e => s.versionsHold c e.2 pick
  let pinned := hit.any fun e => e.2.pin
  match Map.find b.nodes num with
  | none => s
  | some nd =>
  if explicit && pinned && !holds then
    (s.soundingsLook c ((hit.map fun e => e.2.soundings.map (·.1)).getD []) pick).planInvalid c num why mask
  else
    let fresh := s.planAnew c b.nodes reached key phword pick
    let (b', entry, run) : Berth × Option Nat × PlanEntry := match hit with
      | some (i, e) => if holds then (b.runEntry i e, some i, e) else if e.pin then (b, none, fresh) else (b.newEntry i fresh, some i, fresh)
      | none => (b.newEntry b.victim fresh, some b.victim, fresh)
    let order := reached.map (·.1)
    let at_ (i : Nat) : Nat := order.getD i 0
    let p : Plan := { c := c, root := k.csrGet Csr.VMROOT, pick := pick, brk := run.brk.map fun x => (at_ x.1, x.2.rename at_) }
    let tab := s.soundings c (planReads reached) pick
    let ev := s.evaluate p b num nd reg (run.recorded.map fun r => (at_ r.1, r.2)) (k.breakAction (pinned && entry.isSome) explicit phword) tab
    let s := s.soundingsLook c (if hit.isSome && holds then run.soundings.map (·.1) else planReads reached) pick
    let s := (s.onCore c fun k => { k with berth := { b' with demand := k.berth.demand } }).planRead p ev.met.pages
    match worstFail ev.fails with
    | some f =>
      let ws := ev.writes.take (s.freeVal 5001 % (ev.writes.length + 1))
      let s := s.touchPages c p.root .write (ws.map fun w => w.va / 65536).eraseDups
      ((ws.foldl (State.planWrite (.engine .plan c none)) (s, {})).1.forgetWindow c).berthFault c num why mask f
    | none =>
      let s := s.touchPages c p.root .write (ev.writes.map fun w => w.va / 65536).eraseDups
      let (s, met) := ev.writes.foldl (State.planWrite (.engine .plan c none)) (s, {})
      let ate := (ev.met.ate.map fun x => s.memHolder x.1 (BitVec.ofNat 64 x.2)).or met.ate
      let lost := (ev.met.lostAt.or met.lost).map (BitVec.ofNat 64)
      let d : Demand := { node := num, full := full, pc := k.ir.cp, why := why, breaks := ev.obs, ate := ate, lost := lost, entry := entry,
                          flags := ev.met.flags }
      (s.onCore c fun k => { k with berth := { k.berth with demand := some d } }).forgetWindow c

/-- One break of demand `d` is counted if its observation differed (R258): overridden by a pin, or followed by planning anew. -/
def Core.breakCase (k : Core) (d : Demand) (o : Nat × Bool × Nat × Bool) : Core :=
  let entry := d.entry.bind fun i => (Map.find k.berth.cache i).map fun e => (i, e)
  let ph : Word64 := if d.why ≤ 1 then k.csrGet Csr.PHWORD else 0
  let act := if k.breakDiffers o.1 o.2.1 o.2.2 then k.breakAction (entry.any fun e => e.2.pin) (d.why ≤ 1) ph else 0
  let st := (k.csrGet Csr.PLANST).toNat
  let count (p : Nat) : Core := k.csrPut Csr.PLANST (BitVec.ofNat 64 (setField st p 16 (field st p 16 + 1)))
  let mark (k : Core) (f : PlanEntry → PlanEntry) : Core :=
    match entry with
    | some (i, e) => { k with berth := { k.berth with cache := Map.put k.berth.cache i (f e) } }
    | none => k
  match act with
  | 1 => mark (count 32) fun e => { e with ovr := true }
  | 2 => mark (count 48) fun e => { e with rpl := true }
  | _ => k

/-- A descriptor image that names node `n` becomes MATERIAL (R241). -/
def materialise (n : Nat) (d : Desc) : Desc := if pendingNode d = some n then descMark d 0 0 else d

/-- Frees a node whose whole extent has been demanded (R241): its descriptor registers and its consumers' edges become
MATERIAL. -/
def Core.freeDemanded (k : Core) (n : Nat) : Core :=
  let nodes := (Map.erase k.berth.nodes n).map fun e =>
    (e.1, { e.2 with a := materialise n e.2.a, b := materialise n e.2.b })
  let k := { k with berth := { k.berth with nodes := nodes } }
  (List.range 32).foldl (fun k i =>
    let r : DReg := BitVec.ofNat 5 i
    if pendingNode (k.d r) = some n then k.setD r (descMark (k.d r) 0 0) false else k) k

/-- A demand completes (R236, R240, R241): flags, the freed node and an overflow's count; what its units met is reported once the
demanding bundle has committed (R363). -/
def State.completeDemand (s : State) (c : Nat) : State :=
  let k := s.core c
  match k.berth.demand with
  | none => s
  | some d =>
    let k := (d.breaks.foldl (fun (k : Core) o => k.breakCase d o) k).orFlags d.flags
    let k := if d.full && d.why ≠ 1 then k.freeDemanded d.node else k
    let k := { k with berth := k.berth.dropStore d.why d.node }
    let handle : BitVec 32 := ((d.entry.bind fun i => (Map.find k.berth.cache i).map (planHandle i))).getD 0
    let b := k.berth
    let b := { b with demand := none, owed := if d.ate.isSome || d.lost.isSome then d :: b.owed else b.owed, ovf := if d.why = 2 then b.ovf + 1 else b.ovf,
                      forced := if d.why ≤ 1 then (d.why, d.pc, handle) :: b.forced else b.forced }
    s.setCore c { k with berth := b }

/-- The demands that a committed bundle of core `c` made report what their units met (R304, R363). -/
def State.reportDemands (s : State) (c : Nat) : State :=
  (s.core c).berth.owed.foldl (fun s d =>
    let s := match d.lost with | some va => s.onCore c fun k => k.raiseLost va d.pc | none => s
    match d.ate with | some h => s.consumed c h d.pc | none => s)
    (s.onCore c fun k => { k with berth := { k.berth with owed := [] } })

/-- Waits for an aliasing store at issue (R245): the positions and byte ranges of the CORE-path stores of the bundle. While
a node's entry intersects one, the nodes are demanded lowest SEQ first; none when nothing is left to demand. -/
def State.aliasWait (s : State) (c : Nat) (stores : List (Nat × List (Int × Int))) : Option State :=
  let k := s.core c
  if k.berth.nodes = [] then none
  else
    let hit := stores.filter fun t => s.aliasNodes k.berth t.2 ≠ []
    let k := { k with berth := { k.berth with aliased := hit.foldl (fun m t => NatSet.insert m t.1) k.berth.aliased } }
    let s := s.setCore c k
    match k.berth.demand with
    | some _ => some s
    | none =>
      match s.aliasNodes k.berth (stores.flatMap (·.2)) with
      | [] => none
      | n :: _ =>
        if k.planWaits then some s
        else
          let mask := k.berth.aliased.foldl (fun m p => m ||| 2 ^ p) 0
          some (s.startDemand c n (wholeRegion (((Map.find k.berth.nodes n).map fun nd => s.extents nd.dst).getD [])) true 3 mask)

/-- Core `c` has an atomic or a call whose hold has not been released (R290). -/
def State.sliceWaits (s : State) (c : Nat) : Bool := s.sliceReqs.any (·.core = c) || s.teller.any (·.core = c)

/-- An overflow force while `need` says that the table or the source-range table is short (R243, R244). -/
def State.overflowWait (s : State) (c : Nat) (need : Bool) (mask : Nat) : Option State :=
  let k := s.core c
  match k.berth.demand with
  | some _ => some s
  | none =>
    if !need then none
    else match k.berth.firstRoot with
      | none => none
      | some n =>
        if k.planWaits || s.sliceWaits c then some s
        else some (s.startDemand c n (wholeRegion (((Map.find k.berth.nodes n).map fun nd => s.extents nd.dst).getD [])) true 2 mask)

end Sys2Proof.Machine
end

