-- ==== Sys2Proof/Machine/Context.lean ====
section
/-! DEFINITION. The context of a task: entry (R306), the context image (R353), its saving (R351) and restoring (R354), and the
redirection of what a saved task is still owed (R352). -/

namespace Sys2Proof.Machine

open Sys2Proof

/-! ### The CSR images of fault records (R150) -/

/-- The EFCAUSE image of a record of engine `eng`. -/
def EngRec.cause (r : EngRec) (eng : Bool) : Word64 :=
  BitVec.ofNat 64 (2 ^ 63 + bit eng * 2 ^ 56 + r.opc % 256 * 2 ^ 48 + r.kind % 16 * 2 ^ 44)

/-- The three words of an engine's record, zero where there is none. -/
def recordWords (eng : Bool) (r : Option EngRec) : List Word64 :=
  match r with
  | none => [0, 0, 0]
  | some r => [r.cause eng, r.addr, r.pc]

/-- The record that three words hold. -/
def recordOf (c a p : Nat) (clk : Nat) : Option EngRec :=
  if bitAt c 63 then some { kind := field c 44 4, opc := field c 48 8, addr := BitVec.ofNat 64 a, pc := BitVec.ofNat 64 p, time := clk }
  else none

/-- The RM code of SUB (R65). -/
def rmCode : RM → Nat
  | .rne => 0 | .rtz => 1 | .rdn => 2 | .rup => 3 | .sr => 4
/-- The mode of an RM code. -/
def rmOfCode : Nat → RM
  | 0 => .rne | 1 => .rtz | 2 => .rdn | 3 => .rup | _ => .sr

/-! ### Berth nodes as images (R233) -/

/-- The 40 doublewords of node `n`'s image. -/
def BNode.words (nd : BNode) (n : Nat) : List Nat :=
  let desc (d : Desc) : List Nat := (List.range 8).map fun i => field d.toNat (64 * i) 64
  let maps : List Nat := (List.range 6).map fun i => (nd.maps.getD (2 * i) 0).toNat + (nd.maps.getD (2 * i + 1) 0).toNat * 2 ^ 32
  desc nd.dst ++ desc nd.a ++ desc nd.b ++ maps
    ++ [nd.pc.toNat, nd.op + rmCode nd.sub * 2 ^ 8 + nd.fmt * 2 ^ 11 + n * 2 ^ 24 + nd.seq % 2 ^ 32 * 2 ^ 32, nd.param.toNat, nd.seed.toNat,
        nd.record.toNat, nd.fmtn, 0, 0, 0, 0]

/-- The node of an image's doublewords; none where R233 refuses it, or where SUB or the node number is none that a save writes. Whether an
LGATH or LSCAT is a pipeline break is taken from its index image still being PENDING (log 66). -/
def nodeOfWords (n : Nat) (ws : List Nat) : Option BNode :=
  let w (i : Nat) : Nat := ws.getD i 0
  let desc (k : Nat) : Desc := BitVec.ofNat 512 ((List.range 8).foldr (fun i a => w (k + i) + a * 2 ^ 64) 0)
  let h := w 31
  if field h 17 7 ≠ 0 || 10 < field h 0 8 || field h 24 8 ≠ n || 4 < field h 8 3 || 2 ^ 17 ≤ w 35
      || ((List.range 4).any fun i => w (36 + i) ≠ 0)
      || ((List.range 6).any fun i => field (w (24 + i)) 24 2 ≠ 0 || field (w (24 + i)) 56 2 ≠ 0) then none
  else
    let late := (field h 0 8 = 5 || field h 0 8 = 6) && descState (desc 16) = 1
    some { op := field h 0 8, sub := rmOfCode (field h 8 3), fmt := field h 11 6, param := BitVec.ofNat 64 (w 32), dst := desc 0, a := desc 8,
           b := desc 16, maps := (List.range 12).map fun i => BitVec.ofNat 32 (field (w (24 + i / 2)) (32 * (i % 2)) 32),
           pc := BitVec.ofNat 64 (w 30), seq := field h 32 32, seed := BitVec.ofNat 64 (w 33), record := BitVec.ofNat 64 (w 34), fmtn := w 35,
           lateIndex := late }

/-! ### Where a saved task's signals go (R352) -/

/-- What now holds the task of the image with header address `h`: a core, or an image. -/
def State.holder (s : State) : Nat → Nat → Nat ⊕ Nat
  | 0, h => .inr h
  | fuel + 1, h =>
    let o := s.natAt (h + 0x18) 8
    if bitAt o 63 then s.holder fuel (field o 0 52)
    else if o = 0 then .inr h
    else .inl (o - 1)

/-- The length of a chain of forwards that is followed: one per image that a task has left. -/
def forwardFuel : Nat := 4096

/-- The header mark of what is owed to a task that has ended: it is discarded. -/
def goneHeader : Nat := 1

/-- The issuer of a request: core `c` while header is 0, else whoever holds the task now. -/
def State.issuer (s : State) (c header : Nat) : Nat ⊕ Nat := if header = 0 then .inl c else s.holder forwardFuel header

/-- An addition to a semaphore of the task that core `c`, or the image at `header`, holds (R165, R352, R424). -/
def State.semRaise (s : State) (c header : Nat) (w : WReg) (n : BitVec 32) : State :=
  if header = goneHeader then s
  else match s.issuer c header with
  | .inl c => s.onCore c fun k => k.setW w (k.w w + n)
  | .inr h =>
    let a := h + 0x80 + 4 * w.toNat
    s.hardWrite a (toBytes 4 (s.natAt a 4 + n.toNat))

/-- A semaphore signal (R147). -/
def State.signal (s : State) (c header : Nat) (w : WReg) : State := s.semRaise c header w 1

/-- What is ordered for the task that core `c`, or the image at `header`, holds, changed by `f` (R300, R352). -/
def State.onOrder (s : State) (c header : Nat) (f : Order → Order) : State :=
  if header = goneHeader then s
  else match s.issuer c header with
    | .inl c => s.onCore c fun k => { k with ord := f k.ord }
    | .inr h => { s with orders := Map.put s.orders h (f (Map.get {} s.orders h)) }

/-- Request `ticket` of core `c` has ended, with a signal of semaphore `w` or none; what a WAIT on it will count (R300, item 2). -/
def State.noteEnd (s : State) (c header : Nat) (w : Option Nat) (ticket : Nat) : State :=
  s.onOrder c header fun o => { o with ended := if header = 0 then o.ended else (c, ticket) :: o.ended,
                                       signalled := (w.toList.map fun w => (w, c, ticket)) ++ o.signalled }

/-- Completion flags of a request (R147, R352). -/
def State.owedFlags (s : State) (c header : Nat) (f : Flags) : State :=
  if f = 0 || header = goneHeader then s
  else match s.issuer c header with
    | .inl c => s.onCore c fun k => k.orFlags f
    | .inr h =>
      let a := h + 0x400 + 8 * 9
      s.hardWrite a (toBytes 8 (s.natAt a 8 ||| f.toNat))

/-- The address of engine `eng`'s post-save record in the image at `h` (R353). -/
def postRecord (h : Nat) (eng : Bool) : Nat := h + 0x400 + 8 * (if eng then 32 else 29)

/-- Engine `eng`'s record for the task of a request: on a core, or in an image the carried and post-save ones (R351). -/
def State.recordOpen (s : State) (c header : Nat) (eng : Bool) : Bool :=
  if header = goneHeader then false
  else match s.issuer c header with
  | .inl c => let k := s.core c
              (if eng then k.e1.record else k.e0.record).isSome
  | .inr h => bitAt (s.natAt (postRecord h eng) 8) 63 || bitAt (s.natAt (h + 0x400 + 8 * (if eng then 26 else 23)) 8) 63

/-! ### Entry of a task (R306, R334) -/

/-- The fields of a 256-byte node record (R324), by byte offset and length. -/
def nodeField (r : BitVec 2048) (off n : Nat) : Nat := field r.toNat (8 * off) (8 * n)

/-- The registers of a core that settings of the core keep across tasks (R341). -/
def coreSetting (n : Nat) : Bool :=
  (Csr.TCAUSE ≤ n && n ≤ Csr.TADDR2) || (Csr.TBND0 ≤ n && n < Csr.TSCR0 + 4) || n = Csr.PBOUND || n = Csr.HWDOG || n = Csr.CTXBASE
    || n = Csr.PGREQ

/-- The logical number that LCMAP gives physical core `p`: the lowest valid entry that names it (R372). -/
def State.logicalOf (s : State) (p : Nat) : Option Nat :=
  (List.range 320).find? fun l => let e := (s.ctlGet (Ctl.LCMAP l)).toNat; bitAt e 63 && field e 0 9 = p

/-- What stays with a core when its task leaves: settings, memory structures and engines of requests still owed. -/
def Core.shell (k : Core) : Core :=
  { csr := k.csr.filter fun e => coreSetting e.1, e0 := { k.e0 with record := none }, e1 := { k.e1 with record := none }, tickets := k.tickets,
    matFree := k.matFree, tlb := k.tlb, ltime := k.ltime, savedTask := k.savedTask, tender := k.tender, level := k.level, entering := k.entering,
    frozen := k.frozen, stall := k.stall, saving := k.saving, pagein := k.pagein, pageinAns := k.pageinAns, syscSeq := k.syscSeq, syscOpen := k.syscOpen, syscSem := k.syscSem,
    lastImage := k.lastImage, served := k.served, icache := k.icache, dcache := k.dcache, scratch := k.scratch, junk := k.junk, ir := k.ir, windows := k.windows, cut := k.cut,
    cutAge := k.cutAge, toPublish := k.toPublish, seen := k.seen, berth := { gen := k.berth.gen, uses := k.berth.uses, last := k.berth.last } }

/-- Starts a node's task on core `c` (R306, R334); the first bundle issues after free cycles (R437). The scratchpad, which entry does not
set, is undefined (R8). -/
def State.enterTask (s : State) (c : Nat) (r : BitVec 2048) (t : Task) : State :=
  let k := s.core c
  let k1 : Core := { k.shell with level := 0, entering := false, frozen := false, stall := s.freeVal 4194304, savedTask := none, windows := [] }
  let k2 : Core := { k1 with scratch := [], junk := [(0, 16 * 262144, s.free)], main := { pc := BitVec.ofNat 64 (nodeField r 0 8), hold := [] },
                             task := some t, ord := { begun := s.histNext } }
  let k3 := (List.range 12).foldl (fun (k : Core) i => k.setS (BitVec.ofNat 6 (i + 1)) (BitVec.ofNat 64 (nodeField r (8 + 8 * i) 8))) k2
  let k4 := ((k3.setS 13 (BitVec.ofNat 64 ((s.logicalOf c).getD 0))).setS 14 (BitVec.ofNat 64 (nodeField r 136 4))).setS 15
    (BitVec.ofNat 64 (nodeField r 112 8))
  let k5 := (((k4.csrPut Csr.QALLOT (BitVec.ofNat 64 (nodeField r 141 1))).csrPut Csr.SPLIT (BitVec.ofNat 64 (nodeField r 142 1))).csrPut
    Csr.VMROOT (s.ctlGet (Ctl.TENROOT t.tenant))).csrPut Csr.SNAPEP
      (BitVec.ofNat 64 (Map.get 0 s.snap.passed t.tenant))
  (s.setCore c k5).drew 4194305

/-! ### The image (R353) -/

/-- The size of an image in bytes. -/
def imageSize (spad : Nat) : Nat := 0x66000 + spad * 262144

/-- The containment words of the CSR block (log 20). -/
def Core.containWords (k : Core) : List Nat :=
  let rs := k.contain.regions
  [rs.length, k.contain.cause.toNat, k.contain.addr.toNat, k.contain.pc.toNat]
    ++ (List.range 8).map (fun i => ((rs[i]?).map fun r => r.handler.toNat).getD 0)
    ++ [(List.range 8).foldl (fun m i => m + (if (rs[i]?).any (·.inNotice) then 2 ^ i else 0)) 0,
        k.contain.segCount % 2 ^ 32 + k.contain.segSig.toNat * 2 ^ 32]

/-- The BERTHST image (R234). -/
def Core.berthst (k : Core) : Word64 :=
  BitVec.ofNat 64 (k.berth.ovf.toNat * 2 ^ 48 + k.berth.als.toNat * 2 ^ 32 + field k.berth.sourceUse 0 6 * 2 ^ 16 + k.berth.nodes.length)

/-- The PLANST image (R259): PINNED counts the pinned entries. -/
def Core.planst (k : Core) : Word64 := BitVec.ofNat 64 (setField (k.csrGet Csr.PLANST).toNat 0 6 k.berth.pinned)

/-- The CSR block (R353). -/
def Core.csrWords (k : Core) : List Nat :=
  let g (n : Nat) : Nat := (k.csrGet n).toNat
  let pend := (List.range 3).flatMap fun i => match k.fmtPend[i]? with
    | some (im, n) => [im.toNat, n]
    | none => [0, 0]
  [g Csr.SPLIT, g Csr.QALLOT, g Csr.FMTN] ++ pend
    ++ [g Csr.FFLAGS, g Csr.CHECKMODE, g Csr.NVEC, g Csr.TCMP, g Csr.PHWORD, g Csr.REPLAN, g Csr.PCOST, g Csr.PLANWIN, g Csr.SNDBASE,
        k.berthst.toNat, k.planst.toNat, g Csr.RBENTRY, g Csr.SNAPEP, k.ntCount.toNat]
    ++ (recordWords false k.e0.record ++ recordWords true k.e1.record).map BitVec.toNat ++ [0, 0, 0, 0, 0, 0]
    ++ [g Csr.TLCAUSE, g Csr.TLPC, g Csr.TLADDR, g Csr.BFCAUSE, g Csr.BFPC, g Csr.BFFPC, g Csr.BFADDR]
    ++ [((k.notice.timer).getD 0).toNat] ++ (List.range 16).map (fun t => ((Map.find k.notice.ldFault t).getD 0).toNat)
    ++ k.containWords

/-- The notice word (R353). -/
def Notice.word (n : Notice) : Nat :=
  (List.range 16).foldl (fun m t => m + (if t ∈ n.ldDone then 2 ^ t else 0) + (if (Map.find n.ldFault t).isSome then 2 ^ (16 + t) else 0)) 0
    + bit n.timer.isSome * 2 ^ 32 + bit n.running * 2 ^ 33

/-- A hold mask and its eight words. -/
def holdWords (h : Map (BitVec 44)) : List Nat :=
  (h.foldl (fun m e => m ||| 2 ^ e.1) 0) :: (List.range 8).map fun i => ((Map.find h i).getD 0).toNat
/-- The held words of a mask and eight words. -/
def holdOf (ws : List Nat) : Map (BitVec 44) :=
  (List.range 8).filterMap fun i => if bitAt (ws.getD 0 0) i then some (i, BitVec.ofNat 44 (ws.getD (i + 1) 0)) else none

/-- One doubleword of an image: offset, value, and whether it is poisoned. -/
abbrev ImageWord := Nat × Nat × Bool

/-- Doublewords from an offset on. -/
def atOffset (off : Nat) (ws : List Nat) (bad : Bool := false) : List ImageWord :=
  (List.range ws.length).map fun i => (off + 8 * i, ws.getD i 0, bad)

/-- The doublewords of a vector of 2,048 bits. -/
def vecWords (v : Vec) : List Nat := (List.range 32).map fun i => field v.toNat (64 * i) 64

/-- Every doubleword of the image of core `k` but the header's first four (R353). -/
def Core.imageWords (k : Core) : List ImageWord :=
  let occ (q : Nat) : Nat := (vget [] k.regs.q q).length
  let live := (List.range 4).map fun i => (List.range 64).foldl (fun m j => m + (if (Map.find k.berth.nodes (64 * i + j)).isSome then 2 ^ j else 0)) 0
  let nt := (List.range 32).flatMap fun i => match k.nt[i]? with
    | some r => [r.value.toNat, r.target + bit r.null * 2 ^ 8 + 2 ^ 31 + r.left * 2 ^ 32]
    | none => [0, 0]
  atOffset 0x20 [(k.csrGet Csr.VMROOT).toNat, 0] ++ atOffset 0x30 live ++ atOffset 0x50 [0, 0, 0, 0, 0, 0]
    ++ atOffset 0x80 ((List.range 16).map fun i => (vget 0 k.regs.w (2 * i)).toNat + (vget 0 k.regs.w (2 * i + 1)).toNat * 2 ^ 32)
    ++ (List.range 64).map (fun i => (0x100 + 8 * i, (k.sNat i).toNat, k.sBad (BitVec.ofNat 6 i)))
    ++ atOffset 0x300 (k.regs.p.toNat :: holdWords k.main.hold)
    ++ (List.range 8).map (fun i => (0x350 + 8 * i, (k.notice.shadow.getD i 0).toNat, k.notice.shadowBad.getLsbD i))
    ++ atOffset 0x390 [k.notice.saved.toNat, k.notice.word]
    ++ atOffset 0x3A0 (holdWords k.notice.hold ++ [k.notice.segCount % 2 ^ 32 + k.notice.segSig.toNat * 2 ^ 32, 0, 0])
    ++ atOffset 0x400 ((List.range 128).map fun i => k.csrWords.getD i 0)
    ++ atOffset 0x800 nt
    ++ atOffset 0xA00 ((List.range 16).map fun i => (vget 0 k.regs.cseq i).toNat)
    ++ atOffset 0xA80 ((List.range 16).flatMap fun i => let g := (vget 0 k.regs.g i).toNat; [field g 0 64, field g 64 64])
    ++ atOffset 0xB80 ((List.range 8).map fun i => (List.range 8).foldl (fun m j => m + occ (8 * i + j) * 2 ^ (8 * j)) 0)
    ++ atOffset 0xC00 ((List.range 32).flatMap fun i => let d := (vget 0 k.regs.d i).toNat; (List.range 8).map fun j => field d (64 * j) 64)
    ++ (List.range 64).flatMap (fun q => (List.range 4).flatMap fun e =>
        match if q < k.qallot then (vget [] k.regs.q q)[e]? else none with
        | some x => atOffset (0x2000 + 1024 * q + 256 * e) (vecWords x.v) x.poison
        | none => atOffset (0x2000 + 1024 * q + 256 * e) (List.replicate 32 0))
    ++ (List.range 1024).flatMap (fun r => atOffset (0x12000 + 256 * r) (vecWords (k.row (r / 64) (r % 64))) (k.rowBad (r / 64) (r % 64)))
    ++ k.berth.nodes.flatMap (fun e => atOffset (0x52000 + 320 * e.1) (e.2.words e.1))
    ++ (List.range (k.spSize / 8)).map fun i => (0x66000 + 8 * i, ofBytes (k.spRead (8 * i) 8), k.spBad (8 * i) 8)

/-- The physical address of each granule of an image at virtual address `va` under `root`, as core `c` reaches it with
supervisor privilege; the first failure of translation otherwise, or an address without a home slice. -/
def State.imagePages (s : State) (c : Nat) (root : Word64) (va size : Nat) (kind : Access) : Except XFault (List Nat) :=
  (List.range ((va + size + 65535) / 65536 - va / 65536)).foldl (fun (r : Except XFault (List Nat)) i =>
    match r with
    | .error e => .error e
    | .ok l =>
      let a := addr (va / 65536 * 65536) (65536 * i)
      match s.translate c root true kind (if i = 0 then va else a) with
      | .error e => .error e
      | .ok pa => if s.homed pa then .ok (l ++ [pa / 65536 * 65536]) else .error ⟨BitVec.ofNat 64 a, false⟩) (.ok [])

/-- The physical address of offset `off` of an image. -/
def imageAt (pages : List Nat) (va off : Nat) : Nat := pages.getD ((va + off) / 65536 - va / 65536) 0 + (va + off) % 65536

/-- Writes doublewords of an image; a poisoned one poisons its sector (R362). -/
def State.putImage (s : State) (c : Nat) (pages : List Nat) (va : Nat) (ws : List ImageWord) : State :=
  ws.foldl (fun s w =>
    let pa := imageAt pages va w.1
    let s := (s.coreStore c pa (toBytes 8 w.2.1) (BitVec.ofNat 64 (addr va w.1)) 0).1
    if w.2.2 then s.poisonRange pa 8 else s) s

/-- The values and records of the step of R351 and R352 at the end of a save: header words, OWNER 0, and the forward of the
image from which the task came. `tpc` is the pointer at which the task resumes. -/
def State.sealImage (s : State) (c : Nat) (pages : List Nat) (va : Nat) (old : Nat) (tpc : Word64) : State :=
  let k := s.core c
  let h := imageAt pages va 0
  let s := s.putImage c pages va (atOffset 0 [1, tpc.toNat, (k.csrGet Csr.TCAUSE).toNat, 0])
  if old = 0 || old = h then s
  else s.hardWrite (old + 0x18) (toBytes 8 (2 ^ 63 + h))

/-- The writes of core `c` since write counter `n`: on its CORE path, by its requests, passes and plans (R319). -/
def State.writesOf (s : State) (c n : Nat) : List OrdWrite :=
  (s.hist.filter fun h => n ≤ h.n && h.old ≠ []).filterMap fun h =>
    match h.who with
    | .core d _ _ => if d = c then some { n := h.n, cls := some .core, lo := h.addr, hi := h.addr + h.old.length - 1 } else none
    | .engine cls d _ => if d = c then some { n := h.n, cls := some cls, lo := h.addr, hi := h.addr + h.old.length - 1 } else none
    | _ => none

/-- The writes of requests that have ended, by core and ticket. -/
def State.writesBy (s : State) (l : List (Nat × Nat)) : List OrdWrite :=
  (s.hist.filter fun h => h.old ≠ []).filterMap fun h =>
    match h.who with
    | .engine cls d (some t) => if (d, t) ∈ l then some { n := h.n, cls := some cls, lo := h.addr, hi := h.addr + h.old.length - 1 } else none
    | _ => none

/-- Every write of the task of core `c` so far (R319). -/
def State.taskWrites (s : State) (c : Nat) : List OrdWrite :=
  let o := (s.core c).ord
  addOrd o.wrote (addOrd (s.writesOf c o.begun) (s.writesBy o.ended))

/-- Every granule of an image has been accessed: translations held, A and D set (R108). -/
def State.touchImage (s : State) (c : Nat) (root : Word64) (va n : Nat) : State :=
  (List.range n).foldl (fun s i => s.touch c root .write (if i = 0 then va else va / 65536 * 65536 + 65536 * i)) s

/-- The save of the main pipeline's context by CTXSV, or by HALT, once nothing is in flight (R319, R351 to R353): the image, the ownerships
ended, the requests still owed redirected, and the main pipeline without a context. `tpc` is the pointer at which the task resumes. -/
def State.saveContext (s : State) (c : Nat) (pages : List Nat) (va : Nat) (tpc : Word64) : State :=
  let s := s.endOwned fun _ o => o = c
  let k := s.core c
  let h := imageAt pages va 0
  let old := ((k.task.map (·.header))).getD 0
  let s := s.putImage c pages va k.imageWords
  let s := (s.sealImage c pages va old tpc).endOwned fun _ o => o = c
  let mark (e : Engine) : Engine := { reqs := e.reqs.map fun r => if r.header = 0 then { r with header := h } else r, record := none }
  let saved := k.task.map fun t =>
    ({ core := c, image := h, va := BitVec.ofNat 64 va, root := k.csrGet Csr.VMROOT, task := t, ready := k.csrGet Csr.TCAUSE % 256 = 0x20 } : SavedTask)
  let k : Core := { k with e0 := mark k.e0, e1 := mark k.e1 }
  let s := { s with scans := s.scans.map fun (x : Scan) => if x.core = c && x.header = 0 then { x with header := h } else x }
  let s := { s with graphs := s.graphs.map fun (e : Nat × Graph) => (e.1, { e.2 with nodes := e.2.nodes.map fun (m : Nat × TNode) =>
      (m.1, { m.2 with signal := m.2.signal.map fun (p : Nat × Nat) => if p.1 = c then (h, p.2) else p }) }) }
  let s := { s with orders := Map.put s.orders h { k.ord with wrote := s.taskWrites c, ended := [] } }
  let root := k.csrGet Csr.VMROOT
  s.setCore c { (k.shell.csrPut Csr.VMROOT root) with regs := { k.regs with acc := [], accPoison := [] }, savedTask := saved, lastImage := h }

/-! ### Restoring (R354) -/

/-- The doubleword at offset `off` of an image. -/
def State.imageWord (s : State) (pages : List Nat) (va off : Nat) : Nat :=
  let pa := imageAt pages va off
  ofBytes ((List.range 8).map fun i => s.coreByte (pa + i))

/-- The nodes of an image; none where R233 refuses one, or an edge names no live node. -/
def State.imageNodes (s : State) (pages : List Nat) (va : Nat) : Option (Map BNode) :=
  let live := (List.range 256).filter fun n => bitAt (s.imageWord pages va (0x30 + 8 * (n / 64))) (n % 64)
  let nodes := live.map fun n => (n, nodeOfWords n ((List.range 40).map fun i => s.imageWord pages va (0x52000 + 320 * n + 8 * i)))
  let ok : Map BNode := nodes.filterMap fun e => e.2.map fun nd => (e.1, nd)
  if ok.length ≠ nodes.length then none
  else if ok.any fun e => e.2.edges.any fun m => (Map.find ok m).isNone then none
  else some ok

/-- The checks of R354. -/
def State.imageOk (s : State) (pages : List Nat) (va : Nat) : Bool :=
  let h := s.imageWord pages va 0
  match s.imageNodes pages va with
  | none => false
  | some nodes =>
    field h 0 32 = 1 && field h 32 8 = 0 && s.imageWord pages va 0x18 = 0
      && (List.range 32).all fun i =>
        let lo := s.imageWord pages va (0xC00 + 64 * i + 8)
        !(field lo 4 2 = 1) || (Map.find nodes (field lo 6 8)).isSome

/-- Restores every field of an image into core `c`, reserved bits left out (R6), and claims the image for the core (R352, R354). The main
pipeline then stands at the saved TPC. The counter of SEQ goes on after the highest live one (log 66). -/
def State.restoreContext (s : State) (c : Nat) (pages : List Nat) (va : Nat) (t : Task) : State :=
  let g (off : Nat) : Nat := s.imageWord pages va off
  let csr (i : Nat) : Nat := g (0x400 + 8 * i)
  let h := imageAt pages va 0
  let k := s.core c
  let bad (off : Nat) : Bool := s.poisoned (imageAt pages va off) 8
  let nodes := (s.imageNodes pages va).getD []
  let vec (off : Nat) : Vec := BitVec.ofNat 2048 ((List.range 32).foldr (fun i a => g (off + 8 * i) + a * 2 ^ 64) 0)
  let occ (q : Nat) : Nat := field (g (0xB80 + q / 8 * 8)) (8 * (q % 8)) 8
  let queue (q : Nat) : List QEntry := (List.range (min 4 (occ q))).map fun e =>
    { v := vec (0x2000 + 1024 * q + 256 * e), due := 0, landed := true, poison := bad (0x2000 + 1024 * q + 256 * e) }
  let desc (i : Nat) : Desc := BitVec.ofNat 512 ((List.range 8).foldr (fun j a => g (0xC00 + 64 * i + 8 * j) + a * 2 ^ 64) 0)
  let regs : Regs := {
    s := Vector.ofFn fun i => if i.val = 0 then 0 else BitVec.ofNat 64 (g (0x100 + 8 * i.val)),
    p := BitVec.ofNat 64 (setField (g 0x300) 0 1 1),
    d := Vector.ofFn fun i => desc i.val,
    dpend := (List.range 32).foldl (fun m i => if descState (desc i) = 1 then m ||| BitVec.ofNat 32 (2 ^ i) else m) 0,
    g := Vector.ofFn fun i => BitVec.ofNat 128 (g (0xA80 + 16 * i.val) + g (0xA88 + 16 * i.val) * 2 ^ 64) &&& ringHeld,
    w := Vector.ofFn fun i => BitVec.ofNat 32 (field (g (0x80 + i.val / 2 * 8)) (32 * (i.val % 2)) 32),
    cseq := Vector.ofFn fun i => BitVec.ofNat 64 (g (0xA00 + 8 * i.val)),
    q := Vector.ofFn fun i => queue i.val,
    acc := (List.range 1024).foldl (fun m r => Map.set 0 m r (vec (0x12000 + 256 * r))) [],
    sPoison := (List.range 64).foldl (fun m i => if i ≠ 0 && bad (0x100 + 8 * i) then m ||| BitVec.ofNat 64 (2 ^ i) else m) 0,
    accPoison := (List.range 1024).filter fun r => bad (0x12000 + 256 * r) }
  let spad := csr 0 % 16
  let csrs := [(Csr.SPLIT, 0), (Csr.QALLOT, 1), (Csr.FMTN, 2), (Csr.FFLAGS, 9), (Csr.CHECKMODE, 10), (Csr.NVEC, 11), (Csr.TCMP, 12), (Csr.PHWORD, 13),
    (Csr.REPLAN, 14), (Csr.PCOST, 15), (Csr.PLANWIN, 16), (Csr.SNDBASE, 17), (Csr.PLANST, 19), (Csr.RBENTRY, 20), (Csr.SNAPEP, 21),
    (Csr.TLCAUSE, 35), (Csr.TLPC, 36), (Csr.TLADDR, 37), (Csr.BFCAUSE, 38), (Csr.BFPC, 39), (Csr.BFFPC, 40), (Csr.BFADDR, 41)]
  let nw := g 0x398
  let notice : Notice := {
    ldDone := (List.range 16).filter fun i => bitAt nw i,
    ldFault := (List.range 16).filterMap fun i => if bitAt nw (16 + i) then some (i, BitVec.ofNat 64 (csr (43 + i))) else none,
    timer := if bitAt nw 32 then some (BitVec.ofNat 64 (csr 42)) else none, running := bitAt nw 33,
    shadow := (List.range 8).map fun i => BitVec.ofNat 64 (g (0x350 + 8 * i)), saved := BitVec.ofNat 64 (g 0x390),
    hold := holdOf ((List.range 9).map fun i => g (0x3A0 + 8 * i)), segCount := field (g 0x3E8) 0 32,
    segSig := BitVec.ofNat 32 (field (g 0x3E8) 32 32),
    shadowBad := (List.range 8).foldl (fun m i => if bad (0x350 + 8 * i) then m ||| BitVec.ofNat 8 (2 ^ i) else m) 0 }
  let regions : List Region := (List.range (min 8 (csr 59))).map fun i => { handler := BitVec.ofNat 64 (csr (63 + i)), inNotice := bitAt (csr 71) i }
  let contain : Contain := { regions := regions, cause := BitVec.ofNat 64 (csr 60) &&& 0x10FFFFF, addr := BitVec.ofNat 64 (csr 61), pc := BitVec.ofNat 64 (csr 62),
                             segCount := field (csr 72) 0 32, segSig := BitVec.ofNat 32 (field (csr 72) 32 32) }
  let nt : List NtResult := (List.range 32).filterMap fun i =>
    let x := g (0x808 + 16 * i)
    if bitAt x 31 then some { target := field x 0 2, value := BitVec.ofNat 64 (g (0x800 + 16 * i)), null := bitAt x 8, left := field x 32 32 } else none
  let fp := (List.range 3).filterMap fun i => if csr (4 + 2 * i) = 0 then none else some (BitVec.ofNat 17 (csr (3 + 2 * i)), csr (4 + 2 * i))
  let berth : Berth := { k.berth with nodes := nodes, seq := (nodes.map fun e => e.2.seq + 1).foldl max 0, ovf := BitVec.ofNat 16 (csr 18 / 2 ^ 48),
                                      als := BitVec.ofNat 16 (field (csr 18) 32 16), cache := if k.lastImage = h then k.berth.cache else [],
                                      last := k.berth.last }
  let rec0 := (recordOf (csr 23) (csr 24) (csr 25) s.clk).or (recordOf (csr 29) (csr 30) (csr 31) s.clk)
  let rec1 := (recordOf (csr 26) (csr 27) (csr 28) s.clk).or (recordOf (csr 32) (csr 33) (csr 34) s.clk)
  let k0 : Core := { k.shell with regs := regs, nt := nt, ntCount := BitVec.ofNat 64 (csr 22), fmtPend := fp, notice := notice, contain := contain,
                                  berth := berth, savedTask := none, ord := { Map.get {} s.orders h with begun := s.histNext } }
  let k1 : Core := { k0 with main := { pc := BitVec.ofNat 64 (g 8), hold := holdOf ((List.range 9).map fun i => g (0x308 + 8 * i)) },
                             e0 := { k.e0 with record := rec0 }, e1 := { k.e1 with record := rec1 }, task := some { t with header := h }, pend := { codeGone := bitAt (g 0) 40 } }
  let heads := [(Csr.VMROOT, g 0x20), (Csr.TPC, g 8), (Csr.TCAUSE, g 0x10)]
  let k2 := (heads ++ csrs.map fun e => (e.1, csr e.2)).foldl (fun (k : Core) e => k.csrPut e.1 (csrImage e.1 (BitVec.ofNat 64 e.2))) k1
  let k3 := (List.range (spad * 32768)).foldl (fun (k : Core) i =>
    let k := k.spWrite (8 * i) (toBytes 8 (g (0x66000 + 8 * i)))
    if bad (0x66000 + 8 * i) then k.spPoison (8 * i) 8 else k) { k2 with scratch := [], junk := [], scratchPoison := [] }
  let s := { s with orders := Map.erase s.orders h }.setCore c k3
  (s.endOwnedIn (h + 0x18) 8).hardWrite (h + 0x18) (toBytes 8 (c + 1))

end Sys2Proof.Machine
end

