-- ==== Sys2Proof/Machine/Engines.lean ====
section
/-! DEFINITION. The copy engines: the next unit of every kind of request, failures and records, aborts, completion, load-blocks
and ring tiles (R138 to R161). -/

namespace Sys2Proof.Machine

open Sys2Proof

/-! ### Engines of a core -/

/-- Engine E0 or E1. -/
def Core.eng (k : Core) (e : Bool) : Engine := if e then k.e1 else k.e0
def Core.setEng (k : Core) (e : Bool) (g : Engine) : Core := if e then { k with e1 := g } else { k with e0 := g }
/-- Request `i` of an engine replaced. -/
def Engine.put (g : Engine) (i : Nat) (r : Req) : Engine := { g with reqs := g.reqs.set i r }
/-- Request `i` of engine `e` of core `c` replaced. -/
def State.putReq (s : State) (c : Nat) (e : Bool) (i : Nat) (r : Req) : State :=
  s.onCore c fun k => k.setEng e ((k.eng e).put i r)

/-- The C-map opcode of a request (R145). -/
def ReqOp.opc : ReqOp → Nat
  | .copy opc .. => opc
  | .tensor .. => 3 | .ldblk .. => 4 | .wbblk .. => 5 | .evblk .. => 6 | .rpush .. => 7 | .gath .. => 8 | .scat .. => 9
  | .scata .. => 10 | .red .. => 11 | .coll .. => 12 | .send .. => 13 | .recv .. => 14

/-- The path class of a request's accesses (R145). -/
def ReqOp.cls : ReqOp → PathClass
  | .gath .. | .scat .. | .scata .. => .gather
  | .coll .. | .send .. | .recv .. => .coll
  | _ => .copy
/-- Who makes the writes of a request of core `c`. -/
def Req.by_ (r : Req) (c : Nat) : WriteBy := .engine r.op.cls c (some r.ticket)

/-! ### Combination (R156) -/

/-- Op of R156 on two encodings: 0 add, 1 min, 2 max. -/
def combine (f : Fmt) (op a b : Nat) : Nat × Flags :=
  let n := fmtn0
  let w := fmtWidth n f
  if fmtIsInt f then
    let x := intVal n f a
    let y := intVal n f b
    let r := match op with
      | 0 => x + y
      | 1 => if x ≤ y then x else y
      | _ => if x ≤ y then y else x
    (wrap w r, 0)
  else match op with
    | 0 => deliver n f .rne false ⟨0, 0, 0⟩ (addExact .rne (valueOf n f a) (valueOf n f b))
    | 1 => minMaxFloat n f false a b
    | _ => minMaxFloat n f true a b

/-- The width in bytes of a format code's element (R155, R160). -/
def codeBytes (f : Nat) : Nat := max 1 (fmtWidth fmtn0 ((fmtOfCode f).getD .int8) / 8)

/-! ### Reading and writing one run -/

/-- What reading a run of bytes gives: the bytes, the holder of poison among them, and the virtual address of a POISON word. -/
structure Run where
  bs : List Byte
  bad : Option Holder := none
  lost : Option Nat := none
  /-- The state with A set and translations held, and the values that the read took from owners at their homes. -/
  s : State

/-- Bytes of memory within one granule, as a request born at `born` reads them on an engine's path. -/
def State.readPiece (s : State) (c : Nat) (r : Req) (va n pick : Nat) : Except (Nat × Nat) Run :=
  match s.elementPa c r.root .read va with
  | .error e => .error e
  | .ok pa => .ok { bs := s.engineRead r.born pa n pick, bad := if s.poisoned pa n then some (s.memHolder pa (BitVec.ofNat 64 va)) else none,
                    lost := if s.lostIn pa n then some va else none, s := (s.touch c r.root .read va).engineLook pa n pick }

/-- Bytes of memory from `va`, across at most one granule boundary. -/
def State.readMem (s : State) (c : Nat) (r : Req) (va n pick : Nat) : Except (Nat × Nat) Run :=
  let n1 := min n (65536 - va % 65536)
  match s.readPiece c r va n1 pick with
  | .error e => .error e
  | .ok a =>
    if n1 = n then .ok a
    else match a.s.readPiece c r (addr va n1) (n - n1) pick with
      | .error e => .error e
      | .ok b => .ok { bs := a.bs ++ b.bs, bad := a.bad.or b.bad, lost := a.lost.or b.lost, s := b.s }

/-- Bytes of a source: scratchpad or memory. -/
def State.readSrc (s : State) (c : Nat) (r : Req) (sp : Bool) (a n pick : Nat) : Except (Nat × Nat) Run :=
  if sp then let k := s.core c
             .ok { bs := k.spRead a n, bad := if k.spBad a n then some { kind := 3, unit := c, loc := a } else none, s := s }
  else s.readMem c r a n pick

/-- A unit of a request has met a POISON word at `va` (R304): MEM-LOST for the core that holds the issuing task. -/
def State.owedLost (s : State) (c : Nat) (r : Req) (va : Nat) : State :=
  match s.issuer c r.header with
  | .inl i => s.onCore i fun k => k.raiseLost (BitVec.ofNat 64 va) r.pc
  | .inr _ => s
/-- A unit of a request has consumed the poison of a holder (R156, R363): MEM-UE for the core that holds the issuing task; for one that only
an image holds, or that has ended, the error ring alone tells of it. -/
def State.owedUe (s : State) (c : Nat) (r : Req) (h : Holder) : State :=
  match s.issuer c r.header with
  | .inl i => s.consumed i h r.pc
  | .inr _ => s.errorRecord h.kind 2 h.unit h.loc r.pc
/-- The same where there may be such a holder. -/
def State.owedAte (s : State) (c : Nat) (r : Req) (h : Option Holder) : State :=
  match h with
  | some h => s.owedUe c r h
  | none => s

/-- A line that a teller routine holds: an engine's write to it waits (R148, R280). -/
def State.lineHeld (s : State) (pa : Nat) : Bool := s.teller.any fun t => t.line / 128 = pa / 128

/-- What a request reads of its link group at issue (R159): the modules of its members, this module's index, and, for a CPYT, the local
extents of its source and destination (R116). -/
def Req.ofGroup (s : State) (r : Req) : Req :=
  let member (g : Nat) : Req := { r with mods := (List.range (s.groupOf g).2.1).map (s.memberModule g), me := (s.groupOf g).2.2 }
  match r.op with
  | .coll _ g .. => member g
  | .send _ g .. => member g
  | .recv _ g .. => member g
  | .tensor d a _ _ => { r with exts := [s.extents a, s.extents d] }
  | _ => r

/-- A request that runs on across a snapshot's cut: COLL, SEND, RECV (R384). -/
def ReqOp.crossesCut : ReqOp → Bool
  | .coll .. => true
  | .send .. => true
  | .recv .. => true
  | _ => false

/-- From the module cut until the arm of its home die, what such a request writes waits: it is not in the epoch's image (R386, R388). -/
def State.cutHeld (s : State) (r : Req) (pa : Nat) : Bool :=
  r.op.crossesCut && s.snap.phase = 1 && s.snap.moduleCut && pa < hbmSize && stackOf pa / 2 ∉ s.snap.armed

/-- The outcome of trying the next unit of a request. -/
inductive Move where
  /-- The unit waits. -/
  | wait
  /-- Every unit is done. -/
  | done
  /-- The unit meets a failure of R150: KIND and address. -/
  | fail (kind va : Nat)
  /-- The unit is done: the state and the request after it. -/
  | next (s : State) (r : Req)

/-- Writes a unit's bytes to memory within one line: a unit that meets a POISON word is dropped (R304), a poisoned one poisons
its sectors (R362). -/
def State.writeUnit (s : State) (c : Nat) (r r' : Req) (va : Nat) (x : Run) : Move :=
  match s.elementPa c r.root .write va with
  | .error e => .fail e.1 e.2
  | .ok pa =>
    if s.lineHeld pa || s.cutHeld r pa then .wait
    else
      let s := s.touch c r.root .write va
      match x.lost.or (if s.lostIn pa x.bs.length then some va else none) with
      | some l => .next (s.owedLost c r l) r'
      | none =>
        let (s, m) := s.engineWrite (r.by_ c) pa x.bs
        let s := s.owedAte c r (if m.ue then some (s.memHolder pa (BitVec.ofNat 64 va)) else none)
        .next (if x.bad.isSome then s.poisonRange pa x.bs.length else s) r'

/-- Writes a unit's bytes to the scratchpad or to memory. -/
def State.writeDst (s : State) (c : Nat) (r r' : Req) (sp : Bool) (a : Nat) (x : Run) : Move :=
  if sp then
    match x.lost with
    | some l => .next (s.owedLost c r l) r'
    | none => .next (s.onCore c fun k => let k := k.spWrite a x.bs
                                         if x.bad.isSome then k.spPoison a x.bs.length else k) r'
  else s.writeUnit c r r' a x

/-! ### CPY and CPYW (R152) -/

/-- Some row of a strided block covers the address: `rows` rows of `n` bytes from `base`, `stride` apart. -/
def rowsCover (base : Nat) (stride : Int) (rows n a : Nat) : Bool :=
  let x := signedOf 64 (wrap 64 ((a : Int) - base))
  let hit (i : Int) : Bool := 0 ≤ i && i < rows && 0 ≤ x - i * stride && x - i * stride < n
  if stride = 0 then hit 0
  else if 0 < stride then hit (min (x / stride) (rows - 1))
  else hit (max 0 (-(x / -stride)))

/-- The next unit of a CPY or CPYW. -/
def State.copyUnit (s : State) (c : Nat) (r : Req) (mode rows rowBytes dst src : Nat) (dstr sstr : Int) : Move :=
  if rows * rowBytes ≤ r.done then .done
  else
    let row := r.done / rowBytes
    let i := r.done % rowBytes
    let da := addAddr dst (row * dstr + i)
    let sa := addAddr src (row * sstr + i)
    let n := min (rowBytes - i) (128 - da % 128)
    match s.readSrc c r (2 ≤ mode) sa n (s.freeVal 0) with
    | .error e => .fail e.1 e.2
    | .ok x =>
      let same : Bool := mode = 0 || mode = 3
      let free (j : Nat) : Bool := same && (rowsCover src sstr rows rowBytes (addr da j)
        || (mode = 3 && rowsCover dst dstr rows rowBytes (addr sa j)))
      let bs := (List.range n).map fun j => if free j then BitVec.ofNat 8 (s.freeVal (8 + j)) else x.bs.getD j 0
      x.s.writeDst c r { r with done := r.done + n } (mode % 2 = 1) da { x with bs := bs }

/-! ### CPYT (R153) -/

/-- What reading an element leaves: A bits and translations of its granules (R108), and owners' values that it took at their homes. -/
def State.elementLook (s : State) (c : Nat) (root : Word64) (n : Fmtn) (x : Desc) (xs : List Nat) (e : Elt) (pick : Nat) : State :=
  (List.range (descPlaneCount n x)).foldl (fun s k => match s.exactPa c root .read (elementAt n x xs k).1 with
    | .ok pa => s.engineLook pa ((descBits n x + 7) / 8) pick
    | .error _ => s) (s.touchPages c root .read e.pages)

/-- The next unit of a CPYT whose region is known. A conversion or a copy of a poisoned element writes it poisoned and consumes the poison
(R362, R363). -/
def State.tensorUnit (s : State) (c : Nat) (r : Req) (dst src : Desc) (rm : RM) (reg : Region6) : Move :=
  if regionSize reg ≤ r.done then .done
  else
    let n := fmtnOf r.fmtn
    let pick := s.freeVal 0
    let xs := regionAt reg r.done
    let e := s.readElement c r.root n src xs 0 (fun a m => s.engineRead r.born a m pick)
    match e.fails with
    | f :: _ => .fail f.2.1 f.2.2
    | [] =>
      let fs := descFmt src
      let fd := descFmt dst
      let (v, fl) : Nat × Flags := if fs = fd then (e.v, 0)
        else convert n fd rm false (fmtIsInt fs) ⟨r.seed.toNat, 0, r.done⟩ (valueOf n fs e.v)
      let s := s.elementLook c r.root n src xs e pick
      let (ws, bad) := s.elementWrites c r.root n dst xs 0 { e with v := v }
      match bad with
      | f :: _ => .fail f.2.1 f.2.2
      | [] =>
        let r' := { r with done := r.done + 1, flags := r.flags ||| fl }
        if ws.any fun w => s.lineHeld w.pa then .wait
        else
          let s := s.touchPages c r.root .write (ws.map fun w => w.va / 65536).eraseDups
          match e.lostAt.or ((ws.find? fun w => s.lostIn w.pa w.n).map (·.va)) with
          | some l => .next (s.owedLost c r l) r'
          | none =>
            let ate := e.ate.map fun x => s.memHolder x.1 (BitVec.ofNat 64 x.2)
            let (s, met) := ws.foldl (State.planWrite (r.by_ c)) (s, {})
            .next (s.owedAte c r (ate.or met.ate)) r'

/-- A CPYT: its region record first, then its elements. The record's bytes are used, so that their poison is consumed and a POISON word told
of, once, before the record is judged (R304, R363). -/
def State.tensorMove (s : State) (c : Nat) (r : Req) (dst src : Desc) (rm : RM) (record : Nat) : Move :=
  let rank := descRank src
  match r.region with
  | some reg => s.tensorUnit c r dst src rm reg
  | none =>
    if record = 0 then s.tensorUnit c r dst src rm (wholeRegion (r.exts.getD 0 []))
    else match s.readMem c r record 48 (s.freeVal 0) with
      | .error e => .fail e.1 e.2
      | .ok x =>
        let (reg, high) := recordRegion rank x.bs
        if r.sent = 0 && (x.bad.isSome || x.lost.isSome) then
          let s := match x.lost with
            | some l => x.s.owedLost c r l
            | none => x.s
          .next (s.owedAte c r x.bad) { r with sent := 1 }
        else if high || !regionIn reg (r.exts.getD 0 []) || !regionIn reg (r.exts.getD 1 []) then .fail 7 record
        else .next x.s { r with region := some reg }

/-! ### Rings (R154, R172) -/

/-- Fields of a ring register (R172). -/
def ringEn (g : BitVec 128) : Bool := bitAt g.toNat 63
def ringFmt (g : BitVec 128) : Nat := field g.toNat 56 6
def ringCap (g : BitVec 128) : Nat := field g.toNat 44 4 + 1
def ringBase (g : BitVec 128) : Nat := field g.toNat 13 9 * 8192
def ringFin (g : BitVec 128) : Nat := field g.toNat 112 16
def ringResv (g : BitVec 128) : Nat := field g.toNat 96 5
def ringAvail (g : BitVec 128) : Nat := field g.toNat 88 5
def ringHead (g : BitVec 128) : Nat := field g.toNat 80 4

/-- The ring with another state. -/
def ringState (g : BitVec 128) (fin resv avail head : Nat) : BitVec 128 :=
  BitVec.ofNat 128 (setField (setField (setField (setField g.toNat 112 16 fin) 96 5 resv) 88 5 avail) 80 4 head)

/-- The checks of R173. -/
def Core.ringBad (k : Core) (g : BitVec 128) : Bool :=
  !ringEn g || (match fmtOfCode (ringFmt g) with | some f => !isPass f | none => true)
    || k.spSize < ringBase g + ringCap g * 8192

/-- Every element of the tile in a slot is finite or an integer (R154). -/
def Core.tileFinite (k : Core) (n : Fmtn) (f : Fmt) (off : Nat) : Bool :=
  let w := fmtWidth n f
  let per := 1024 / w
  (List.range 64).all fun r =>
    let row := ofBytes (k.spRead (off + 128 * r) 128)
    (List.range per).all fun i => (valueOf n f (laneOf w row i)).isFinite

/-- The next row of an RPUSH; row count 64 is the tile landed, 65 the tile available. -/
def State.pushUnit (s : State) (c : Nat) (r : Req) (ring slot src : Nat) (stride : Int) (sp : Bool) : Move :=
  if 64 ≤ r.done then (if r.done = 64 then .wait else .done)
  else
    match s.readSrc c r sp (addAddr src (r.done * stride)) 128 (s.freeVal 0) with
    | .error e => .fail e.1 e.2
    | .ok x =>
      let k := s.core c
      let off := ringBase (vget 0 k.regs.g ring) + slot * 8192 + 128 * r.done
      x.s.writeDst c r { r with done := r.done + 1 } true off x

/-- A request fills ring `g`. -/
def Req.pushes (r : Req) (g : Nat) : Bool := match r.op with | .rpush ring .. => ring = g && r.done < 65 | _ => false

/-- The oldest RPUSH to ring `g` whose tile is not available: engine and index (R154). -/
def Core.oldestPush (k : Core) (g : Nat) : Option (Bool × Nat × Req) :=
  let all := [false, true].flatMap fun e => (List.range (k.eng e).reqs.length).filterMap fun i =>
    ((k.eng e).reqs[i]?).bind fun r => if r.pushes g then some (e, i, r) else none
  all.foldl (fun (m : Option (Bool × Nat × Req)) x => match m with
    | some y => if x.2.2.ticket < y.2.2.ticket then some x else m
    | none => some x) none

/-- The rows of a tile in the scratchpad, and its poisoned rows. -/
def Core.tileAt (k : Core) (off : Nat) : List (BitVec 1024) × BitVec 64 :=
  ((List.range 64).map fun r => BitVec.ofNat 1024 (ofBytes (k.spRead (off + 128 * r) 128)),
   (List.range 64).foldl (fun m r => if k.spBad (off + 128 * r) 128 then m ||| BitVec.ofNat 64 (2 ^ r) else m) 0)

/-- A tile becomes available (R154): the oldest push to the ring has landed, and a pass will read the tile as it stands now (R221). -/
def State.tileReady (s : State) (c g : Nat) : State :=
  let k := s.core c
  match k.oldestPush g with
  | some (e, i, r) =>
    match r.op with
    | .rpush _ slot _ _ _ fmt =>
      if r.done ≠ 64 then s
      else
        let reg := vget 0 k.regs.g g
        let n := fmtnOf r.fmtn
        let fin := k.tileFinite n ((fmtOfCode fmt).getD .f32) (ringBase reg + slot * 8192)
        let reg' := ringState reg (setField (ringFin reg) slot 1 (bit fin)) (ringResv reg) (ringAvail reg + 1) (ringHead reg)
        let k := { k.setG (BitVec.ofNat 4 g) reg' with tiles := Map.put k.tiles (16 * g + slot) (k.tileAt (ringBase reg + slot * 8192)) }
        (s.setCore c k).putReq c e i { r with done := 65 }
    | _ => s
  | none => s

/-! ### GATH, SCAT, SCATA and RED (R155 to R157) -/

/-- Bytes of an index of format IW (R155). -/
def indexBytes (iw : Nat) : Nat := if iw = 2 then 8 else 4

/-- Index `i` of the list, read on the GATHER path, and what reading it met. -/
def State.readIndex (s : State) (c : Nat) (r : Req) (idx iw i : Nat) : Except (Nat × Nat) (Int × Run) :=
  let w := indexBytes iw
  match s.readMem c r (addr idx (i * w)) w (s.freeVal 1) with
  | .error e => .error e
  | .ok x => .ok (if iw = 0 then (ofBytes x.bs : Int) else signedOf (8 * w) (ofBytes x.bs), x)

/-- An element `v` at an address that index `i` gives: a poisoned index is consumed, and what the unit writes is poisoned (R362, R363); a
POISON word in the index drops the unit (R304). -/
def Run.byIndex (v i : Run) (c : Nat) (r : Req) : Run :=
  { v with bad := v.bad.or i.bad, lost := i.lost.or v.lost, s := if (i.lost.or v.lost).isSome then v.s else v.s.owedAte c r i.bad }

def State.gathUnit (s : State) (c : Nat) (r : Req) (sp : Bool) (dst base idx iw esz count : Nat) : Move :=
  if count ≤ r.done then .done
  else match s.readIndex c r idx iw r.done with
  | .error e => .fail e.1 e.2
  | .ok (x, i) =>
    let e : Nat := 2 ^ esz
    match i.s.readMem c r (addAddr base (x * e)) e (s.freeVal 0) with
    | .error e => .fail e.1 e.2
    | .ok v =>
      let v := v.byIndex i c r
      v.s.writeDst c r { r with done := r.done + 1 } sp (addr dst (r.done * e)) v

def State.scatUnit (s : State) (c : Nat) (r : Req) (sp : Bool) (base src idx iw esz count : Nat) : Move :=
  if count ≤ r.done then .done
  else match s.readIndex c r idx iw r.done with
  | .error e => .fail e.1 e.2
  | .ok (x, i) =>
    let e : Nat := 2 ^ esz
    match i.s.readSrc c r sp (addr src (r.done * e)) e (s.freeVal 0) with
    | .error e => .fail e.1 e.2
    | .ok v =>
      let v := v.byIndex i c r
      v.s.writeUnit c r { r with done := r.done + 1 } (addAddr base (x * e)) v

/-- One combination at `va` (R156): a poisoned operand or sector drops it and poisons the sector (R362, R363). -/
def State.combineUnit (s : State) (c : Nat) (r : Req) (va f op : Nat) (v : Run) : Move :=
  let w := codeBytes f
  match s.elementPa c r.root .write va with
  | .error e => .fail e.1 e.2
  | .ok pa =>
    let r' := { r with done := r.done + 1 }
    if s.lineHeld pa then .wait
    else
      let s := (s.touch c r.root .write va).endOwnedIn pa w
      match v.lost.or (if s.lostIn pa w then some va else none) with
      | some l => .next (s.owedLost c r l) r'
      | none =>
        match v.bad with
        | some h => .next (s.owedUe c r h) r'
        | none =>
          if s.poisoned pa w then .next ((s.poisonRange pa w).owedUe c r (s.memHolder pa (BitVec.ofNat 64 va))) r'
          else
            let (x, fl) := combine ((fmtOfCode f).getD .int32) op (s.natAt pa w) (ofBytes v.bs)
            let s := (s.engineWrite (r.by_ c) pa (toBytes w x)).1
            .next s { r' with flags := r.flags ||| fl }

def State.scataUnit (s : State) (c : Nat) (r : Req) (sp : Bool) (op base src idx iw f count : Nat) : Move :=
  if count ≤ r.done then .done
  else match s.readIndex c r idx iw r.done with
  | .error e => .fail e.1 e.2
  | .ok (x, i) =>
    let e := codeBytes f
    match i.s.readSrc c r sp (addr src (r.done * e)) e (s.freeVal 0) with
    | .error e => .fail e.1 e.2
    | .ok v => v.s.combineUnit c r (addAddr base (x * e)) f op { v with bad := i.bad.or v.bad, lost := i.lost.or v.lost }

def State.redUnit (s : State) (c : Nat) (r : Req) (sp : Bool) (op dst src f count : Nat) : Move :=
  if count ≤ r.done then .done
  else
    let e := codeBytes f
    match s.readSrc c r sp (addr src (r.done * e)) e (s.freeVal 0) with
    | .error e => .fail e.1 e.2
    | .ok v => v.s.combineUnit c r (addr dst (r.done * e)) f op v

/-! ### Load-blocks (R138 to R141) -/

/-- The physical address of each line of a block that translates. -/
def State.blockLines (s : State) (c : Nat) (root : Word64) (b : Block) : List Nat :=
  (List.range b.count).filterMap fun i => match s.elementPa c root .read (b.base + 128 * i : Nat) with
    | .ok pa => some pa
    | .error _ => none

/-- The lines of a tag's block leave the core's L1: what it owned there goes to its home (R125, R140, R296). -/
def State.blockLeaves (s : State) (c : Nat) (root : Word64) (tag : Nat) : State :=
  match Map.find (s.core c).blocks tag with
  | none => s
  | some b =>
    let ls := s.blockLines c root b
    s.endOwned fun w o => o = c && ls.any fun l => l / 128 = w / 32

/-- The next line of an LDBLK; starting, it replaces the tag's old block, whose lines leave the cache (R140). -/
def State.ldblkUnit (s : State) (c : Nat) (r : Req) (tag base count : Nat) (ntc : Bool) : Move :=
  if !r.started then
    .next ((s.blockLeaves c r.root tag).onCore c fun k =>
      { k with blocks := Map.put k.blocks tag { base := base, count := count, ntc := ntc, ticket := r.ticket } }) r
  else if count ≤ r.done then .done
  else match s.elementPa c r.root .read (base + 128 * r.done : Nat) with
    | .error e => .fail e.1 e.2
    | .ok _ => .next (s.touch c r.root .read (addr base (128 * r.done))) { r with done := r.done + 1 }

/-- The block of an LDBLK is complete or stopped: DONE, with FAULT when it stopped (R140). -/
def Core.blockDone (k : Core) (tag ticket : Nat) (fault : Bool) : Core :=
  match Map.find k.blocks tag with
  | some b => if b.ticket = ticket then { k with blocks := Map.put k.blocks tag { b with done := true, fault := b.fault || fault } } else k
  | none => k

/-- WBBLK: every word of the block that this core owns goes to its home (R140). -/
def State.wbblkUnit (s : State) (c : Nat) (r : Req) (tag : Nat) : Move :=
  if r.done = 1 then .done else .next (s.blockLeaves c r.root tag) { r with done := 1 }

/-- EVBLK: the lines leave the cache and the tag holds no block (R140). -/
def State.evblkUnit (s : State) (c : Nat) (r : Req) (tag : Nat) : Move :=
  if r.done = 1 then .done
  else .next ((s.blockLeaves c r.root tag).onCore c fun k => { k with blocks := Map.erase k.blocks tag }) { r with done := 1 }

/-! ### Transfers between modules (R158 to R161) -/

/-- The link of traffic number `n` to module `m` (R158, R434, R426): the tag of a transfer, or the number of a line. -/
def State.transferLink (s : State) (m n : Nat) : Option Nat :=
  match s.linksTo m with
  | [] =>
    let q := (s.ctlGet (Ctl.QROUTE m)).toNat
    if bitAt q 4 && (Map.get ({} : Link) s.links (q % 16)).up then some (q % 16) else none
  | l :: ls => (l :: ls)[n % (ls.length + 1)]?

/-- The link of untagged traffic that concerns the line at `pa` in another module's window (R158). -/
def State.lineLink (s : State) (pa : Nat) : Option Nat := s.transferLink (field pa 42 8) (pa % 2 ^ 42 / 128)

/-- The links to some members of a request's group; none where one cannot be reached. -/
def State.vias (s : State) (mods : List Nat) (tag : Nat) (ms : List Nat) : Option (List (Nat × Nat)) :=
  ms.foldr (fun m r => r.bind fun l => (s.transferLink (mods.getD m 0) tag).map fun k => (m, k) :: l) (some [])

/-- Claims the next transfer of a key for a request, in the order of the matcher (R161). -/
def claim (g src tag c ticket : Nat) : List Inbound → List Inbound
  | [] => [{ group := g, src := src, tag := tag, taker := some (c, ticket) }]
  | x :: xs => if x.group = g && x.src = src && x.tag = tag && x.taker.isNone && !x.discard then { x with taker := some (c, ticket) } :: xs
               else x :: claim g src tag c ticket xs

/-- The transfer from a member that a request has claimed. -/
def State.claimed (s : State) (src c ticket : Nat) : Option Inbound := s.inbound.find? fun x => x.src = src && x.taker = some (c, ticket)

/-- An abort of a member that sends this collective nothing: an entry that no request has claimed, from a member with no claimed one (log 30). -/
def State.looseAbort (s : State) (c ticket g tag : Nat) (x : Inbound) : Bool :=
  x.group = g && x.tag = tag && x.aborted && x.taker.isNone && (s.claimed x.src c ticket).isNone

/-- A request gives its transfers up: what has ended goes, and what comes over a link that is down; the rest is accepted and discarded
(R151, R158, R161). -/
def State.release (s : State) (c : Nat) (r : Req) : State :=
  let mine (x : Inbound) : Bool := x.taker = some (c, r.ticket)
  let loose (x : Inbound) : Bool := match r.op with
    | .coll _ g _ _ _ tag .. => s.looseAbort c r.ticket g tag x
    | _ => false
  let dead (x : Inbound) : Bool := x.ended || r.cut && match x.link with
    | some l => !(Map.get ({} : Link) s.links l).up
    | none => r.via.any fun v => v.1 = x.src && !(Map.get ({} : Link) s.links v.2).up
  { s with inbound := (s.inbound.filter fun x => !loose x && !(mine x && dead x)).map fun x =>
      if mine x then { x with discard := true, bytes := [] } else x }

/-- The request's next flit goes out on a link. -/
def State.sendFlit (s : State) (link : Nat) (f : Flit) : State := { s with out := s.out ++ [(link, f)] }

/-- Flits of a transfer of `n` bytes: 112 payload bytes each, one for an empty transfer (R158, R161). -/
def flitCount (n : Nat) : Nat := max 1 (ceilDiv n 112)

/-- Flit `i` of the transfer of `n` bytes from `a` to member `m` (R158), and the POISON word that it met. -/
def State.transferFlit (s : State) (c : Nat) (r : Req) (sp : Bool) (g tag m a n i : Nat) : Except (Nat × Nat) (Flit × State × Option Nat) :=
  let len := min 112 (n - 112 * i)
  match s.readSrc c r sp (addr a (112 * i)) len (s.freeVal 0) with
  | .error e => .error e
  | .ok x => .ok ({ kind := 0, group := g, srcm := r.me, dstm := m, tag := tag, fin := i + 1 = flitCount n, len := len,
                    offset := 112 * i, payload := x.bs, bad := x.bad.isSome }, x.s, x.lost)

/-- A flit goes out, and a POISON word that it met is told to the issuer (R304). -/
def State.sendPart (s : State) (c : Nat) (r : Req) (link : Nat) (f : Flit) (lost : Option Nat) : State :=
  (match lost with
    | some l => s.owedLost c r l
    | none => s).sendFlit link f

/-- The next unit of a SEND; when its END flit has gone out it waits until the receiver accepts that (R161). -/
def State.sendUnit (s : State) (c : Nat) (r : Req) (sp : Bool) (g peer tag src len : Nat) : Move :=
  if !r.started then
    match s.vias r.mods tag [peer] with
    | none => .fail 2 src
    | some v => .next s { r with via := v }
  else if flitCount len ≤ r.sent then (if r.accepted then .done else .next s { r with accepted := s.freeVal 3 % 2 = 1 })
  else match s.transferFlit c r sp g tag peer src len r.sent with
    | .error e => .fail e.1 e.2
    | .ok (f, s, lost) => .next (s.sendPart c r ((r.via.head?.map (·.2)).getD 0) f lost) { r with sent := r.sent + 1, done := f.offset + f.len }

/-- The bytes of a claimed transfer from an offset on, as far as they have arrived without a gap, `n` at most. -/
def Inbound.run (x : Inbound) (o : Nat) : Nat → List Byte
  | 0 => []
  | n + 1 => match Map.find x.bytes o with
    | some b => b :: x.run (o + 1) n
    | none => []

/-- The holder of poison that flits have brought to core `c` at bytes `o` to `o + n - 1` of a transfer (R364: the Quay Link's row). -/
def Inbound.badAt (x : Inbound) (c o n : Nat) : Option Holder :=
  if (List.range n).any fun i => o + i ∈ x.bad then some { kind := 9, unit := c, loc := o } else none

/-- An earlier RECV of the core with the same key has not reached the matcher (R161). -/
def Core.recvBefore (k : Core) (g peer tag ticket : Nat) : Bool :=
  (k.e0.reqs ++ k.e1.reqs).any fun r => r.ticket < ticket && !r.started && !r.ended && match r.op with
    | .recv _ g' p' t' _ _ => g' = g && p' = peer && t' = tag
    | _ => false

/-- The next unit of a RECV. What has arrived before its link went down is delivered first (R158, R161). -/
def State.recvUnit (s : State) (c : Nat) (r : Req) (sp : Bool) (g peer tag dst len : Nat) : Move :=
  if !r.started then
    if (s.core c).recvBefore g peer tag r.ticket then .wait
    else .next { s with inbound := claim g peer tag c r.ticket s.inbound } { r with via := (s.vias r.mods tag [peer]).getD [] }
  else match s.claimed peer c r.ticket with
  | none => if r.cut then .fail 3 0 else .wait
  | some x =>
    let n := min (128 - addr dst r.done % 128) (len - r.done)
    let bs := x.run r.done n
    if bs ≠ [] then
      s.writeDst c r { r with done := r.done + bs.length } sp (addr dst r.done) { bs := bs, bad := x.badAt c r.done bs.length, s := s }
    else if len ≤ r.done && len < x.len then .fail 6 0
    else if x.aborted then .fail 5 0
    else if x.cut then .fail 3 0
    else if x.ended && x.len ≤ r.done then .done
    else if r.cut then .fail 3 0
    else .wait

/-- A collective's kind, from its SUB (R160): 0 .ag, 1 .rs, 2 .ar, 3 .bc, 4 .a2a. The members to which member `m` sends. -/
def collTo (kind n m root : Nat) : List Nat :=
  if kind = 3 then (if m = root then (List.range n).filter (· ≠ m) else []) else (List.range n).filter (· ≠ m)
/-- The members from which member `m` receives. -/
def collFrom (kind n m root : Nat) : List Nat :=
  if kind = 3 then (if m = root then [] else [root]) else (List.range n).filter (· ≠ m)
/-- The offset in a member's source of what it gives to member `m`. -/
def collOffset (kind m bytes : Nat) : Nat := if kind = 1 || kind = 4 then m * bytes else 0
/-- The bytes of a member's destination, `bytes` being the size of N elements. -/
def collSize (kind n bytes : Nat) : Nat := if kind = 0 || kind = 4 then n * bytes else bytes

/-- What member `k` gives this member at bytes `q` to `q + w - 1` of its contribution: the own source, or flits received; none while those
have not arrived. -/
def State.collPart (s : State) (c : Nat) (r : Req) (kind k src bytes q w : Nat) : Except (Nat × Nat) (Option Run) :=
  if k = r.me then
    match s.readMem c r (addr src (collOffset kind r.me bytes + q)) w (s.freeVal 0) with
    | .error e => .error e
    | .ok x => .ok (some x)
  else match s.claimed k c r.ticket with
    | none => .ok none
    | some x =>
      let bs := x.run q w
      .ok (if bs.length = w then some { bs := bs, bad := x.badAt c q w, s := s } else none)

/-- The parts of the first `n` members for one element, in ascending order (R160), and the state after them. -/
def State.collParts (s : State) (c : Nat) (r : Req) (kind src bytes q w : Nat) : (n : Nat) → Except (Nat × Nat) (Option (List Run × State))
  | 0 => .ok (some ([], s))
  | n + 1 => match s.collParts c r kind src bytes q w n with
    | .error e => .error e
    | .ok none => .ok none
    | .ok (some (l, t)) => match t.collPart c r kind n src bytes q w with
      | .error e => .error e
      | .ok none => .ok none
      | .ok (some p) => .ok (some (l ++ [p], p.s))

/-- Reduce of R160: the members in ascending order. -/
def reduceAll (f : Fmt) (op : Nat) : List Nat → Nat × Flags
  | [] => (0, 0)
  | p :: ps => ps.foldl (fun (a : Nat × Flags) x =>
      let y := combine f op a.1 x
      (y.1, a.2 ||| y.2)) (p, 0)

/-- One destination byte run of a collective. Poison is consumed where it reduces, else carried; a POISON word drops the run (R304, R362). -/
def State.collWrite (s : State) (c : Nat) (r : Req) (kind fmt op root count dst src : Nat) : Move :=
  let n := r.mods.length
  let w := codeBytes fmt
  let bytes := count * w
  let total := collSize kind n bytes
  let srcLen := if kind = 1 || kind = 4 then n * bytes else bytes
  let meets : Bool := rowsCover src 0 1 srcLen dst || rowsCover dst 0 1 total src
  let free (len : Nat) : List Byte := (List.range len).map fun j => BitVec.ofNat 8 (s.freeVal (8 + j))
  let line := 128 - addr dst r.done % 128
  if kind = 1 || kind = 2 then
    let e := r.done / w
    match s.collParts c r kind src bytes (e * w) w n with
    | .error e => .fail e.1 e.2
    | .ok none => .wait
    | .ok (some (ps, s)) =>
      let (v, fl) := reduceAll ((fmtOfCode fmt).getD .int32) op (ps.map fun p => ofBytes p.bs)
      let bad := ps.findSome? (·.bad)
      let lost := ps.findSome? (·.lost)
      let len := min line (w - r.done % w)
      let bs := ((toBytes w v).drop (r.done % w)).take len
      let r' := { r with done := r.done + len, flags := r.flags ||| fl }
      let s := if lost.isSome then s else s.owedAte c r bad
      s.writeUnit c r r' (addr dst r.done) { bs := if meets then free len else bs, bad := bad, lost := lost, s := s }
  else
    let k := if kind = 3 then root else r.done / bytes
    let q := if kind = 3 then r.done else r.done % bytes
    let len := min line (bytes - q)
    match s.collPart c r kind k src bytes q len with
    | .error e => .fail e.1 e.2
    | .ok none => .wait
    | .ok (some x) => x.s.writeUnit c r { r with done := r.done + len } (addr dst r.done) { x with bs := if meets then free len else x.bs }

/-- The next unit of a COLL: its flits go out, then its destination runs are written. A transfer to it that is longer or shorter than what
its own parameters give shows that the members' do not agree (R160). -/
def State.collUnit (s : State) (c : Nat) (r : Req) (kind g fmt op root tag count dst src : Nat) : Move :=
  let n := r.mods.length
  let bytes := count * codeBytes fmt
  let dests := collTo kind n r.me root
  let parts := s.inbound.filter fun x => x.taker = some (c, r.ticket)
  if count = 0 then .done
  else if !r.started then
    match s.vias r.mods tag ((List.range n).filter (· ≠ r.me)) with
    | none => .fail 2 src
    | some v => .next { s with inbound := (collFrom kind n r.me root).foldl (fun l k => claim g k tag c r.ticket l) s.inbound } { r with via := v }
  else if dests.length * flitCount bytes ≤ r.sent && collSize kind n bytes ≤ r.done then .done
  else if parts.any (·.cut) then .fail 3 0
  else if parts.any (·.aborted) || s.inbound.any (s.looseAbort c r.ticket g tag) then .fail 5 0
  else if parts.any fun x => bytes < x.len || (x.ended && x.len ≠ bytes) then .fail 4 0
  else if r.sent < dests.length * flitCount bytes then
    let k := dests.getD (r.sent / flitCount bytes) 0
    match s.transferFlit c r false g tag k (addr src (collOffset kind k bytes)) bytes (r.sent % flitCount bytes) with
    | .error e => .fail e.1 e.2
    | .ok (f, s, lost) => .next (s.sendPart c r (((r.via.find? fun v => v.1 = k).map (·.2)).getD 0) f lost) { r with sent := r.sent + 1 }
  else s.collWrite c r kind fmt op root count dst src

/-- A COLL of a key in flight on the module (R160). -/
def State.collBusy (s : State) (g tag : Nat) : Bool :=
  s.cores.any fun c => (c.2.e0.reqs ++ c.2.e1.reqs).any fun r => match r.op with
    | .coll _ g' _ _ _ t' .. => g' = g && t' = tag && !r.ended
    | _ => false

/-! ### Every request -/

/-- The next unit of a request whose links are up. -/
def State.unitOf (s : State) (c : Nat) (r : Req) : Move :=
  match r.op with
  | .copy _ mode rows rowBytes dst src dstr sstr => s.copyUnit c r mode rows rowBytes dst src dstr sstr
  | .tensor dst src rm record => s.tensorMove c r dst src rm record
  | .ldblk tag base count ntc => s.ldblkUnit c r tag base count ntc
  | .wbblk tag => s.wbblkUnit c r tag
  | .evblk tag => s.evblkUnit c r tag
  | .rpush ring slot src stride sp _ => s.pushUnit c r ring slot src stride sp
  | .gath sp dst base idx iw esz count => s.gathUnit c r sp dst base idx iw esz count
  | .scat sp base src idx iw esz count => s.scatUnit c r sp base src idx iw esz count
  | .scata sp op base src idx iw fmt count => s.scataUnit c r sp op base src idx iw fmt count
  | .red sp op dst src fmt count => s.redUnit c r sp op dst src fmt count
  | .coll kind g fmt op root tag count dst src => s.collUnit c r kind g fmt op root tag count dst src
  | .send sp g peer tag src len => s.sendUnit c r sp g peer tag src len
  | .recv sp g peer tag dst len => s.recvUnit c r sp g peer tag dst len

/-- The next unit of a request: one that had traffic on a link that went down ends with LINK (R158), a RECV after what it has received. -/
def State.nextUnit (s : State) (c : Nat) (r : Req) : Move :=
  match s.unitOf c r with
  | .done => .done
  | m => if r.cut && (match r.op with | .recv .. => false | _ => true) then .fail 3 0 else m

/-! ### Two requests of one engine (R148) -/

/-- The bytes that a request may write: a range of the scratchpad or of virtual memory, last byte excluded, or all of memory. -/
inductive Area where
  | none
  | sp (lo hi : Int)
  | mem (lo hi : Int)
  | all
deriving DecidableEq, Repr

/-- The area that a request of a core may write. -/
def Req.area (r : Req) (k : Core) : Area :=
  let range (sp : Bool) (a n : Nat) : Area :=
    if n = 0 then .none else if sp then .sp a (a + n) else .mem (signedOf 64 a) (signedOf 64 a + n)
  match r.op with
  | .copy _ mode rows rowBytes dst _ dstr _ =>
    let ends : Int := ((rows - 1 : Nat) : Int) * dstr
    let b : Int := if mode % 2 = 1 then dst else signedOf 64 dst
    let lo := b + min 0 ends
    let hi := b + max 0 ends + rowBytes
    if rows * rowBytes = 0 then .none else if mode % 2 = 1 then .sp lo hi else .mem lo hi
  | .tensor dst .. => match descRangeOf (fmtnOf r.fmtn) dst (r.exts.getD 1 []) with
    | some (lo, hi) => .mem lo (hi + 1)
    | none => .none
  | .ldblk .. => .none
  | .wbblk .. => .none
  | .evblk .. => .none
  | .send .. => .none
  | .rpush ring slot .. => range true (ringBase (vget 0 k.regs.g ring) + slot * 8192) 8192
  | .gath sp dst _ _ _ esz count => range sp dst (count * 2 ^ esz)
  | .scat .. => .all
  | .scata .. => .all
  | .red _ _ dst _ fmt count => range false dst (count * codeBytes fmt)
  | .coll kind _ fmt _ _ _ count dst _ => range false dst (collSize kind r.mods.length (count * codeBytes fmt))
  | .recv sp _ _ _ dst len => range sp dst len

/-- The physical pieces of a range of virtual memory that an access of kind `kind` reaches. -/
def State.pieces (s : State) (c : Nat) (root : Word64) (kind : Access) (lo hi : Int) : List (Nat × Nat) :=
  (List.range (((hi + 65535) / 65536 - lo / 65536).toNat)).filterMap fun (i : Nat) =>
    let g : Int := (lo / 65536 + i) * 65536
    let a := max lo g
    match s.elementPa c root kind a with
    | .ok pa => some (pa, (min hi (g + 65536) - a).toNat)
    | .error _ => none

/-- Two requests may write one byte. -/
def State.areasMeet (s : State) (c : Nat) (q r : Req) : Bool :=
  match q.area (s.core c), r.area (s.core c) with
  | .sp a b, .sp x y => a < y && x < b
  | .mem a b, .mem x y =>
    (a < y && x < b) || (s.pieces c q.root .write a b).any fun p => (s.pieces c r.root .write x y).any fun t => p.1 < t.1 + t.2 && t.1 < p.1 + p.2
  | .all, .mem .. => true
  | .mem .., .all => true
  | .all, .all => true
  | _, _ => false

/-- A request has nothing left to do but signal. -/
def State.finished (s : State) (c : Nat) (r : Req) : Bool :=
  match r.op with
  | .rpush .. => r.done = 65
  | _ => r.ended || (r.started && match s.nextUnit c r with | .done => true | _ => false)

/-- Request `i` waits for an earlier one of its engine that may yet write a byte of its own (R148). -/
def State.behind (s : State) (c : Nat) (e : Bool) (i : Nat) (r : Req) : Bool :=
  (((s.core c).eng e).reqs.take i).any fun q => !q.ended && s.areasMeet c q r && !s.finished c q

/-- The stopped unit that the engine retries first (R151). -/
def Engine.retries (g : Engine) : Option Nat := g.reqs.findIdx? (·.retry)

/-- Request `i` of an engine may be worked on (R144, R149, R151): it has started, or every earlier one has and no record of the
task on this engine is unresolved; and no stopped unit of another comes first. -/
def State.mayRun (s : State) (c : Nat) (e : Bool) (i : Nat) (r : Req) : Bool :=
  !r.ended && !r.held && !r.stopped && (((s.core c).eng e).retries.all (· = i)) &&
    (r.started || (!s.recordOpen c r.header e && (((s.core c).eng e).reqs.take i).all fun q => q.started || q.ended))

/-! ### Aborts, failures and records (R149 to R151) -/

/-- Bytes at a virtual address take free values, where they can be written (R8). -/
def State.forgetBytes (s : State) (c : Nat) (r : Req) (va n base : Nat) : State :=
  (List.range n).foldl (fun s i => match s.elementPa c r.root .write (addr va i) with
    | .ok pa => (s.engineWrite (r.by_ c) pa [BitVec.ofNat 8 (Config.freeNat (base + i))]).1
    | .error _ => s) s

/-- What a request that ends at failure `kind`, 0 for ACT = ABORT, tells the other members (R151, log 30): an abort flit to each over a link
that is up, with END where it ends a transfer that is open; after a partner's abort only such transfers are ended, and after a mismatch each
of them by an empty END flit, so that its receiver finds the mismatch too. `ms` are the members told, `dests` those it sends to, in order,
`per` the flits of each transfer. -/
def State.abortFlits (s : State) (r : Req) (g tag kind per : Nat) (ms dests : List Nat) : State :=
  let via := if r.via = [] then ms.filterMap fun m => (s.transferLink (r.mods.getD m 0) tag).map fun l => (m, l) else r.via
  via.foldl (fun s v =>
    let open_ : Bool := match dests.findIdx? (· = v.1) with
      | some j => r.sent < (j + 1) * per
      | none => false
    if !(Map.get ({} : Link) s.links v.2).up || ((kind = 4 || kind = 5) && !open_) then s
    else s.sendFlit v.2 { kind := if kind = 4 then 0 else 3, group := g, srcm := r.me, dstm := v.1, tag := tag, fin := open_, len := 0,
                          offset := 0, payload := [] }) s

/-- The effects of an abort of request `i`, which then only owes its signal (R151). `kind` is the failure that ended it, 0 for ACT = ABORT. -/
def State.abortReq (s : State) (c : Nat) (e : Bool) (i : Nat) (r : Req) (kind : Nat) : State :=
  let r' := { r with ended := true, held := false, stopped := false, retry := false }
  match r.op with
  | .rpush ring slot .. =>
    if 64 ≤ r.done then s.putReq c e i r'
    else
      let k := s.core c
      let off := ringBase (vget 0 k.regs.g ring) + slot * 8192 + 128 * r.done
      (s.setCore c (k.spWrite off (List.replicate (128 * (64 - r.done)) 0))).putReq c e i { r' with done := 64 }
  | .coll k g fmt _ root tag count dst _ =>
    let bytes := count * codeBytes fmt
    let n := collSize k r.mods.length bytes
    let from_ := if kind = 4 then 0 else r.done
    let s := if r.via = [] then
        { s with inbound := (collFrom k r.mods.length r.me root).foldl (fun l m => claim g m tag c r.ticket l) s.inbound }
      else s
    let s := ((s.forgetBytes c r (addr dst from_) (n - from_) s.free).drew (n + 1)).release c r
    let others := (List.range r.mods.length).filter (· ≠ r.me)
    (s.abortFlits r g tag kind (flitCount bytes) others (collTo k r.mods.length r.me root)).putReq c e i r'
  | .send _ g peer tag _ len => (s.abortFlits r g tag kind (flitCount len) [peer] [peer]).putReq c e i r'
  | .recv _ g peer tag _ _ =>
    let s := if (s.claimed peer c r.ticket).isSome then s else { s with inbound := claim g peer tag c r.ticket s.inbound }
    (s.release c r).putReq c e i r'
  | _ => s.putReq c e i r'

/-- A block tag whose LDBLK stopped: FAULT and DONE (R140). -/
def Req.blockFault (r : Req) (k : Core) : Core := match r.op with
  | .ldblk tag .. => k.blockDone tag r.ticket true
  | _ => k

/-- Request `i` meets a failure (R149, R151): behind an unresolved record it stops; else the record is written, in the core or
in the image of the saved task, and the request is held or ends. -/
def State.failUnit (s : State) (c : Nat) (e : Bool) (i : Nat) (r : Req) (kind va : Nat) : State :=
  if r.header = goneHeader then s.abortReq c e i r kind
  else if s.recordOpen c r.header e then s.putReq c e i { r with stopped := true, started := true, retry := false }
  else
    let isBlock : Bool := match r.op with | .ldblk .. => true | _ => false
    let addr : Word64 := if 3 ≤ kind && kind ≤ 6 then 0 else BitVec.ofNat 64 va
    let rec_ : EngRec := { kind := kind, opc := r.op.opc, addr := addr, pc := r.pc, time := s.clk }
    let s := match s.issuer c r.header with
      | .inl h => s.onCore h fun k => k.setEng e { k.eng e with record := some rec_ }
      | .inr h => s.hardWrite (postRecord h e) ((recordWords e (some rec_)).flatMap fun (w : Word64) => toBytes 8 w.toNat)
    let s := s.onCore c r.blockFault
    if kind = 1 && !isBlock then s.putReq c e i { r with held := true, started := true, retry := false }
    else s.abortReq c e i { r with recorded := true, started := true } kind

/-- Works request `i` of an engine by one unit; none when nothing moves. A stopped unit that must wait has been retried. -/
def State.workReq (s : State) (c : Nat) (e : Bool) (i : Nat) : Option State :=
  match ((s.core c).eng e).reqs[i]? with
  | none => none
  | some r =>
    let still : Option State := if r.retry then some (s.putReq c e i { r with retry := false }) else none
    if !s.mayRun c e i r then none
    else if s.behind c e i r then still
    else match s.nextUnit c r with
      | .wait => still
      | .done => if r.started && !r.retry then none else some (s.putReq c e i { r with started := true, retry := false })
      | .fail kind va => some ((s.failUnit c e i r kind va).drew 4096)
      | .next s' r' => some ((s'.putReq c e i { r' with started := true, retry := false }).drew 4096)

/-! ### Presentation, resolution and completion (R147, R151) -/

/-- The engine whose record EFCAUSE presents: the older one, E0's of two written in one cycle (R151). -/
def Core.presents (k : Core) : Option Bool :=
  match k.e0.record, k.e1.record with
  | none, none => none
  | some _, none => some false
  | none, some _ => some true
  | some a, some b => some (b.time < a.time)

/-- EFCAUSE, EFADDR and EFPC as read (R150). -/
def Core.efcause (k : Core) : Word64 × Word64 × Word64 :=
  match k.presents with
  | none => (0, 0, 0)
  | some e => match (k.eng e).record with
    | none => (0, 0, 0)
    | some r =>
      let mult := (k.eng !e).record.isSome
      (BitVec.ofNat 64 ((r.cause e).toNat + bit mult * 2 ^ 62), r.addr, r.pc)

/-- The requests of engine number `e`, on any core, that the task on core `c` has issued: core, index, request. -/
def State.taskReqs (s : State) (c : Nat) (e : Bool) : List (Nat × Nat × Req) :=
  s.cores.flatMap fun x => (List.range (x.2.eng e).reqs.length).filterMap fun i =>
    ((x.2.eng e).reqs[i]?).bind fun r =>
      if (r.header = 0 && x.1 = c) || (1 < r.header && s.issuer x.1 r.header = .inl c) then some (x.1, i, r) else none

/-- Aborts every held request of the task on core `c` (R151, R351). -/
def State.abortHeld (s : State) (c : Nat) (e : Bool) : State :=
  (s.taskReqs c e).foldl (fun s x => if x.2.2.held then s.abortReq x.1 e x.2.1 x.2.2 0 else s) s

/-- The stopped requests of the task retry their units, before any other unit of their engine (R151). -/
def State.retryStopped (s : State) (c : Nat) (e : Bool) : State :=
  (s.taskReqs c e).foldl (fun s x => if x.2.2.stopped then s.putReq x.1 e x.2.1 { x.2.2 with stopped := false, retry := true } else s) s

/-- ACT written to EFCAUSE (R150, R151): 1 RESUME, 2 ABORT. -/
def State.resolveRecord (s : State) (c : Nat) (abort : Bool) : State :=
  match (s.core c).presents with
  | none => s
  | some e =>
    let s := if abort then s.abortHeld c e
      else (s.taskReqs c e).foldl (fun s x => if x.2.2.held then s.putReq x.1 e x.2.1 { x.2.2 with held := false } else s) s
    (s.onCore c fun k => k.setEng e { k.eng e with record := none }).retryStopped c e

/-- The record of a request that ended at its fault has been presented (R151). -/
def State.recordShown (s : State) (c : Nat) (e : Bool) (r : Req) : Bool :=
  !r.recorded || match s.issuer c r.header with
    | .inl h => let k := s.core h
                (k.eng e).record.isNone || k.presents = some e
    | .inr _ => true

/-- The first request of an engine completes (R147): the transfers it claimed go, its flags are ORed, a load-block's DONE bit
is set, its semaphore is signalled, and then its notice is raised (R141); a fault notice that is pending for the tag already takes the new
one in (R142). -/
def State.completeReq (s : State) (c : Nat) (e : Bool) : Option State :=
  match ((s.core c).eng e).reqs with
  | [] => none
  | r :: rest =>
    if r.held || r.stopped || !s.finished c r || !s.recordShown c e r then none
    else
      let s := (s.onCore c fun k => k.setEng e { k.eng e with reqs := rest }).release c r
      let s := s.owedFlags c r.header r.flags
      let s := match r.op with
        | .ldblk tag .. => s.onCore c fun k => k.blockDone tag r.ticket false
        | _ => s
      let s := if r.sg.sig then s.signal c r.header r.sg.sem else s
      let s := s.noteEnd c r.header (if r.sg.sig then some r.sg.sem.toNat else none) r.ticket
      match r.op with
      | .ldblk tag base _ true =>
        some (s.onCore c fun k =>
          let n := k.notice
          let at_ : Word64 := (Map.find n.ldFault tag).getD (BitVec.ofNat 64 (base + 128 * r.done))
          if r.ended then { k with notice := { n with ldFault := Map.put n.ldFault tag at_ } }
          else { k with notice := { n with ldDone := NatSet.insert n.ldDone tag } })
      | _ => some s

/-- A load-block's lines are all filled: DONE is set (R140). -/
def State.blockComplete (s : State) (c tag : Nat) : State :=
  let k := s.core c
  let full := (k.e0.reqs ++ k.e1.reqs).find? fun r => match r.op with
    | .ldblk t _ count _ => t = tag && r.started && count ≤ r.done && !r.ended
    | _ => false
  match full with
  | some r => s.setCore c (k.blockDone tag r.ticket false)
  | none => s

/-- The first request from index `i` on that moves. -/
def State.firstMove (s : State) (c : Nat) (e : Bool) : (n i : Nat) → Option State
  | 0, _ => none
  | n + 1, i => (s.workReq c e i).or (s.firstMove c e n (i + 1))

/-- One step of an engine: a completion, else a tile, else the next unit of the first request that moves. -/
def State.engineStep (s : State) (c : Nat) (e : Bool) : State :=
  match s.completeReq c e with
  | some s' => s'
  | none =>
    let k := s.core c
    let ready := (List.range 16).find? fun g => (k.oldestPush g).any fun x => x.1 = e && x.2.2.done = 64
    match ready with
    | some g => s.tileReady c g
    | none => (s.firstMove c e (k.eng e).reqs.length 0).getD s

end Sys2Proof.Machine
end

