-- ==== Sys2Proof/Machine/Issue.lean ====
section
/-! DEFINITION. The fetch of a bundle (R48 to R52, R399), the checks of issue in the order of R78, and the commit of a bundle
(R56, R66, R185, R316, R370, R436). -/

namespace Sys2Proof.Machine

open Sys2Proof

/-! ### Slots at issue -/

/-- A fault of order 9 of R78. -/
structure SlotFault where
  code : Code
  addr : Word64 := 0
  detail : Nat := 0
  pageable : Bool := false
deriving DecidableEq, Repr

/-- What a slot sees at issue: the state and the core before the bundle, its position, and its queue operands as R168
resolves them. -/
structure Ctx where
  s : State
  c : Nat
  k : Core
  pos : Nat
  qs : List QEntry := []
  /-- The slot consumes poison (R362). -/
  bad : Bool := false

/-- Free value `i` of a slot. -/
def Ctx.free (x : Ctx) (i : Nat) : Nat := x.s.freeVal (256 * x.pos + i)
/-- A scalar as a slot reads it at issue: a free value while its register is in flight (R66). -/
def Ctx.sr (x : Ctx) (n : SReg) : Word64 :=
  if n ≠ 0 && x.k.inFlight x.s.clk (.s n.toNat) then BitVec.ofNat 64 (x.free n.toNat) else x.k.s n
/-- A predicate as a slot reads it at issue. -/
def Ctx.pr (x : Ctx) (n : PReg) : Bool :=
  if n ≠ 0 && x.k.inFlight x.s.clk (.p n.toNat) then x.free (64 + n.toNat) % 2 = 1 else x.k.p n
/-- A descriptor as a slot reads it at issue. -/
def Ctx.dr (x : Ctx) (n : DReg) : Desc :=
  if x.k.inFlight x.s.clk (.d n.toNat) then BitVec.ofNat 512 (x.free (128 + n.toNat)) else x.k.d n
/-- A ring as a slot reads it at issue. -/
def Ctx.gr (x : Ctx) (n : GReg) : BitVec 128 :=
  if x.k.inFlight x.s.clk (.g n.toNat) then BitVec.ofNat 128 (x.free (160 + n.toNat)) else x.k.g n
/-- The vector of queue operand `i`. -/
def Ctx.vec (x : Ctx) (i : Nat) : Vec := ((x.qs[i]?).map QEntry.v).getD 0
/-- Poison of queue operand `i`. -/
def Ctx.vecBad (x : Ctx) (i : Nat) : Bool := ((x.qs[i]?).map QEntry.poison).getD false
/-- The rounding seed s59 (R92). -/
def Ctx.seed (x : Ctx) : Word64 := x.sr 59
/-- The tender issues (R342). -/
def Ctx.sup (x : Ctx) : Bool := x.k.level ≠ 0
/-- VMROOT (R106). -/
def Ctx.root (x : Ctx) : Word64 := x.k.csrGet Csr.VMROOT
/-- Code pointer of the bundle. -/
def Ctx.pc (x : Ctx) : Word64 := x.k.ir.cp

/-- One slot of a bundle: what it reads, pops, pushes and writes, the checks of its entry, whether it waits, and its
effects. A waiting slot may give the state that its wait leaves (a demand made, a timer of the wait). -/
structure Slot where
  pos : Nat
  guard : Guard := ⟨false, 0⟩
  reads : List RegName := []
  writes : List RegName := []
  /-- Queue operands in the order SA, SB, DST (R168). -/
  qs : List QSrc := []
  push : List QReg := []
  /-- Raises PRIVILEGE outside the tender (R76). -/
  priv : Bool := false
  /-- Accepted on the tender (R349; the S slot always is). -/
  tenderOk : Bool := true
  /-- Scalars whose poison the slot consumes, and whether it consumes its queue operands' (R362). -/
  eats : List SReg := []
  eatsQ : Bool := true
  check : Ctx → Option SlotFault := fun _ => none
  wait : Ctx → Option State := fun _ => none
  run : Ctx → State → State := fun _ s => s
  /-- Stores, performed after every load of the bundle, in position order (R135). -/
  store : Ctx → State → State := fun _ s => s
  /-- The bytes of a CORE-path store, atomic or TCALL, first and last of each range (R245). -/
  bytes : Ctx → List (Int × Int) := fun _ => []
  /-- The slot makes a CORE-path access of memory, which follows every earlier atomic and call of the core (R290). -/
  mem : Bool := false
  /-- Resources that the slots of a bundle share: a number, how many may be taken, and the fault of one too many (R154, R160). -/
  claims : Ctx → List (Nat × Nat × Code) := fun _ => []
  /-- The target of a taken transfer (R307). -/
  flow : Ctx → Option Word64 := fun _ => none
  /-- What follows the bundle's commit. -/
  last : Ctx → State → State := fun _ s => s

/-- Position `i` of the bundle at issue is one that TSKIP leaves inactive: in the bundle at TPC, this once (R347). -/
def Core.skips (k : Core) (i : Nat) : Bool := k.level = 0 && k.ir.cp = k.csrGet Csr.TPC && k.skip.getLsbD i

/-- The slot is active: TSKIP does not name its position (R347), and its guard proves it so (R61). -/
def Slot.active (sl : Slot) (x : Ctx) : Bool := !x.k.skips sl.pos && xor (x.pr sl.guard.pred) sl.guard.neg

/-! ### Queues at issue (R167, R168) -/

/-- The number of pops of queue `n` that a slot makes. -/
def Slot.pops (sl : Slot) (n : QReg) : Nat := (sl.qs.filter fun q => q.q = n && !q.peek).length
/-- The number of pushes into queue `n` that a slot makes. -/
def Slot.pushes (sl : Slot) (n : QReg) : Nat := (sl.push.filter (· = n)).length

/-- The occupancy checks of R167 for one queue over the active slots. -/
def queueFault (k : Core) (slots : List Slot) (n : QReg) : Option Code :=
  let o := (k.q n).length
  let pops := (slots.map (·.pops n)).sum
  let pushes := (slots.map (·.pushes n)).sum
  if o < pops then some .queueUnder
  else if 4 < o - pops + pushes then some .queueOver
  else none

/-- Whether a peek finds no entry: a peek beyond the last entry is reported as QUEUE-UNDER (log 12). -/
def peekFault (k : Core) (before : List QSrc) : List QSrc → Bool
  | [] => false
  | q :: rest =>
    let taken := (before.filter fun b => b.q = q.q && !b.peek).length
    (q.peek && (k.q q.q).length ≤ taken) || peekFault k (before ++ [q]) rest

/-- The entries that the queue operands of a slot resolve to, after the operands `before` of earlier slots (R168). -/
def resolveQ (k : Core) : List QSrc → List QSrc → List QEntry
  | _, [] => []
  | before, q :: rest =>
    let taken := (before.filter fun b => b.q = q.q && !b.peek).length
    (k.q q.q).getD taken { v := 0, due := 0 } :: resolveQ k (before ++ [q]) rest

/-! ### The checks of issue (R78, R79) -/

/-- The code and order of a decode fault of a slot word. -/
def formCode : FormErr → Code × Nat
  | .undefinedOp => (.undefinedOp, 4)
  | .illegalBundle => (.illegalBundle, 5)
  | .illegalFormat => (.illegalFormat, 6)

/-- Faults found at issue: order, position and fault. -/
abbrev Found := List (Nat × Nat × SlotFault)

/-- The scalar and predicate destinations of a slot, for R68. -/
def Slot.dests (sl : Slot) : List RegName := sl.writes.filter fun
  | .s n => n ≠ 0
  | .p n => n ≠ 0
  | _ => false

/-- A slot word that is no instruction: its position, the fault of its form, and the scalar and predicate destinations that it names. -/
structure BadWord where
  pos : Nat
  err : FormErr
  dests : List RegName := []
deriving DecidableEq, Repr

/-- The scalar and predicate destinations that a slot word names by its opcode's form (R63, R70 to R75). -/
def wordDests (pos : Nat) (w : SlotWord) : List RegName :=
  let o := w.opc.toNat
  let s (n : BitVec 6) : List RegName := if n = 0 then [] else [.s n.toNat]
  let p : List RegName := if w.dst = 0 then [] else [.p w.dst.toNat]
  match pos with
  | 0 =>
    if (0x30 ≤ o && o ≤ 0x34) || o = 0x58 then p
    else if (0x60 ≤ o && o ≤ 0x6C) || o = 0x70 then (if w.dst = 0 then [] else [.s w.dst.toNat, .s (w.dst + 1).toNat])
    else if (1 ≤ o && o ≤ 0x29) || o = 0x35 || (0x40 ≤ o && o ≤ 0x46) || (0x50 ≤ o && o ≤ 0x59) || o = 0x78 then s w.dst
    else []
  | 1 | 2 => if o = 0x29 || o = 0x2A then p else if o = 0x25 || o = 0x2B then s w.dst else []
  | 3 => if o = 0x44 || o = 0x45 then s w.dst else []
  | 4 | 5 => if o = 0x0F then s w.dst else []
  | 6 => if o = 0x04 then s w.dst else []
  | _ => if o = 0x04 || o = 0x17 then s w.dst else if o = 0x06 then s w.sa else []

/-- R68: of the destinations `all` of the bundle by position, another position names one of `ds` too. -/
def clashes (all : List (Nat × List RegName)) (pos : Nat) (ds : List RegName) : Bool :=
  ds.any fun r => all.any fun t => t.1 ≠ pos && r ∈ t.2

/-- Ring sources, accumulators and the other registers that checking mode guards (R175). -/
def Slot.breach (sl : Slot) (x : Ctx) : Bool :=
  let live (r : RegName) : Bool := r ≠ .s 0 && r ≠ .p 0
    && (x.k.ownedAt x.s.clk r || match r with | .c a => x.k.passOwns a | _ => false)
  live (.p sl.guard.pred.toNat)
    || (sl.active x && (sl.reads ++ sl.writes).any live)

/-- Every fault that the checks of R78 find for a bundle whose slot words decode as `bad` and `slots`. A position that TSKIP leaves
inactive meets the checks of orders 5 to 8 like any inactive slot (R61), but not that of order 4: its opcode has been emulated, and its
bundle could never be resumed otherwise (R348; DEDUCED, log 42). -/
def findFaults (s : State) (c : Nat) (bad : List BadWord) (slots : List Slot) : Found :=
  let k := s.core c
  let ctx (sl : Slot) : Ctx := { s := s, c := c, k := k, pos := sl.pos }
  let act := slots.filter fun sl => sl.active (ctx sl)
  let tender := k.level ≠ 0
  let o3 : Found := if tender && (slots.any fun sl => sl.pos ≠ 0 && sl.pos ≠ 7) || tender && (bad.any fun b => b.pos ≠ 0 && b.pos ≠ 7)
    then [(3, 0, { code := .illegalBundle })] else []
  let o46 : Found := (bad.filter fun b => !(b.err = .undefinedOp && k.skips b.pos)).map fun b =>
    ((formCode b.err).2, b.pos, { code := (formCode b.err).1 })
  let named : List (Nat × List RegName) := (slots.map fun sl => (sl.pos, sl.dests)) ++ bad.map fun b => (b.pos, b.dests)
  let o5 : Found := ((slots.filter fun sl => clashes named sl.pos sl.dests || (tender && !sl.tenderOk)).map fun sl =>
    (5, sl.pos, ({ code := .illegalBundle } : SlotFault))) ++
    (bad.filter fun b => clashes named b.pos b.dests).map fun b => (5, b.pos, ({ code := .illegalBundle } : SlotFault))
  let o7 : Found := if tender then [] else (slots.filter (·.priv)).map fun sl => (7, sl.pos, { code := .privilege })
  let o8 : Found := (slots.filter fun sl => (sl.qs.any fun q => k.qallot ≤ q.q.toNat) || sl.push.any fun q => k.qallot ≤ q.toNat).map
    fun sl => (8, sl.pos, { code := .regRange })
  let breach : Found := if !k.checking then [] else
    (slots.filter fun sl => sl.breach (ctx sl)).map fun sl => (9, sl.pos, { code := .ownershipBreach })
  let queues : Found := act.flatMap fun sl =>
    ((sl.qs.map (·.q) ++ sl.push).filterMap fun n => (queueFault k act n).map fun e => (9, sl.pos, ({ code := e } : SlotFault))).take 1
  let peeks : Found := (act.filter fun sl =>
      peekFault k ((act.filter (·.pos < sl.pos)).flatMap (·.qs)) sl.qs).map fun sl => (9, sl.pos, { code := .queueUnder })
  let own : Found := act.filterMap fun sl => (sl.check (ctx sl)).map fun f => (9, sl.pos, f)
  let taken (sl : Slot) (r : Nat) : Nat :=
    ((act.filter (·.pos ≤ sl.pos)).flatMap fun t => (t.claims (ctx t)).filter fun q => q.1 = r).length
  let shared : Found := act.filterMap fun sl => ((sl.claims (ctx sl)).find? fun q => q.2.1 < taken sl q.1).map fun q =>
    (9, sl.pos, { code := q.2.2 })
  let window : Found := if k.berth.nodes = [] || k.windowOk then [] else
    (act.filter fun sl => s.aliasNodes k.berth (sl.bytes (ctx sl)) ≠ []).map fun sl => (9, sl.pos, { code := .dataFault })
  o3 ++ o46 ++ o5 ++ o7 ++ o8 ++ breach ++ queues ++ peeks ++ own ++ shared ++ window

/-- The fault that a bundle reports (R79, R341): the lowest order; its code is that of the lowest position at that order,
and SFMASK holds every position that met a fault of that order. -/
def reportOf (k : Core) (fs : Found) : Option TrapInfo :=
  match fs with
  | [] => none
  | f0 :: rest =>
    let ord := rest.foldl (fun m f => min m f.1) f0.1
    let at_ := fs.filter fun f => f.1 = ord
    let pos := at_.foldl (fun m f => min m f.2.1) 8
    let sf := ((at_.find? fun f => f.2.1 = pos).map (·.2.2)).getD { code := .illegalBundle }
    let mask := if ord ≤ 3 then 0 else at_.foldl (fun m f => m ||| 2 ^ f.2.1) 0
    let words := (List.range 8).map fun i => Map.find k.ir.words i
    let pres := (List.range 8).foldl (fun m i => if (words.getD i none).isSome then m ||| 2 ^ i else m) 0
    let h := BitVec.ofNat 32 (setField (setField k.ir.header.toNat 0 8 pres) 16 1 0)
    let data := sf.code = .dataFault || sf.code = .align || sf.code = .fetchFault
    some { code := sf.code, tpc := k.ir.cp, taddr := if data then sf.addr else 0,
           detail := if data then sf.detail else 0, order := ord, sfmask := mask,
           image := canonicalImage h words, pageable := sf.pageable }

/-! ### The segment signature (R370) -/

/-- One bit step of CRC-32C, reflected. -/
def crcBit (x : Nat) : Nat := if x % 2 = 1 then x / 2 ^^^ 0x82F63B78 else x / 2
/-- CRC-32C over one more byte, on the register before the final inversion. -/
def crcByte (x : Nat) (b : Nat) : Nat := (List.range 8).foldl (fun y _ => crcBit y) (x ^^^ b)
/-- The signature register after a bundle's control words. -/
def segFeed (sig : BitVec 32) (header : BitVec 32) (w : Option (BitVec 44)) : BitVec 32 :=
  let h := setField header.toNat 16 1 0
  let bs := toBytes 4 h ++ (match w with | some x => toBytes 6 x.toNat | none => [])
  BitVec.ofNat 32 (bs.foldl (fun x b => crcByte x b.toNat) sig.toNat)

/-! ### The kernel table (R399) -/

/-- A kernel entry of R399. -/
structure Kernel where
  text : Nat
  textEnd : Nat
  dict : Nat
  dsize : Nat
  nseg : Nat
  seg : Nat
deriving DecidableEq, Repr

/-- Searches `n` entries from physical address `a` for the kernel of an ASID whose text holds `va`. -/
def State.kernelFrom (s : State) (asid va : Nat) : Nat → Nat → Option Kernel
  | 0, _ => none
  | n + 1, a =>
    let text := s.natAt a 8
    let e : Kernel := { text := text / 2 * 2, textEnd := s.natAt (a + 8) 8, dict := s.natAt (a + 16) 8,
                        dsize := s.natAt (a + 24) 4, nseg := s.natAt (a + 30) 2, seg := s.natAt (a + 32) 8 }
    if text % 2 = 1 && s.natAt (a + 28) 2 = asid && e.text ≤ va && va < e.textEnd then some e
    else s.kernelFrom asid va n (a + 48)

/-- The kernel whose text range holds a bundle address (R49, R399). -/
def State.kernelOf (s : State) (asid va : Nat) : Option Kernel :=
  let r := (s.ctlGet Ctl.KTBASE).toNat
  s.kernelFrom asid va (field r 52 12) (field r 6 46 * 64)

/-! ### Fetch (R48 to R52) -/

/-- A byte of code at a physical address: a word already fetched may be older than a write (R129). -/
def State.codeByte (s : State) (k : Core) (a i : Nat) : Byte :=
  match Map.find k.oldCode a with
  | some b => if s.freeVal (4100 + i) % 2 = 0 then s.byte a else b
  | none => s.byte a

/-- The physical address that a cached line or dictionary entry gives for a virtual address under an ASID (R127). -/
def Core.cachedCode (k : Core) (kind : Access) (asid va : Nat) : Option Nat :=
  match kind with
  | .fetch => (k.icache.find? fun l => l.asid = asid && l.va ≤ va && va < l.va + 128).map fun l => l.pa.headD 0 + (va - l.va)
  | .dict => (k.dcache.find? fun l => l.asid = asid && l.va ≤ va && va < l.va + 48).map fun l =>
      if l.va / 65536 = va / 65536 then l.pa.headD 0 + (va - l.va) else l.pa.getLastD 0 / 65536 * 65536 + va % 65536
  | _ => none

/-- Translates an access to code: by the page tables and held translations, or by the tags of a cached line. Where the two differ,
either (R110, R127). -/
def State.codePa (s : State) (c : Nat) (kind : Access) (va : Nat) : Except XFault Nat :=
  let k := s.core c
  let root := k.csrGet Csr.VMROOT
  match k.cachedCode kind (field root.toNat 44 16) va with
  | none => s.translate c root (k.level ≠ 0) kind va
  | some pa => if s.freeVal 4001 % 2 = 0 then .ok pa else s.translate c root (k.level ≠ 0) kind va

/-- `n` bytes of code or dictionary from `va` within one granule: code lies in local HBM only (R121, R128). -/
def State.codePiece (s : State) (c : Nat) (kind : Access) (va n i : Nat) : Except XFault (List Byte) :=
  let k := s.core c
  match s.codePa c kind va with
  | .error e => .error e
  | .ok pa => if s.place pa = .hbm then .ok ((List.range n).map fun j => s.codeByte k (pa + j) (i + j))
              else .error ⟨BitVec.ofNat 64 va, false⟩

/-- `n` bytes of code or dictionary from `va`, across at most one granule boundary. -/
def State.textBytes (s : State) (c : Nat) (kind : Access) (va n : Nat) : Except XFault (List Byte) :=
  let n1 := min n (65536 - va % 65536)
  match s.codePiece c kind va n1 0 with
  | .error e => .error e
  | .ok b1 =>
    if n1 = n then .ok b1
    else match s.codePiece c kind (addr va n1) (n - n1) n1 with
      | .error e => .error e
      | .ok b2 => .ok (b1 ++ b2)

/-- A bundle as fetched, with the code ranges that it was read from. -/
structure Got where
  f : Fetched
  /-- Virtual address, length and kind of each range read. -/
  from_ : List (Nat × Nat × Access)
deriving DecidableEq, Repr

/-- The FETCH-FAULT of a bundle (R52). -/
def fetchFault (cp : Word64) (e : XFault) : TrapInfo :=
  { code := .fetchFault, tpc := cp, taddr := e.va, detail := 1, order := 2, pageable := e.pageable }

/-- The words of a decoded bundle by position. -/
def wordMap (ws : List (Option (BitVec 44))) : Map (BitVec 44) :=
  (List.range 8).filterMap fun i => (ws.getD i none).map fun w => (i, w)

/-- The canonical image `x` of a bundle as fetched, with the words that the hold state repeats filled in (R342, log 39). -/
def Core.heldImage (k : Core) (x : BitVec 384) : BitVec 384 :=
  (List.range 8).foldl (fun y i =>
    if x.getLsbD i then y
    else match Map.find k.pipe.hold i with
      | some w => BitVec.ofNat 384 (setField (setField y.toNat i 1 1) (32 + 44 * i) 44 w.toNat)
      | none => y) x

/-- A literal bundle at `va` (R51, R58, R59). -/
def State.fetchLiteral (s : State) (c : Nat) (va : Nat) : Except TrapInfo Got :=
  let cp : Word64 := BitVec.ofNat 64 (va + 1)
  match s.textBytes c .fetch va 4 with
  | .error e => .error (fetchFault cp e)
  | .ok h =>
    let n := presentBelow (BitVec.ofNat 8 (ofBytes h)) 8
    let len := 2 * literalWords n
    match s.textBytes c .fetch va len with
    | .error e => .error (fetchFault cp e)
    | .ok bs =>
      match literalBundle (ofBytes bs) with
      | .error _ => 
        let ws := (List.range 8).map (literalSlot (ofBytes bs) (BitVec.ofNat 8 (ofBytes h)))
        .error { code := .illegalBundle, tpc := cp, order := 3,
                 image := (s.core c).heldImage (canonicalImage (BitVec.ofNat 32 (setField (ofBytes bs) 16 1 0)) ws) }
      | .ok b =>
        let f : Fetched := { cp := cp, next := BitVec.ofNat 64 (va + len + bit (!b.stop)),
                             header := BitVec.ofNat 32 (ofBytes bs), words := wordMap b.words }
        .ok { f := f, from_ := [(va, len, .fetch)] }

/-- The bundle at a code pointer (R50, R51): an index word, a dictionary bundle or a literal one. -/
def State.fetch (s : State) (c : Nat) (cp : Word64) : Except TrapInfo Got :=
  let va := cp.toNat - cp.toNat % 2
  let asid := field ((s.core c).csrGet Csr.VMROOT).toNat 44 16
  if !vaValid cp.toNat then .error (fetchFault cp ⟨BitVec.ofNat 64 va, false⟩)
  else match s.kernelOf asid va with
  | none => .error (fetchFault cp ⟨BitVec.ofNat 64 va, false⟩)
  | some kn =>
    if cp.toNat % 2 = 1 then s.fetchLiteral c va
    else match s.textBytes c .fetch va 2 with
      | .error e => .error (fetchFault cp e)
      | .ok w =>
        let i := ofBytes w
        if i = 0xFFFF then
          (if (s.kernelOf asid (addr va 2)).isNone then .error (fetchFault (BitVec.ofNat 64 (addr va 2 + 1)) ⟨BitVec.ofNat 64 (addr va 2), false⟩)
           else s.fetchLiteral c (addr va 2))
        else if kn.dsize ≤ i || 0xFFF0 ≤ i then .error { code := .illegalIndex, tpc := cp, order := 1 }
        else match s.textBytes c .dict (addr kn.dict (48 * i)) 48 with
          | .error e => .error (fetchFault cp e)
          | .ok bs =>
            match canonicalBundle (BitVec.ofNat 384 (ofBytes bs)) with
            | .error _ => .error { code := .illegalBundle, tpc := cp, order := 3, image := (s.core c).heldImage (BitVec.ofNat 384 (ofBytes bs)) }
            | .ok b =>
              let f : Fetched := { cp := cp, next := BitVec.ofNat 64 (addr va 2), header := BitVec.ofNat 32 (ofBytes bs),
                                   words := wordMap b.words }
              .ok { f := f, from_ := [(va, 2, .fetch), (addr kn.dict (48 * i), 48, .dict)] }

/-- A line or an entry joins a cache of `n`: one that is there stays; where the cache is full, which one goes is free (R127). -/
def cacheCode (n pick : Nat) (x : CodeLine) (l : List CodeLine) : List CodeLine :=
  if l.any fun y => y.asid = x.asid && y.va = x.va then l
  else x :: (if l.length < n then l else l.eraseIdx (pick % n))

/-- The bytes of a range stand in the core's instruction or dictionary cache (R127); `pas` are the physical addresses of its ends. -/
def Core.cacheRange (k : Core) (r : Nat × Nat × Access) (pas : List Nat) (pick : Nat) : Core :=
  let asid := field (k.csrGet Csr.VMROOT).toNat 44 16
  match r.2.2 with
  | .fetch => (([r.1, r.1 + r.2.1 - 1].zip pas).foldl (fun (k : Core) e =>
      { k with icache := cacheCode 512 pick { asid := asid, va := e.1 / 128 * 128, pa := [e.2 / 128 * 128] } k.icache }) k)
  | .dict => { k with dcache := cacheCode 1024 pick { asid := asid, va := r.1, pa := pas } k.dcache }
  | _ => k

/-- The state after a fetch: translations held and A set, the instruction bit of every line read set (R128), the caches filled (R127), and
the bundle latched with its repeated words filled in (R56). -/
def State.latch (s : State) (c : Nat) (g : Got) : State :=
  let root := (s.core c).csrGet Csr.VMROOT
  let s := g.from_.foldl (fun s r =>
    let ends := [r.1, r.1 + r.2.1 - 1]
    let pas := ends.filterMap fun va => (s.codePa c r.2.2 va).toOption
    let s := ends.foldl (fun s va => if (s.lookup c root va).isSome then s.touch c root r.2.2 va else s) s
    { s with codeLines := (pas.map (· / 128)).foldl NatSet.insert s.codeLines }.onCore c fun k => k.cacheRange r pas (s.freeVal 4002)) s
  s.onCore c fun k =>
    let held := k.pipe.hold
    let words := (List.range 8).filterMap fun i =>
      match Map.find g.f.words i with
      | some w => some (i, w)
      | none => (Map.find held i).map fun w => (i, w)
    { k with ir := { g.f with words := words } }

/-! ### Commit -/

/-- FMTN images whose count is at most `n` take effect, the later one last (R185). -/
def Core.fmtEffect (k : Core) (n : Nat := 0) : Core :=
  let due := k.fmtPend.filter fun e => e.2 ≤ n
  let k := { k with fmtPend := k.fmtPend.filter fun e => n < e.2 }
  due.foldl (fun k e => { k with csr := Map.set (csrReset Csr.FMTN) k.csr Csr.FMTN (e.1.zeroExtend 64) }) k

/-- NTREQ results whose count has run out land in s60 to s63 and p63 (R316). -/
def Core.ntLand (k : Core) : Core :=
  let due := k.nt.filter fun e => e.left = 0
  let k := { k with nt := k.nt.filter fun e => e.left ≠ 0 }
  due.foldl (fun k e =>
    (((k.setS (BitVec.ofNat 6 (60 + e.target)) e.value).setSBad (BitVec.ofNat 6 (60 + e.target)) false).setP 63 e.null)) k

/-- Removes the entries that the bundle pops (R167). -/
def popAll (k : Core) (qs : List QSrc) : Core :=
  qs.foldl (fun k q => if q.peek then k else k.setQ q.q ((k.q q.q).drop 1)) k

/-- The segment descriptors of the kernel's table: whether one ends at `cp`, and its CYCLES and SIG (R369). -/
def State.segFind (s : State) (c : Nat) (kn : Kernel) (cp : Word64) : Option (Nat × Nat) :=
  let rd (va n : Nat) : Nat :=
    match s.textBytes c .read va n with
    | .ok b => ofBytes b
    | .error _ => 0
  ((List.range kn.nseg).find? fun i => rd (addr kn.seg (16 * i)) 8 = cp.toNat).map fun i =>
    (rd (addr kn.seg (16 * i + 8)) 4, rd (addr kn.seg (16 * i + 12)) 4)

/-- The words that the bundle leaves held (R56). -/
def Core.heldWords (k : Core) : Map (BitVec 44) := k.ir.words.filter fun e => k.ir.header.getLsbD (8 + e.1)

/-- The commit of a tender's bundle: its holds (R56), the next code pointer and the cost of a taken transfer (R305). -/
def Core.commitTender (k : Core) (target : Option Word64) : Core :=
  { k with tender := { pc := target.getD k.ir.next, hold := k.heldWords }, stall := if target.isSome then 2 else 0,
           oldCode := if target.isSome then [] else k.oldCode }

/-- The same in the main pipeline, and the counts of R185, R316, R355. -/
def Core.commitMain (k : Core) (target : Option Word64) : Core :=
  { k with main := { pc := target.getD k.ir.next, hold := k.heldWords }, stall := if target.isSome then 2 else 0,
           skip := if k.ir.cp = k.csrGet Csr.TPC then 0 else k.skip,
           oldCode := if target.isSome then [] else k.oldCode, idleFrames := 0, enqFrames := 0, enqWaits := false,
           fmtPend := k.fmtPend.map fun (e : BitVec 17 × Nat) => (e.1, e.2 - 1),
           nt := k.nt.map fun (e : NtResult) => { e with left := e.left - 1 } }

/-- The mark of a PP bundle, header bit 17 (R350, R384): a pre-emption that is pending, and a cut that waits, take the boundary. -/
def Core.preemptMark (k : Core) (cutting : Bool) : Core :=
  if k.ir.header.getLsbD 17 then
    { k with pend := { k.pend with preemptNow := k.pend.preemptNow || k.pend.preempt.isSome, cutNow := k.pend.cutNow || cutting } }
  else k

/-- ALS takes the bundle's aliasing stores (R245). -/
def Core.aliasCount (k : Core) : Core :=
  { k with berth := { k.berth with als := k.berth.als + BitVec.ofNat 16 k.berth.aliased.length, aliased := [] } }

/-- BFCAUSE's pending bit goes when the bundle at BFFPC commits with no demand left. -/
def Core.breakDone (k : Core) : Core :=
  let bf := k.csrGet Csr.BFCAUSE
  if k.berth.demand.isNone && bf ≠ 0 && k.csrGet Csr.BFFPC = k.ir.cp then k.csrPut Csr.BFCAUSE (bf &&& 0x7FFFFFFFFFFFFFFF#64) else k

/-- The segment's count and signature take the bundle (R370). -/
def Core.segmentFeed (k : Core) : Core :=
  if k.notice.running then k
  else
    let sig := segFeed k.contain.segSig k.ir.header (Map.find k.ir.words 7)
    { k with contain := { k.contain with segCount := (k.contain.segCount + 1) % 2 ^ 32, segSig := sig } }

/-- What a segment's end finds: none when its count and signature are those of the kernel's table (R369, R371). -/
def State.segmentKind (s : State) (c : Nat) (k : Core) : Option Nat :=
  let found := (s.kernelOf (field (k.csrGet Csr.VMROOT).toNat 44 16) (k.ir.cp.toNat / 2 * 2)).bind fun kn => s.segFind c kn k.ir.cp
  found.elim (some 4) fun r =>
    let a := r.1 ≠ k.contain.segCount
    let b := r.2 ≠ (~~~k.contain.segSig).toNat
    if a && b then some 3 else if a then some 1 else if b then some 2 else none

/-- The end of a segment, header bit 18 (R370, R371), in a notice handler too: what it finds waits for the boundary. -/
def Core.segmentEnd (k : Core) (kind : Option Nat) : Core :=
  if k.ir.header.getLsbD 18 then
    { k with contain := { k.contain with segCount := 0, segSig := 0xFFFFFFFF#32 },
             pend := { k.pend with segCheck := kind, segPc := k.ir.cp } }
  else k

/-- A cut of the running epoch waits for core `k`'s boundary (R384). -/
def State.cutting (s : State) (k : Core) : Bool := s.snap.phase = 1 && !s.snap.moduleCut && !k.cut

/-- What follows the effects of a committing bundle: its holds (R56), the next code pointer and the cost of a taken
transfer (R305), and in the main pipeline the counts of R185, R316, R355, R370 and R371 and the PP mark (R350). -/
def State.commit (s : State) (c : Nat) (target : Option Word64) : State :=
  let k := s.core c
  if k.level ≠ 0 then s.setCore c (k.commitTender target).aliasCount
  else
    let k := (k.commitMain target).fmtEffect.ntLand
    let k := (k.preemptMark (s.cutting k)).aliasCount.breakDone.segmentFeed
    let k := k.segmentEnd (s.segmentKind c k)
    (s.setCore c (if k.berth.nodes.isEmpty then k else Core.freeOrphans 256 k)).reportDemands c

/-- The holder of the poison that a committing slot consumes (R363, R364): a scalar register or a queue entry of the core. -/
def Slot.eaten (sl : Slot) (x : Ctx) : Option Holder :=
  match sl.eats.find? fun n => x.k.sBad n with
  | some n => some { kind := 6, unit := x.c, loc := n.toNat }
  | none =>
    if sl.eatsQ then ((sl.qs.zip x.qs).find? fun e => e.2.poison).map fun e => { kind := 4, unit := x.c, loc := e.1.q.toNat } else none

/-- A result of the core is late: its bound has passed and its data has not arrived, and the pipeline stands (R67). -/
def Core.lateResult (k : Core) (clk : Nat) : Bool := k.windows.any fun w => w.late && w.due ≤ clk && !(w.reg matches .c _)

/-- What active slot `sl` sees beside the active slots `act` of its bundle: its queue operands as R168 resolves them, and whether
it consumes poison. -/
def Slot.sees (sl : Slot) (s : State) (c : Nat) (act : List Slot) : Ctx :=
  let k := s.core c
  let x : Ctx := { s := s, c := c, k := k, pos := sl.pos, qs := resolveQ k ((act.filter (·.pos < sl.pos)).flatMap (·.qs)) sl.qs }
  { x with bad := (sl.eaten x).isSome }

/-- The poison that a slot consumed is reported (R363, R364). -/
def Slot.report (sl : Slot) (x : Ctx) (t : State) : State :=
  match sl.eaten x with
  | some h => t.consumed x.c h x.k.ir.cp
  | none => t

/-- The effects of the active slots of a bundle and its commit: the pops, the loads before the stores (R135), the poison consumed,
the commit, and what follows it. -/
def runSlots (s : State) (c : Nat) (act : List Slot) : State :=
  let s1 := s.onCore c fun k => popAll k (act.flatMap (·.qs))
  let s2 := act.foldl (fun t sl => sl.run (sl.sees s c act) t) s1
  let s3 := act.foldl (fun t sl => sl.store (sl.sees s c act) t) s2
  let s4 := act.foldl (fun t sl => sl.report (sl.sees s c act) t) s3
  let s5 := s4.commit c (act.findSome? fun sl => sl.flow (sl.sees s c act))
  act.foldl (fun t sl => sl.last (sl.sees s c act) t) s5

/-- A bundle whose checks have passed: it waits for a late result of the core (R67), for a queue operand that has not landed, for an
earlier atomic or call (R290), for what its stores demand (R245), or for what its slots wait for; else its slots run. -/
def startSlots (s : State) (c : Nat) (act : List Slot) : State :=
  if (s.core c).lateResult s.clk then s
  else if act.any fun sl => (sl.sees s c act).qs.any fun e => !e.landed && s.clk < e.due then s
  else if act.any (·.mem) && s.sliceWaits c then s
  else match (s.aliasWait c (act.map fun sl => (sl.pos, sl.bytes (sl.sees s c act)))).or (act.findSome? fun sl => sl.wait (sl.sees s c act)) with
    | some s' => s'.drew 5120
    | none => (runSlots s c act).drew 5120

/-- One bundle at issue on the core whose turn it is (R436): the checks, the waits, and only then the reads, the effects of
every active slot and the commit. A bundle that faults is taken by the tender; one that waits leaves the state that its wait
leaves. -/
def issue (s : State) (bad : List BadWord) (slots : List Slot) : State :=
  let c := s.turn
  let k := s.core c
  match reportOf k (findFaults s c bad slots) with
  | some t => s.takeTrap c t
  | none => startSlots s c (slots.filter fun sl => sl.active { s := s, c := c, k := k, pos := sl.pos })

/-- The issue of one slot instruction alone, as a meaning gives it; `e` is what its form breaks, if anything (orders 5
and 6). -/
def issueOne (e : Option FormErr) (sl : Slot) (s : State) : Host.Outcome State Fault Refusal :=
  match e with
  | some f => .next (issue s [{ pos := sl.pos, err := f }] [])
  | none => .next (issue s [] [sl])

end Sys2Proof.Machine
end

