-- ==== Sys2Proof/Machine/Scalar.lean ====
section
/-! DEFINITION. The S slot's integer, predicate, select, float and semaphore instructions (R186 to R200, R311). -/

namespace Sys2Proof.Machine

open Sys2Proof

/-- The register that an SR rounding reads (R92, R164). -/
def seedReads (r : RM) : List RegName := if r = .sr then [.s 59] else []
/-- Its poison is consumed with it (R362): the seed among the registers `rs` that a slot reads. -/
def seedEats (rs : List RegName) : List SReg := if .s 59 ∈ rs then [59] else []

/-- A slot that reads scalars and writes one scalar. -/
def scalarSlot (g : Guard) (d : SReg) (srcs : List SReg) (bound : Nat) (more : List RegName)
    (f : Ctx → Word64 × Flags) : Slot :=
  { pos := 0, guard := g, reads := srcs.map (fun n => .s n.toNat) ++ more, writes := [.s d.toNat],
    eats := srcs ++ seedEats more,
    run := fun x s => s.onCore x.c fun k => k.resultS x.s.clk bound d (f x).1 x.bad (f x).2 (x.free 192) }

/-- A slot that writes one predicate. -/
def predSlot (g : Guard) (d : PReg) (reads : List RegName) (eats : List SReg) (bound : Nat) (f : Ctx → Bool × Flags) : Slot :=
  { pos := 0, guard := g, reads := reads, writes := [.p d.toNat], eats := eats,
    run := fun x s => s.onCore x.c fun k => k.resultP x.s.clk bound d (f x).1 (f x).2 (x.free 192) }

/-- An integer operation on two scalars (R188, R189). -/
def intSlot (o : IntOp) (g : Guard) (d a b : SReg) : Slot :=
  scalarSlot g d [a, b] (intBound o) [] fun x => (intOp o (x.sr a) (x.sr b), 0)

/-- An integer operation on a scalar and a constant (R191). -/
def immSlot (o : IntOp) (g : Guard) (d a : SReg) (i : Word64) : Slot :=
  scalarSlot g d [a] 1 [] fun x => (intOp o (x.sr a) i, 0)

/-- A function of one scalar (R190). -/
def unarySlot (g : Guard) (d a : SReg) (f : Word64 → Word64) : Slot :=
  scalarSlot g d [a] 1 [] fun x => (f (x.sr a), 0)

/-- The slot of NOP (R38). -/
def slotNop : Slot := { pos := 0, run := fun _ s => s }

/-- The slot of ADD (R188). -/
def slotAdd (g : Guard) (d a b : SReg) : Slot := intSlot .add g d a b
/-- The slot of SUB (R188). -/
def slotSub (g : Guard) (d a b : SReg) : Slot := intSlot .sub g d a b
/-- The slot of AND (R188). -/
def slotAnd (g : Guard) (d a b : SReg) : Slot := intSlot .and g d a b
/-- The slot of OR (R188). -/
def slotOr (g : Guard) (d a b : SReg) : Slot := intSlot .or g d a b
/-- The slot of XOR (R188). -/
def slotXor (g : Guard) (d a b : SReg) : Slot := intSlot .xor g d a b
/-- The slot of SHL (R188). -/
def slotShl (g : Guard) (d a b : SReg) : Slot := intSlot .shl g d a b
/-- The slot of SHRL (R188). -/
def slotShrl (g : Guard) (d a b : SReg) : Slot := intSlot .shrl g d a b
/-- The slot of SHRA (R188). -/
def slotShra (g : Guard) (d a b : SReg) : Slot := intSlot .shra g d a b
/-- The slot of MIN (R188). -/
def slotMin (g : Guard) (d a b : SReg) : Slot := intSlot .min g d a b
/-- The slot of MAX (R188). -/
def slotMax (g : Guard) (d a b : SReg) : Slot := intSlot .max g d a b
/-- The slot of MINN (R188). -/
def slotMinn (g : Guard) (d a b : SReg) : Slot := intSlot .minn g d a b
/-- The slot of MAXN (R188). -/
def slotMaxn (g : Guard) (d a b : SReg) : Slot := intSlot .maxn g d a b
/-- The slot of MUL (R188). -/
def slotMul (g : Guard) (d a b : SReg) : Slot := intSlot .mul g d a b
/-- The slot of MULH (R188). -/
def slotMulh (g : Guard) (d a b : SReg) : Slot := intSlot .mulh g d a b
/-- The slot of MULHN (R188). -/
def slotMulhn (g : Guard) (d a b : SReg) : Slot := intSlot .mulhn g d a b
/-- The slot of DIVS (R189). -/
def slotDivs (g : Guard) (d a b : SReg) : Slot := intSlot .divs g d a b
/-- The slot of DIVN (R189). -/
def slotDivn (g : Guard) (d a b : SReg) : Slot := intSlot .divn g d a b
/-- The slot of REMS (R189). -/
def slotRems (g : Guard) (d a b : SReg) : Slot := intSlot .rems g d a b
/-- The slot of REMN (R189). -/
def slotRemn (g : Guard) (d a b : SReg) : Slot := intSlot .remn g d a b
/-- The slot of CLZ (R190). -/
def slotClz (g : Guard) (d a : SReg) : Slot := unarySlot g d a clz64
/-- The slot of CTZ (R190). -/
def slotCtz (g : Guard) (d a : SReg) : Slot := unarySlot g d a ctz64
/-- The slot of POPC (R190). -/
def slotPopc (g : Guard) (d a : SReg) : Slot := unarySlot g d a popc64
/-- The slot of SEXT (R190). -/
def slotSext (g : Guard) (d a : SReg) (n : BitVec 6) : Slot := unarySlot g d a fun v => sext v n.toNat
/-- The slot of ZEXT (R190). -/
def slotZext (g : Guard) (d a : SReg) (n : BitVec 6) : Slot := unarySlot g d a fun v => zext v n.toNat
/-- The slot of ADDI (R191). -/
def slotAddi (g : Guard) (d a : SReg) (i : BitVec 17) : Slot := immSlot .add g d a (imm17 i)
/-- The slot of ANDI (R191). -/
def slotAndi (g : Guard) (d a : SReg) (i : BitVec 17) : Slot := immSlot .and g d a (imm17 i)
/-- The slot of ORI (R191). -/
def slotOri (g : Guard) (d a : SReg) (i : BitVec 17) : Slot := immSlot .or g d a (imm17 i)
/-- The slot of XORI (R191). -/
def slotXori (g : Guard) (d a : SReg) (i : BitVec 17) : Slot := immSlot .xor g d a (imm17 i)
/-- The slot of SHLI (R191). -/
def slotShli (g : Guard) (d a : SReg) (n : BitVec 6) : Slot := immSlot .shl g d a (n.zeroExtend 64)
/-- The slot of SHRLI (R191). -/
def slotShrli (g : Guard) (d a : SReg) (n : BitVec 6) : Slot := immSlot .shrl g d a (n.zeroExtend 64)
/-- The slot of SHRAI (R191). -/
def slotShrai (g : Guard) (d a : SReg) (n : BitVec 6) : Slot := immSlot .shra g d a (n.zeroExtend 64)
/-- LIMM (R192). -/
def slotLimm (g : Guard) (d : SReg) (i : BitVec 17) : Slot := scalarSlot g d [] 1 [] fun _ => (imm17 i, 0)
/-- LIMMH reads its destination (R192). -/
def slotLimmh (g : Guard) (d : SReg) (k : BitVec 2) (v : BitVec 16) : Slot :=
  scalarSlot g d [d] 1 [] fun x => (limmh (x.sr d) k v, 0)
/-- CMP (R193). -/
def slotCmp (g : Guard) (d : PReg) (a b : SReg) (nat : Bool) (cond : Cond) : Slot :=
  predSlot g d [.s a.toNat, .s b.toNat] [a, b] 1 fun x => (cmp64 nat cond (x.sr a) (x.sr b), 0)
/-- The slot of PAND (R194). -/
def slotPand (g : Guard) (d a b : PReg) : Slot :=
  predSlot g d [.p a.toNat, .p b.toNat] [] 1 fun x => (x.pr a && x.pr b, 0)
/-- The slot of POR (R194). -/
def slotPor (g : Guard) (d a b : PReg) : Slot :=
  predSlot g d [.p a.toNat, .p b.toNat] [] 1 fun x => (x.pr a || x.pr b, 0)
/-- The slot of PXOR (R194). -/
def slotPxor (g : Guard) (d a b : PReg) : Slot :=
  predSlot g d [.p a.toNat, .p b.toNat] [] 1 fun x => (xor (x.pr a) (x.pr b), 0)
/-- The slot of PNOT (R194). -/
def slotPnot (g : Guard) (d a : PReg) : Slot := predSlot g d [.p a.toNat] [] 1 fun x => (!x.pr a, 0)
/-- SEL (R195). -/
def slotSel (g : Guard) (d : SReg) (p : PReg) (a b : SReg) : Slot :=
  scalarSlot g d [a, b] 1 [.p p.toNat] fun x => (if x.pr p then x.sr a else x.sr b, 0)

/-- A float operation (R196, R197). -/
def floatSlot (o : FloatOp) (g : Guard) (f : Fmt) (r : RM) (d a b c : SReg) (srcs : List SReg) (bound : Nat) : Slot :=
  scalarSlot g d srcs bound (seedReads r) fun x => floatOp o f r x.seed (x.sr a) (x.sr b) (x.sr c)
/-- The slot of FADD (R196). -/
def slotFadd (g : Guard) (f : Fmt) (r : RM) (d a b : SReg) : Slot := floatSlot .add g f r d a b 0 [a, b] 4
/-- The slot of FSUB (R196). -/
def slotFsub (g : Guard) (f : Fmt) (r : RM) (d a b : SReg) : Slot := floatSlot .sub g f r d a b 0 [a, b] 4
/-- The slot of FMUL (R196). -/
def slotFmul (g : Guard) (f : Fmt) (r : RM) (d a b : SReg) : Slot := floatSlot .mul g f r d a b 0 [a, b] 4
/-- The slot of FMA (R196). -/
def slotFma (g : Guard) (f : Fmt) (r : RM) (d a b : SReg) : Slot := floatSlot .fma g f r d a b d [a, b, d] 4
/-- The slot of FDIV (R197). -/
def slotFdiv (g : Guard) (f : Fmt) (r : RM) (d a b : SReg) : Slot := floatSlot .div g f r d a b 0 [a, b] 14
/-- The slot of FSQRT (R197). -/
def slotFsqrt (g : Guard) (f : Fmt) (r : RM) (d a : SReg) : Slot := floatSlot .sqrt g f r d a 0 0 [a] 14
/-- The slot of FMIN (R198). -/
def slotFmin (g : Guard) (f : Fmt) (d a b : SReg) : Slot :=
  scalarSlot g d [a, b] 2 [] fun x => floatMinMax false f (x.sr a) (x.sr b)
/-- The slot of FMAX (R198). -/
def slotFmax (g : Guard) (f : Fmt) (d a b : SReg) : Slot :=
  scalarSlot g d [a, b] 2 [] fun x => floatMinMax true f (x.sr a) (x.sr b)
/-- The slot of FCMP (R199). -/
def slotFcmp (g : Guard) (f : Fmt) (cond : Cond) (d : PReg) (a b : SReg) : Slot :=
  predSlot g d [.s a.toNat, .s b.toNat] [a, b] 2 fun x => floatCmp cond f (x.sr a) (x.sr b)
/-- The slot of FCVT (R200). -/
def slotFcvt (g : Guard) (f src : Fmt) (r : RM) (d a : SReg) : Slot :=
  scalarSlot g d [a] 4 (seedReads r) fun x => floatConvert f src r x.seed (x.sr a)

/-- SEMADD: an atomic add modulo 2^32 on a semaphore of the issuing core (R165, R311). -/
def slotSemadd (g : Guard) (w : WReg) (a : SReg) : Slot :=
  { pos := 0, guard := g, reads := [.s a.toNat], eats := [a],
    run := fun x s => s.onCore x.c fun k => k.setW w (k.w w + (x.sr a).truncate 32) }

/-! ### The meaning of each instruction of this file -/
def execNop (s : State) : Host.Outcome State Fault Refusal :=
  issueOne (formFault .nop) slotNop s
/-- ADD (R188). -/
def execAdd (g : Guard) (d : SReg) (a : SReg) (b : SReg) (s : State) : Host.Outcome State Fault Refusal :=
  issueOne (formFault (.add g d a b)) (slotAdd g d a b) s
/-- SUB (R188). -/
def execSub (g : Guard) (d : SReg) (a : SReg) (b : SReg) (s : State) : Host.Outcome State Fault Refusal :=
  issueOne (formFault (.sub g d a b)) (slotSub g d a b) s
/-- AND (R188). -/
def execAnd (g : Guard) (d : SReg) (a : SReg) (b : SReg) (s : State) : Host.Outcome State Fault Refusal :=
  issueOne (formFault (.and g d a b)) (slotAnd g d a b) s
/-- OR (R188). -/
def execOr (g : Guard) (d : SReg) (a : SReg) (b : SReg) (s : State) : Host.Outcome State Fault Refusal :=
  issueOne (formFault (.or g d a b)) (slotOr g d a b) s
/-- XOR (R188). -/
def execXor (g : Guard) (d : SReg) (a : SReg) (b : SReg) (s : State) : Host.Outcome State Fault Refusal :=
  issueOne (formFault (.xor g d a b)) (slotXor g d a b) s
/-- SHL (R188). -/
def execShl (g : Guard) (d : SReg) (a : SReg) (b : SReg) (s : State) : Host.Outcome State Fault Refusal :=
  issueOne (formFault (.shl g d a b)) (slotShl g d a b) s
/-- SHRL (R188). -/
def execShrl (g : Guard) (d : SReg) (a : SReg) (b : SReg) (s : State) : Host.Outcome State Fault Refusal :=
  issueOne (formFault (.shrl g d a b)) (slotShrl g d a b) s
/-- SHRA (R188). -/
def execShra (g : Guard) (d : SReg) (a : SReg) (b : SReg) (s : State) : Host.Outcome State Fault Refusal :=
  issueOne (formFault (.shra g d a b)) (slotShra g d a b) s
/-- MIN (R188). -/
def execMin (g : Guard) (d : SReg) (a : SReg) (b : SReg) (s : State) : Host.Outcome State Fault Refusal :=
  issueOne (formFault (.min g d a b)) (slotMin g d a b) s
/-- MAX (R188). -/
def execMax (g : Guard) (d : SReg) (a : SReg) (b : SReg) (s : State) : Host.Outcome State Fault Refusal :=
  issueOne (formFault (.max g d a b)) (slotMax g d a b) s
/-- MINN (R188). -/
def execMinn (g : Guard) (d : SReg) (a : SReg) (b : SReg) (s : State) : Host.Outcome State Fault Refusal :=
  issueOne (formFault (.minn g d a b)) (slotMinn g d a b) s
/-- MAXN (R188). -/
def execMaxn (g : Guard) (d : SReg) (a : SReg) (b : SReg) (s : State) : Host.Outcome State Fault Refusal :=
  issueOne (formFault (.maxn g d a b)) (slotMaxn g d a b) s
/-- MUL (R188). -/
def execMul (g : Guard) (d : SReg) (a : SReg) (b : SReg) (s : State) : Host.Outcome State Fault Refusal :=
  issueOne (formFault (.mul g d a b)) (slotMul g d a b) s
/-- MULH (R188). -/
def execMulh (g : Guard) (d : SReg) (a : SReg) (b : SReg) (s : State) : Host.Outcome State Fault Refusal :=
  issueOne (formFault (.mulh g d a b)) (slotMulh g d a b) s
/-- MULHN (R188). -/
def execMulhn (g : Guard) (d : SReg) (a : SReg) (b : SReg) (s : State) : Host.Outcome State Fault Refusal :=
  issueOne (formFault (.mulhn g d a b)) (slotMulhn g d a b) s
/-- DIVS (R189). -/
def execDivs (g : Guard) (d : SReg) (a : SReg) (b : SReg) (s : State) : Host.Outcome State Fault Refusal :=
  issueOne (formFault (.divs g d a b)) (slotDivs g d a b) s
/-- DIVN (R189). -/
def execDivn (g : Guard) (d : SReg) (a : SReg) (b : SReg) (s : State) : Host.Outcome State Fault Refusal :=
  issueOne (formFault (.divn g d a b)) (slotDivn g d a b) s
/-- REMS (R189). -/
def execRems (g : Guard) (d : SReg) (a : SReg) (b : SReg) (s : State) : Host.Outcome State Fault Refusal :=
  issueOne (formFault (.rems g d a b)) (slotRems g d a b) s
/-- REMN (R189). -/
def execRemn (g : Guard) (d : SReg) (a : SReg) (b : SReg) (s : State) : Host.Outcome State Fault Refusal :=
  issueOne (formFault (.remn g d a b)) (slotRemn g d a b) s
/-- CLZ (R190). -/
def execClz (g : Guard) (d : SReg) (a : SReg) (s : State) : Host.Outcome State Fault Refusal :=
  issueOne (formFault (.clz g d a)) (slotClz g d a) s
/-- CTZ (R190). -/
def execCtz (g : Guard) (d : SReg) (a : SReg) (s : State) : Host.Outcome State Fault Refusal :=
  issueOne (formFault (.ctz g d a)) (slotCtz g d a) s
/-- POPC (R190). -/
def execPopc (g : Guard) (d : SReg) (a : SReg) (s : State) : Host.Outcome State Fault Refusal :=
  issueOne (formFault (.popc g d a)) (slotPopc g d a) s
/-- SEXT (R190). -/
def execSext (g : Guard) (d : SReg) (a : SReg) (n : BitVec 6) (s : State) : Host.Outcome State Fault Refusal :=
  issueOne (formFault (.sext g d a n)) (slotSext g d a n) s
/-- ZEXT (R190). -/
def execZext (g : Guard) (d : SReg) (a : SReg) (n : BitVec 6) (s : State) : Host.Outcome State Fault Refusal :=
  issueOne (formFault (.zext g d a n)) (slotZext g d a n) s
/-- ADDI (R191). -/
def execAddi (g : Guard) (d : SReg) (a : SReg) (i : BitVec 17) (s : State) : Host.Outcome State Fault Refusal :=
  issueOne (formFault (.addi g d a i)) (slotAddi g d a i) s
/-- ANDI (R191). -/
def execAndi (g : Guard) (d : SReg) (a : SReg) (i : BitVec 17) (s : State) : Host.Outcome State Fault Refusal :=
  issueOne (formFault (.andi g d a i)) (slotAndi g d a i) s
/-- ORI (R191). -/
def execOri (g : Guard) (d : SReg) (a : SReg) (i : BitVec 17) (s : State) : Host.Outcome State Fault Refusal :=
  issueOne (formFault (.ori g d a i)) (slotOri g d a i) s
/-- XORI (R191). -/
def execXori (g : Guard) (d : SReg) (a : SReg) (i : BitVec 17) (s : State) : Host.Outcome State Fault Refusal :=
  issueOne (formFault (.xori g d a i)) (slotXori g d a i) s
/-- SHLI (R191). -/
def execShli (g : Guard) (d : SReg) (a : SReg) (n : BitVec 6) (s : State) : Host.Outcome State Fault Refusal :=
  issueOne (formFault (.shli g d a n)) (slotShli g d a n) s
/-- SHRLI (R191). -/
def execShrli (g : Guard) (d : SReg) (a : SReg) (n : BitVec 6) (s : State) : Host.Outcome State Fault Refusal :=
  issueOne (formFault (.shrli g d a n)) (slotShrli g d a n) s
/-- SHRAI (R191). -/
def execShrai (g : Guard) (d : SReg) (a : SReg) (n : BitVec 6) (s : State) : Host.Outcome State Fault Refusal :=
  issueOne (formFault (.shrai g d a n)) (slotShrai g d a n) s
/-- LIMM (R192). -/
def execLimm (g : Guard) (d : SReg) (i : BitVec 17) (s : State) : Host.Outcome State Fault Refusal :=
  issueOne (formFault (.limm g d i)) (slotLimm g d i) s
/-- LIMMH (R192). -/
def execLimmh (g : Guard) (d : SReg) (k : BitVec 2) (v : BitVec 16) (s : State) : Host.Outcome State Fault Refusal :=
  issueOne (formFault (.limmh g d k v)) (slotLimmh g d k v) s
/-- CMP (R193). -/
def execCmp (g : Guard) (d : PReg) (a : SReg) (b : SReg) (nat : Bool) (cond : Cond) (s : State) : Host.Outcome State Fault Refusal :=
  issueOne (formFault (.cmp g d a b nat cond)) (slotCmp g d a b nat cond) s
/-- PAND (R194). -/
def execPand (g : Guard) (d : PReg) (a : PReg) (b : PReg) (s : State) : Host.Outcome State Fault Refusal :=
  issueOne (formFault (.pand g d a b)) (slotPand g d a b) s
/-- POR (R194). -/
def execPor (g : Guard) (d : PReg) (a : PReg) (b : PReg) (s : State) : Host.Outcome State Fault Refusal :=
  issueOne (formFault (.por g d a b)) (slotPor g d a b) s
/-- PXOR (R194). -/
def execPxor (g : Guard) (d : PReg) (a : PReg) (b : PReg) (s : State) : Host.Outcome State Fault Refusal :=
  issueOne (formFault (.pxor g d a b)) (slotPxor g d a b) s
/-- PNOT (R194). -/
def execPnot (g : Guard) (d : PReg) (a : PReg) (s : State) : Host.Outcome State Fault Refusal :=
  issueOne (formFault (.pnot g d a)) (slotPnot g d a) s
/-- SEL (R195). -/
def execSel (g : Guard) (d : SReg) (p : PReg) (a : SReg) (b : SReg) (s : State) : Host.Outcome State Fault Refusal :=
  issueOne (formFault (.sel g d p a b)) (slotSel g d p a b) s
/-- FADD (R196). -/
def execFadd (g : Guard) (f : Fmt) (r : RM) (d : SReg) (a : SReg) (b : SReg) (s : State) : Host.Outcome State Fault Refusal :=
  issueOne (formFault (.fadd g f r d a b)) (slotFadd g f r d a b) s
/-- FSUB (R196). -/
def execFsub (g : Guard) (f : Fmt) (r : RM) (d : SReg) (a : SReg) (b : SReg) (s : State) : Host.Outcome State Fault Refusal :=
  issueOne (formFault (.fsub g f r d a b)) (slotFsub g f r d a b) s
/-- FMUL (R196). -/
def execFmul (g : Guard) (f : Fmt) (r : RM) (d : SReg) (a : SReg) (b : SReg) (s : State) : Host.Outcome State Fault Refusal :=
  issueOne (formFault (.fmul g f r d a b)) (slotFmul g f r d a b) s
/-- FMA (R196). -/
def execFma (g : Guard) (f : Fmt) (r : RM) (d : SReg) (a : SReg) (b : SReg) (s : State) : Host.Outcome State Fault Refusal :=
  issueOne (formFault (.fma g f r d a b)) (slotFma g f r d a b) s
/-- FDIV (R197). -/
def execFdiv (g : Guard) (f : Fmt) (r : RM) (d : SReg) (a : SReg) (b : SReg) (s : State) : Host.Outcome State Fault Refusal :=
  issueOne (formFault (.fdiv g f r d a b)) (slotFdiv g f r d a b) s
/-- FSQRT (R197). -/
def execFsqrt (g : Guard) (f : Fmt) (r : RM) (d : SReg) (a : SReg) (s : State) : Host.Outcome State Fault Refusal :=
  issueOne (formFault (.fsqrt g f r d a)) (slotFsqrt g f r d a) s
/-- FMIN (R198). -/
def execFmin (g : Guard) (f : Fmt) (d : SReg) (a : SReg) (b : SReg) (s : State) : Host.Outcome State Fault Refusal :=
  issueOne (formFault (.fmin g f d a b)) (slotFmin g f d a b) s
/-- FMAX (R198). -/
def execFmax (g : Guard) (f : Fmt) (d : SReg) (a : SReg) (b : SReg) (s : State) : Host.Outcome State Fault Refusal :=
  issueOne (formFault (.fmax g f d a b)) (slotFmax g f d a b) s
/-- FCMP (R199). -/
def execFcmp (g : Guard) (f : Fmt) (cond : Cond) (d : PReg) (a : SReg) (b : SReg) (s : State) : Host.Outcome State Fault Refusal :=
  issueOne (formFault (.fcmp g f cond d a b)) (slotFcmp g f cond d a b) s
/-- FCVT (R200). -/
def execFcvt (g : Guard) (f : Fmt) (src : Fmt) (r : RM) (d : SReg) (a : SReg) (s : State) : Host.Outcome State Fault Refusal :=
  issueOne (formFault (.fcvt g f src r d a)) (slotFcvt g f src r d a) s
/-- SEMADD (R311). -/
def execSemadd (g : Guard) (w : WReg) (a : SReg) (s : State) : Host.Outcome State Fault Refusal :=
  issueOne (formFault (.semadd g w a)) (slotSemadd g w a) s

end Sys2Proof.Machine
end

