-- ==== Sys2Proof/Machine/VectorMath.lean ====
section
/-! DEFINITION. What each V and X instruction computes on queue entries, lane by lane (R166, R176 to R182, R203 to R216). -/

namespace Sys2Proof.Machine

/-- A vector of `n` lanes of `w` bits. -/
def vecOf (w n : Nat) (f : Nat → Nat) : Vec := BitVec.ofNat 2048 (ofLanes w n f)

/-- Lane `j` of a vector of `w`-bit lanes. -/
def lane (w : Nat) (v : Vec) (j : Nat) : Nat := laneOf w v.toNat j

/-- The number of lanes of `w` bits (R166). -/
def laneCount (w : Nat) : Nat := 2048 / w

/-- A lane-by-lane result with the flags of all lanes ORed (R203). -/
def lanewise (w : Nat) (f : Nat → Nat × Flags) : Vec × Flags :=
  let rs := (List.range (laneCount w)).map f
  (vecOf w (laneCount w) (fun j => (rs.getD j (0, 0)).1), rs.foldl (fun fl r => fl ||| r.2) 0)

/-- The draw of lane `j` of a V or X instruction: seed s59, index 0 (R92, R203). -/
def laneSeed (s59 : Word64) (j : Nat) : Seed := ⟨s59.toNat, j, 0⟩

/-- The V operations on two or three lanes that round (R204, R205, R206). -/
inductive VecOp where
  | add | sub | mul | fma | fms | nfma | adif
deriving DecidableEq, Repr

/-- The exact result of a lane operation on floating-point values. -/
def vecExact (o : VecOp) (mode : RM) (a b c : Val) : Exactly :=
  match o with
  | .add => addExact mode a b
  | .sub => addExact mode a b.neg
  | .mul => mulExact a b
  | .fma => fmaExact mode a b c
  | .fms => fmaExact mode a b c.neg
  | .nfma => fmaExact mode a.neg b c
  | .adif => absDiff a b

/-- The result of a lane operation on integers, to be wrapped (R204, R206). -/
def vecInt (o : VecOp) (a b c : Int) : Int :=
  match o with
  | .add => a + b
  | .sub => a - b
  | .mul => a * b
  | .fma => a * b + c
  | .fms => a * b - c
  | .nfma => c - a * b
  | .adif => (a - b).natAbs

/-- VADD to VNFMA and VADIF (R204 to R206). -/
def vecArith (o : VecOp) (f : Fmt) (mode : RM) (s59 : Word64) (a b c : Vec) : Vec × Flags :=
  let w := fmtWidth fmtn0v f
  lanewise w fun j =>
    if fmtIsIW f then
      (wrap w (vecInt o (intVal fmtn0v f (lane w a j)) (intVal fmtn0v f (lane w b j)) (intVal fmtn0v f (lane w c j))), 0)
    else
      finish f mode false (laneSeed s59 j)
        (vecExact o mode (valueOf fmtn0v f (lane w a j)) (valueOf fmtn0v f (lane w b j)) (valueOf fmtn0v f (lane w c j)))
where fmtn0v : Fmtn := fmtnOf 0x5

/-- The minimum or maximum of two lanes of any format of R206. -/
def laneMinMax (mx : Bool) (f : Fmt) (x y : Nat) : Nat × Flags :=
  if fmtIsIW f then
    let a := intVal (fmtnOf 5) f x
    let b := intVal (fmtnOf 5) f y
    ((if mx then (if a ≤ b then y else x) else (if b < a then y else x)), 0)
  else minMaxFloat (fmtnOf 5) f mx x y

/-- VMIN and VMAX (R206). -/
def vecMinMax (mx : Bool) (f : Fmt) (a b : Vec) : Vec × Flags :=
  let w := fmtWidth (fmtnOf 5) f
  lanewise w fun j => laneMinMax mx f (lane w a j) (lane w b j)

/-- VABS and VNEG (R206): the sign bit of floating-point lanes, two's complement otherwise. -/
def vecSign (neg : Bool) (f : Fmt) (a : Vec) : Vec :=
  let w := fmtWidth (fmtnOf 5) f
  vecOf w (laneCount w) fun j =>
    let x := lane w a j
    if fmtIsIW f then
      let i := signedOf w x
      wrap w (if neg then -i else i.natAbs)
    else if neg then x ^^^ 2 ^ (w - 1) else x % 2 ^ (w - 1)

/-- VCMP: a mask of all ones where the condition holds (R207). -/
def vecCmp (c : Cond) (f : Fmt) (a b : Vec) : Vec × Flags :=
  let w := fmtWidth (fmtnOf 5) f
  lanewise w fun j =>
    let x := lane w a j
    let y := lane w b j
    let r := if fmtIsIW f then (condInt c (intVal (fmtnOf 5) f x) (intVal (fmtnOf 5) f y), 0)
      else condVal c (valueOf (fmtnOf 5) f x) (valueOf (fmtnOf 5) f y)
    (if r.1 then 2 ^ w - 1 else 0, r.2)

/-- VSEL (R208). -/
def vecSel (f : Fmt) (a b m : Vec) : Vec :=
  let w := fmtWidth (fmtnOf 5) f
  vecOf w (laneCount w) fun j => if lane w m j ≠ 0 then lane w a j else lane w b j

/-- The shifts of R210: VSHL 0, VSHRL 1, VSHRA 2. -/
def vecShift (k : Nat) (f : Fmt) (a b : Vec) : Vec :=
  let w := fmtWidth (fmtnOf 5) f
  vecOf w (laneCount w) fun j =>
    let x := lane w a j
    let s := lane w b j % w
    match k with
    | 0 => x <<< s
    | 1 => x >>> s
    | _ => wrap w (signedOf w x / (2 ^ s : Nat))

/-- VCVT (R211). -/
def vecConvert (n : Fmtn) (f src : Fmt) (mode : RM) (sat : Bool) (s59 : Word64) (a : Vec) : Vec × Flags :=
  let ws := fmtWidth n src
  let wd := fmtWidth n f
  let k := 2048 / max ws wd
  let rs := (List.range k).map fun j =>
    convert n f mode sat (fmtIsInt src) (laneSeed s59 j) (valueOf n src (lane ws a j))
  (vecOf wd k (fun j => (rs.getD j (0, 0)).1), rs.foldl (fun fl r => fl ||| r.2) 0)

/-- The target ranges of VSAT (R212). -/
def vsatRange (t : BitVec 3) : Int × Int :=
  match t.toNat with
  | 0 => (-8, 7) | 1 => (-128, 127) | 2 => (-32768, 32767) | 3 => (-2147483648, 2147483647)
  | 4 => (0, 15) | 5 => (0, 255) | 6 => (0, 65535) | _ => (0, 4294967295)

/-- The target width of VSAT in bits (R212). -/
def vsatWidth (t : BitVec 3) : Nat := 4 * 2 ^ (t.toNat % 4)

/-- VSAT (R212). -/
def vecSat (f : Fmt) (t : BitVec 3) (a : Vec) : Vec × Flags :=
  let w := fmtWidth (fmtnOf 5) f
  let (lo, hi) := vsatRange t
  lanewise w fun j =>
    let i := intVal (fmtnOf 5) f (lane w a j)
    let c := if i < lo then lo else if i > hi then hi else i
    (wrap w c, flagIf (c ≠ i) flagSATD)

/-- VRCP, VRSQ, VEXP2 and VLOG2 (R213). -/
def vecElementary (fn : Nat) (f : Fmt) (mode : RM) (s59 : Word64) (a : Vec) : Vec × Flags :=
  let w := fmtWidth (fmtnOf 5) f
  lanewise w fun j => elementary fn f mode (laneSeed s59 j) (lane w a j)

/-- VDOT (R214). -/
def vecDot (n : Fmtn) (f : Fmt) (a b : Vec) : Vec :=
  let c := fmtWidth n f
  let g := (2048 / c) / 64
  vecOf 32 64 fun j =>
    wrap 32 ((List.range g).foldl (fun (t : Int) i =>
      t + intVal n f (lane c a (g * j + i)) * intVal n f (lane c b (g * j + i))) 0)

/-- VREDADD (R215). -/
def vecRedAdd (f : Fmt) (mode : RM) (s59 : Word64) (a : Vec) : Vec × Flags :=
  let w := fmtWidth (fmtnOf 5) f
  let js := List.range (laneCount w)
  if fmtIsIW f then
    (BitVec.ofNat 2048 (js.foldl (fun s j => s + lane w a j) 0 % 2 ^ w), 0)
  else
    let r := finish f mode false (laneSeed s59 0) (blockSum (js.map fun j => valueOf (fmtnOf 5) f (lane w a j)))
    (BitVec.ofNat 2048 r.1, r.2)

/-- VREDMIN and VREDMAX (R215). -/
def vecRedMinMax (mx : Bool) (f : Fmt) (a : Vec) : Vec × Flags :=
  let w := fmtWidth (fmtnOf 5) f
  let r := (List.range (laneCount w - 1)).foldl (fun (st : Nat × Flags) j =>
    let q := laneMinMax mx f st.1 (lane w a (j + 1))
    (q.1, st.2 ||| q.2)) (lane w a 0, 0)
  (BitVec.ofNat 2048 r.1, r.2)

/-- VBCAST (R216). -/
def vecBcast (f : Fmt) (s : Word64) : Vec :=
  let w := fmtWidth (fmtnOf 5) f
  vecOf w (laneCount w) fun _ => s.toNat

/-- VEXTR: the lane sign-extended for int formats (R216). -/
def vecExtr (f : Fmt) (a : Vec) (i : Word64) : Word64 :=
  let w := fmtWidth (fmtnOf 5) f
  let x := lane w a (i.toNat % laneCount w)
  if fmtIsIW f && fmtSigned (fmtnOf 5) f then BitVec.ofInt 64 (signedOf w x) else BitVec.ofNat 64 x

/-- VIOTA (R216). -/
def vecIota (f : Fmt) : Vec :=
  let w := fmtWidth (fmtnOf 5) f
  vecOf w (laneCount w) id

/-- The number of nonzero lanes (VANY, VALL, VCNT, R216). -/
def vecCount (f : Fmt) (a : Vec) : Nat :=
  let w := fmtWidth (fmtnOf 5) f
  ((List.range (laneCount w)).filter fun j => lane w a j ≠ 0).length

/-! ### The X slot -/

/-- The container width a PACK or UNPK SUB selects (R176). -/
def packWidth (s : BitVec 2) : Nat :=
  match s.toNat with | 0 => 64 | 1 => 32 | 2 => 16 | _ => 8

/-- PACK (R177). -/
def vecPack (n : Fmtn) (f : Fmt) (s : BitVec 2) (x : Vec) : Vec × Flags :=
  let c := packWidth s
  let w := fmtWidth n f
  let k := 2048 / c
  let one (j : Nat) : Nat × Flags :=
    let e := lane c x j
    if fmtIsB8 f then (e % 256, 0)
    else
      let v : Int := if fmtSigned n f then signedOf c e else e
      let (i, out) := clampInt n f v
      (wrap (codeWidth n f) i, flagIf out flagSATD)
  let rs := (List.range k).map one
  (vecOf w k (fun j => (rs.getD j (0, 0)).1), rs.foldl (fun fl r => fl ||| r.2) 0)

/-- UNPK (R177). -/
def vecUnpk (n : Fmtn) (f : Fmt) (s : BitVec 2) (x : Vec) : Vec :=
  let c := packWidth s
  let w := fmtWidth n f
  vecOf c (2048 / c) fun j =>
    if fmtIsB8 f then lane w x j else wrap c (intVal n f (lane w x j))

/-- SCAL (R178). -/
def vecScal (f : Fmt) (mode : RM) (s59 : Word64) (k : Nat) (x : Vec) : Vec × Flags :=
  let w := fmtWidth (fmtnOf 5) f
  lanewise w fun j =>
    if k = 0xFF then (nanCode f, flagNV)
    else
      match valueOf (fmtnOf 5) f (lane w x j) with
      | .fin neg m e => convert (fmtnOf 5) f mode false false (laneSeed s59 j) (.fin neg m (e + k - 127))
      | v => convert (fmtnOf 5) f mode false false (laneSeed s59 j) v

/-- SHUF (R180). -/
def vecShuf (f : Fmt) (x ix : Vec) : Vec :=
  let w := fmtWidth (fmtnOf 5) f
  let n := laneCount w
  vecOf w n fun j => lane w x (lane w ix j % n)

/-- ROTL (R180): r[(j + k) mod n] := x[j]. -/
def vecRotl (f : Fmt) (x : Vec) (s : Word64) : Vec :=
  let w := fmtWidth (fmtnOf 5) f
  let n := laneCount w
  let k := s.toNat % n
  vecOf w n fun j => lane w x ((j + (n - k)) % n)

/-- XPOSE (R180). -/
def vecXpose (f : Fmt) (x : Vec) : Vec :=
  let w := fmtWidth (fmtnOf 5) f
  let n := laneCount w
  let C := 2 ^ ((n.log2 + 1) / 2)
  let R := n / C
  vecOf w n fun i => lane w x ((i % R) * C + i / R)

/-- INTL (R181). -/
def vecIntl (f : Fmt) (hi : Bool) (a b : Vec) : Vec :=
  let w := fmtWidth (fmtnOf 5) f
  let n := laneCount w
  let o := if hi then n / 2 else 0
  vecOf w n fun i => lane w (if i % 2 = 0 then a else b) (o + i / 2)

/-- DINTL (R181). -/
def vecDintl (f : Fmt) (od : Bool) (a b : Vec) : Vec :=
  let w := fmtWidth (fmtnOf 5) f
  let n := laneCount w
  let o := if od then 1 else 0
  vecOf w n fun i => if i < n / 2 then lane w a (2 * i + o) else lane w b (2 * (i - n / 2) + o)

/-- BPLX: bit plane k gathered (R182). -/
def vecBplx (n : Fmtn) (f : Fmt) (x : Vec) (k : Nat) : Vec :=
  let w := fmtWidth n f
  vecOf 1 (laneCount w) fun j => bit (bitAt (lane w x j) k)

/-- BPLM: bit plane k spread over the partial vector, with container bits above the width cleared (R182). -/
def vecBplm (n : Fmtn) (f : Fmt) (x y : Vec) (k : Nat) : Vec :=
  let w := fmtWidth n f
  vecOf w (laneCount w) fun j =>
    field (setField (lane w y j) k 1 (bit (bitAt x.toNat j))) 0 (codeWidth n f)

/-- A queue entry as its 64 elements of 32 bits (R226). -/
def vecRow (v : Vec) : List (BitVec 32) := (List.range 64).map fun j => BitVec.ofNat 32 (lane 32 v j)

/-- The vector of a row of 64 elements of 32 bits (R226). -/
def rowVec (r : List (BitVec 32)) : Vec := vecOf 32 64 fun j => (r.getD j 0).toNat

end Sys2Proof.Machine
end

