-- ==== Sys2Proof/Machine/Vector.lean ====
section
/-! DEFINITION. The V slots' arithmetic, comparison, conversion, reduction and move instructions (R203 to R216). -/

namespace Sys2Proof.Machine

open Sys2Proof

/-- A vector slot: queue sources in the order of R168, one push. -/
def vecSlot (g : Guard) (d : QReg) (qs : List QSrc) (bound : Nat) (reads : List RegName) (f : Ctx → Vec × Flags) : Slot :=
  { pos := vPos d, guard := g, reads := reads, qs := qs, push := [d], eats := seedEats reads,
    run := fun x s => s.onCore x.c fun k => k.push x.s.clk bound d (f x).1 x.bad (f x).2 }

/-- The destination queue popped as a further operand (R205, R208). -/
def popped (d : QReg) : QSrc := ⟨d, false⟩

/-- The slot of VADD (R204). -/
def slotVadd (g : Guard) (f : Fmt) (r : RM) (d : QReg) (a b : QSrc) : Slot :=
  vecSlot g d [a, b] 4 (seedReads r) fun x => vecArith .add f r x.seed (x.vec 0) (x.vec 1) 0
/-- The slot of VSUB (R204). -/
def slotVsub (g : Guard) (f : Fmt) (r : RM) (d : QReg) (a b : QSrc) : Slot :=
  vecSlot g d [a, b] 4 (seedReads r) fun x => vecArith .sub f r x.seed (x.vec 0) (x.vec 1) 0
/-- The slot of VMUL (R204). -/
def slotVmul (g : Guard) (f : Fmt) (r : RM) (d : QReg) (a b : QSrc) : Slot :=
  vecSlot g d [a, b] 4 (seedReads r) fun x => vecArith .mul f r x.seed (x.vec 0) (x.vec 1) 0
/-- The slot of VFMA (R205). -/
def slotVfma (g : Guard) (f : Fmt) (r : RM) (d : QReg) (a b : QSrc) : Slot :=
  vecSlot g d [a, b, popped d] 6 (seedReads r) fun x => vecArith .fma f r x.seed (x.vec 0) (x.vec 1) (x.vec 2)
/-- The slot of VFMS (R205). -/
def slotVfms (g : Guard) (f : Fmt) (r : RM) (d : QReg) (a b : QSrc) : Slot :=
  vecSlot g d [a, b, popped d] 6 (seedReads r) fun x => vecArith .fms f r x.seed (x.vec 0) (x.vec 1) (x.vec 2)
/-- The slot of VNFMA (R205). -/
def slotVnfma (g : Guard) (f : Fmt) (r : RM) (d : QReg) (a b : QSrc) : Slot :=
  vecSlot g d [a, b, popped d] 6 (seedReads r) fun x => vecArith .nfma f r x.seed (x.vec 0) (x.vec 1) (x.vec 2)
/-- The slot of VMIN (R206). -/
def slotVmin (g : Guard) (f : Fmt) (d : QReg) (a b : QSrc) : Slot :=
  vecSlot g d [a, b] 2 [] fun x => vecMinMax false f (x.vec 0) (x.vec 1)
/-- The slot of VMAX (R206). -/
def slotVmax (g : Guard) (f : Fmt) (d : QReg) (a b : QSrc) : Slot :=
  vecSlot g d [a, b] 2 [] fun x => vecMinMax true f (x.vec 0) (x.vec 1)
/-- The slot of VABS (R206). -/
def slotVabs (g : Guard) (f : Fmt) (d : QReg) (a : QSrc) : Slot :=
  vecSlot g d [a] 2 [] fun x => (vecSign false f (x.vec 0), 0)
/-- The slot of VNEG (R206). -/
def slotVneg (g : Guard) (f : Fmt) (d : QReg) (a : QSrc) : Slot :=
  vecSlot g d [a] 2 [] fun x => (vecSign true f (x.vec 0), 0)
/-- The slot of VADIF (R206). -/
def slotVadif (g : Guard) (f : Fmt) (r : RM) (d : QReg) (a b : QSrc) : Slot :=
  vecSlot g d [a, b] 4 (seedReads r) fun x => vecArith .adif f r x.seed (x.vec 0) (x.vec 1) 0
/-- The slot of VCMP (R207). -/
def slotVcmp (g : Guard) (f : Fmt) (cond : Cond) (d : QReg) (a b : QSrc) : Slot :=
  vecSlot g d [a, b] 2 [] fun x => vecCmp cond f (x.vec 0) (x.vec 1)
/-- The slot of VSEL (R208). -/
def slotVsel (g : Guard) (f : Fmt) (d : QReg) (a b : QSrc) : Slot :=
  vecSlot g d [a, b, popped d] 2 [] fun x => (vecSel f (x.vec 0) (x.vec 1) (x.vec 2), 0)
/-- The slot of VAND (R209). -/
def slotVand (g : Guard) (d : QReg) (a b : QSrc) : Slot :=
  vecSlot g d [a, b] 1 [] fun x => (x.vec 0 &&& x.vec 1, 0)
/-- The slot of VOR (R209). -/
def slotVor (g : Guard) (d : QReg) (a b : QSrc) : Slot :=
  vecSlot g d [a, b] 1 [] fun x => (x.vec 0 ||| x.vec 1, 0)
/-- The slot of VXOR (R209). -/
def slotVxor (g : Guard) (d : QReg) (a b : QSrc) : Slot :=
  vecSlot g d [a, b] 1 [] fun x => (x.vec 0 ^^^ x.vec 1, 0)
/-- The slot of VNOT (R209). -/
def slotVnot (g : Guard) (d : QReg) (a : QSrc) : Slot := vecSlot g d [a] 1 [] fun x => (~~~(x.vec 0), 0)
/-- The slot of VSHL (R210). -/
def slotVshl (g : Guard) (f : Fmt) (d : QReg) (a b : QSrc) : Slot :=
  vecSlot g d [a, b] 2 [] fun x => (vecShift 0 f (x.vec 0) (x.vec 1), 0)
/-- The slot of VSHRL (R210). -/
def slotVshrl (g : Guard) (f : Fmt) (d : QReg) (a b : QSrc) : Slot :=
  vecSlot g d [a, b] 2 [] fun x => (vecShift 1 f (x.vec 0) (x.vec 1), 0)
/-- The slot of VSHRA (R210). -/
def slotVshra (g : Guard) (f : Fmt) (d : QReg) (a b : QSrc) : Slot :=
  vecSlot g d [a, b] 2 [] fun x => (vecShift 2 f (x.vec 0) (x.vec 1), 0)
/-- The slot of VCVT (R211). -/
def slotVcvt (g : Guard) (f src : Fmt) (r : RM) (sat : Bool) (d : QReg) (a : QSrc) : Slot :=
  vecSlot g d [a] 4 (seedReads r) fun x => vecConvert x.k.fmtn f src r sat x.seed (x.vec 0)
/-- The slot of VSAT (R212). -/
def slotVsat (g : Guard) (f : Fmt) (t : BitVec 3) (d : QReg) (a : QSrc) : Slot :=
  vecSlot g d [a] 2 [] fun x => vecSat f t (x.vec 0)
/-- The slot of VRCP (R213). -/
def slotVrcp (g : Guard) (f : Fmt) (r : RM) (d : QReg) (a : QSrc) : Slot :=
  vecSlot g d [a] 8 (seedReads r) fun x => vecElementary 0 f r x.seed (x.vec 0)
/-- The slot of VRSQ (R213). -/
def slotVrsq (g : Guard) (f : Fmt) (r : RM) (d : QReg) (a : QSrc) : Slot :=
  vecSlot g d [a] 8 (seedReads r) fun x => vecElementary 1 f r x.seed (x.vec 0)
/-- The slot of VEXP2 (R213). -/
def slotVexp2 (g : Guard) (f : Fmt) (r : RM) (d : QReg) (a : QSrc) : Slot :=
  vecSlot g d [a] 8 (seedReads r) fun x => vecElementary 2 f r x.seed (x.vec 0)
/-- The slot of VLOG2 (R213). -/
def slotVlog2 (g : Guard) (f : Fmt) (r : RM) (d : QReg) (a : QSrc) : Slot :=
  vecSlot g d [a] 8 (seedReads r) fun x => vecElementary 3 f r x.seed (x.vec 0)
/-- The slot of VDOT (R214). -/
def slotVdot (g : Guard) (f : Fmt) (d : QReg) (a b : QSrc) : Slot :=
  vecSlot g d [a, b] 6 [] fun x => (vecDot x.k.fmtn f (x.vec 0) (x.vec 1), 0)
/-- The slot of VREDADD (R215). -/
def slotVredadd (g : Guard) (f : Fmt) (r : RM) (d : QReg) (a : QSrc) : Slot :=
  vecSlot g d [a] 10 (seedReads r) fun x => vecRedAdd f r x.seed (x.vec 0)
/-- The slot of VREDMIN (R215). -/
def slotVredmin (g : Guard) (f : Fmt) (d : QReg) (a : QSrc) : Slot :=
  vecSlot g d [a] 10 [] fun x => vecRedMinMax false f (x.vec 0)
/-- The slot of VREDMAX (R215). -/
def slotVredmax (g : Guard) (f : Fmt) (d : QReg) (a : QSrc) : Slot :=
  vecSlot g d [a] 10 [] fun x => vecRedMinMax true f (x.vec 0)
/-- VBCAST (R216): every lane takes the low bits of the scalar. -/
def slotVbcast (g : Guard) (f : Fmt) (d : QReg) (a : SReg) : Slot :=
  { vecSlot g d [] 2 [.s a.toNat] fun x => (vecBcast f (x.sr a), 0) with eats := [a] }
/-- The slot of VEXTR (R216). -/
def slotVextr (g : Guard) (f : Fmt) (d : SReg) (a : QSrc) (b : SReg) : Slot :=
  { pos := vPos a.q, guard := g, reads := [.s b.toNat], writes := [.s d.toNat], qs := [a], eats := [b],
    run := fun x s => s.onCore x.c fun k => k.resultS x.s.clk 2 d (vecExtr f (x.vec 0) (x.sr b)) x.bad 0 (x.free 192) }
/-- The slot of VIOTA (R216). -/
def slotViota (g : Guard) (f : Fmt) (d : QReg) : Slot := vecSlot g d [] 1 [] fun _ => (vecIota f, 0)
/-- VMOV carries poison (R362). -/
def slotVmov (g : Guard) (d : QReg) (a : QSrc) : Slot :=
  { pos := vPos d, guard := g, qs := [a], push := [d], eatsQ := false,
    run := fun x s => s.onCore x.c fun k => k.push x.s.clk 1 d (x.vec 0) (x.vecBad 0) 0 }
/-- The slot of VPOP (R216). -/
def slotVpop (g : Guard) (a : QReg) : Slot := { pos := vPos a, guard := g, qs := [⟨a, false⟩], eatsQ := false }
/-- VANY and VALL (R216). -/
def slotVany (g : Guard) (f : Fmt) (d : PReg) (a : QSrc) : Slot :=
  { pos := vPos a.q, guard := g, writes := [.p d.toNat], qs := [a],
    run := fun x s => s.onCore x.c fun k => k.resultP x.s.clk 3 d (0 < vecCount f (x.vec 0)) 0 (x.free 192) }
/-- The slot of VALL (R216). -/
def slotVall (g : Guard) (f : Fmt) (d : PReg) (a : QSrc) : Slot :=
  { pos := vPos a.q, guard := g, writes := [.p d.toNat], qs := [a],
    run := fun x s => s.onCore x.c fun k =>
      k.resultP x.s.clk 3 d (vecCount f (x.vec 0) = laneCount (fmtWidth x.k.fmtn f)) 0 (x.free 192) }
/-- The slot of VCNT (R216). -/
def slotVcnt (g : Guard) (f : Fmt) (d : SReg) (a : QSrc) : Slot :=
  { pos := vPos a.q, guard := g, writes := [.s d.toNat], qs := [a],
    run := fun x s => s.onCore x.c fun k =>
      k.resultS x.s.clk 3 d (BitVec.ofNat 64 (vecCount f (x.vec 0))) x.bad 0 (x.free 192) }

/-! ### The meaning of each instruction of this file -/
def execVadd (g : Guard) (f : Fmt) (r : RM) (d : QReg) (a : QSrc) (b : QSrc) (s : State) : Host.Outcome State Fault Refusal :=
  issueOne (formFault (.vadd g f r d a b)) (slotVadd g f r d a b) s
/-- VSUB (R204). -/
def execVsub (g : Guard) (f : Fmt) (r : RM) (d : QReg) (a : QSrc) (b : QSrc) (s : State) : Host.Outcome State Fault Refusal :=
  issueOne (formFault (.vsub g f r d a b)) (slotVsub g f r d a b) s
/-- VMUL (R204). -/
def execVmul (g : Guard) (f : Fmt) (r : RM) (d : QReg) (a : QSrc) (b : QSrc) (s : State) : Host.Outcome State Fault Refusal :=
  issueOne (formFault (.vmul g f r d a b)) (slotVmul g f r d a b) s
/-- VFMA (R205). -/
def execVfma (g : Guard) (f : Fmt) (r : RM) (d : QReg) (a : QSrc) (b : QSrc) (s : State) : Host.Outcome State Fault Refusal :=
  issueOne (formFault (.vfma g f r d a b)) (slotVfma g f r d a b) s
/-- VFMS (R205). -/
def execVfms (g : Guard) (f : Fmt) (r : RM) (d : QReg) (a : QSrc) (b : QSrc) (s : State) : Host.Outcome State Fault Refusal :=
  issueOne (formFault (.vfms g f r d a b)) (slotVfms g f r d a b) s
/-- VNFMA (R205). -/
def execVnfma (g : Guard) (f : Fmt) (r : RM) (d : QReg) (a : QSrc) (b : QSrc) (s : State) : Host.Outcome State Fault Refusal :=
  issueOne (formFault (.vnfma g f r d a b)) (slotVnfma g f r d a b) s
/-- VMIN (R206). -/
def execVmin (g : Guard) (f : Fmt) (d : QReg) (a : QSrc) (b : QSrc) (s : State) : Host.Outcome State Fault Refusal :=
  issueOne (formFault (.vmin g f d a b)) (slotVmin g f d a b) s
/-- VMAX (R206). -/
def execVmax (g : Guard) (f : Fmt) (d : QReg) (a : QSrc) (b : QSrc) (s : State) : Host.Outcome State Fault Refusal :=
  issueOne (formFault (.vmax g f d a b)) (slotVmax g f d a b) s
/-- VABS (R206). -/
def execVabs (g : Guard) (f : Fmt) (d : QReg) (a : QSrc) (s : State) : Host.Outcome State Fault Refusal :=
  issueOne (formFault (.vabs g f d a)) (slotVabs g f d a) s
/-- VNEG (R206). -/
def execVneg (g : Guard) (f : Fmt) (d : QReg) (a : QSrc) (s : State) : Host.Outcome State Fault Refusal :=
  issueOne (formFault (.vneg g f d a)) (slotVneg g f d a) s
/-- VADIF (R206). -/
def execVadif (g : Guard) (f : Fmt) (r : RM) (d : QReg) (a : QSrc) (b : QSrc) (s : State) : Host.Outcome State Fault Refusal :=
  issueOne (formFault (.vadif g f r d a b)) (slotVadif g f r d a b) s
/-- VCMP (R207). -/
def execVcmp (g : Guard) (f : Fmt) (cond : Cond) (d : QReg) (a : QSrc) (b : QSrc) (s : State) : Host.Outcome State Fault Refusal :=
  issueOne (formFault (.vcmp g f cond d a b)) (slotVcmp g f cond d a b) s
/-- VSEL (R208). -/
def execVsel (g : Guard) (f : Fmt) (d : QReg) (a : QSrc) (b : QSrc) (s : State) : Host.Outcome State Fault Refusal :=
  issueOne (formFault (.vsel g f d a b)) (slotVsel g f d a b) s
/-- VAND (R209). -/
def execVand (g : Guard) (d : QReg) (a : QSrc) (b : QSrc) (s : State) : Host.Outcome State Fault Refusal :=
  issueOne (formFault (.vand g d a b)) (slotVand g d a b) s
/-- VOR (R209). -/
def execVor (g : Guard) (d : QReg) (a : QSrc) (b : QSrc) (s : State) : Host.Outcome State Fault Refusal :=
  issueOne (formFault (.vor g d a b)) (slotVor g d a b) s
/-- VXOR (R209). -/
def execVxor (g : Guard) (d : QReg) (a : QSrc) (b : QSrc) (s : State) : Host.Outcome State Fault Refusal :=
  issueOne (formFault (.vxor g d a b)) (slotVxor g d a b) s
/-- VNOT (R209). -/
def execVnot (g : Guard) (d : QReg) (a : QSrc) (s : State) : Host.Outcome State Fault Refusal :=
  issueOne (formFault (.vnot g d a)) (slotVnot g d a) s
/-- VSHL (R210). -/
def execVshl (g : Guard) (f : Fmt) (d : QReg) (a : QSrc) (b : QSrc) (s : State) : Host.Outcome State Fault Refusal :=
  issueOne (formFault (.vshl g f d a b)) (slotVshl g f d a b) s
/-- VSHRL (R210). -/
def execVshrl (g : Guard) (f : Fmt) (d : QReg) (a : QSrc) (b : QSrc) (s : State) : Host.Outcome State Fault Refusal :=
  issueOne (formFault (.vshrl g f d a b)) (slotVshrl g f d a b) s
/-- VSHRA (R210). -/
def execVshra (g : Guard) (f : Fmt) (d : QReg) (a : QSrc) (b : QSrc) (s : State) : Host.Outcome State Fault Refusal :=
  issueOne (formFault (.vshra g f d a b)) (slotVshra g f d a b) s
/-- VCVT (R211). -/
def execVcvt (g : Guard) (f : Fmt) (src : Fmt) (r : RM) (sat : Bool) (d : QReg) (a : QSrc) (s : State) : Host.Outcome State Fault Refusal :=
  issueOne (formFault (.vcvt g f src r sat d a)) (slotVcvt g f src r sat d a) s
/-- VSAT (R212). -/
def execVsat (g : Guard) (f : Fmt) (t : BitVec 3) (d : QReg) (a : QSrc) (s : State) : Host.Outcome State Fault Refusal :=
  issueOne (formFault (.vsat g f t d a)) (slotVsat g f t d a) s
/-- VRCP (R213). -/
def execVrcp (g : Guard) (f : Fmt) (r : RM) (d : QReg) (a : QSrc) (s : State) : Host.Outcome State Fault Refusal :=
  issueOne (formFault (.vrcp g f r d a)) (slotVrcp g f r d a) s
/-- VRSQ (R213). -/
def execVrsq (g : Guard) (f : Fmt) (r : RM) (d : QReg) (a : QSrc) (s : State) : Host.Outcome State Fault Refusal :=
  issueOne (formFault (.vrsq g f r d a)) (slotVrsq g f r d a) s
/-- VEXP2 (R213). -/
def execVexp2 (g : Guard) (f : Fmt) (r : RM) (d : QReg) (a : QSrc) (s : State) : Host.Outcome State Fault Refusal :=
  issueOne (formFault (.vexp2 g f r d a)) (slotVexp2 g f r d a) s
/-- VLOG2 (R213). -/
def execVlog2 (g : Guard) (f : Fmt) (r : RM) (d : QReg) (a : QSrc) (s : State) : Host.Outcome State Fault Refusal :=
  issueOne (formFault (.vlog2 g f r d a)) (slotVlog2 g f r d a) s
/-- VDOT (R214). -/
def execVdot (g : Guard) (f : Fmt) (d : QReg) (a : QSrc) (b : QSrc) (s : State) : Host.Outcome State Fault Refusal :=
  issueOne (formFault (.vdot g f d a b)) (slotVdot g f d a b) s
/-- VREDADD (R215). -/
def execVredadd (g : Guard) (f : Fmt) (r : RM) (d : QReg) (a : QSrc) (s : State) : Host.Outcome State Fault Refusal :=
  issueOne (formFault (.vredadd g f r d a)) (slotVredadd g f r d a) s
/-- VREDMIN (R215). -/
def execVredmin (g : Guard) (f : Fmt) (d : QReg) (a : QSrc) (s : State) : Host.Outcome State Fault Refusal :=
  issueOne (formFault (.vredmin g f d a)) (slotVredmin g f d a) s
/-- VREDMAX (R215). -/
def execVredmax (g : Guard) (f : Fmt) (d : QReg) (a : QSrc) (s : State) : Host.Outcome State Fault Refusal :=
  issueOne (formFault (.vredmax g f d a)) (slotVredmax g f d a) s
/-- VBCAST (R216). -/
def execVbcast (g : Guard) (f : Fmt) (d : QReg) (a : SReg) (s : State) : Host.Outcome State Fault Refusal :=
  issueOne (formFault (.vbcast g f d a)) (slotVbcast g f d a) s
/-- VEXTR (R216). -/
def execVextr (g : Guard) (f : Fmt) (d : SReg) (a : QSrc) (b : SReg) (s : State) : Host.Outcome State Fault Refusal :=
  issueOne (formFault (.vextr g f d a b)) (slotVextr g f d a b) s
/-- VIOTA (R216). -/
def execViota (g : Guard) (f : Fmt) (d : QReg) (s : State) : Host.Outcome State Fault Refusal :=
  issueOne (formFault (.viota g f d)) (slotViota g f d) s
/-- VMOV (R216). -/
def execVmov (g : Guard) (d : QReg) (a : QSrc) (s : State) : Host.Outcome State Fault Refusal :=
  issueOne (formFault (.vmov g d a)) (slotVmov g d a) s
/-- VPOP (R216). -/
def execVpop (g : Guard) (a : QReg) (s : State) : Host.Outcome State Fault Refusal :=
  issueOne (formFault (.vpop g a)) (slotVpop g a) s
/-- VANY (R216). -/
def execVany (g : Guard) (f : Fmt) (d : PReg) (a : QSrc) (s : State) : Host.Outcome State Fault Refusal :=
  issueOne (formFault (.vany g f d a)) (slotVany g f d a) s
/-- VALL (R216). -/
def execVall (g : Guard) (f : Fmt) (d : PReg) (a : QSrc) (s : State) : Host.Outcome State Fault Refusal :=
  issueOne (formFault (.vall g f d a)) (slotVall g f d a) s
/-- VCNT (R216). -/
def execVcnt (g : Guard) (f : Fmt) (d : SReg) (a : QSrc) (s : State) : Host.Outcome State Fault Refusal :=
  issueOne (formFault (.vcnt g f d a)) (slotVcnt g f d a) s

end Sys2Proof.Machine
end

