-- ==== Sys2Proof/Machine/Permute.lean ====
section
/-! DEFINITION. The X slot's instructions (R176 to R185, R316). -/

namespace Sys2Proof.Machine

open Sys2Proof

/-- An X slot with queue sources and one push. -/
def xSlot (g : Guard) (d : QReg) (qs : List QSrc) (bound : Nat) (srcs : List SReg) (more : List RegName)
    (check : Ctx → Option SlotFault) (f : Ctx → Vec × Flags) : Slot :=
  { pos := 6, guard := g, reads := srcs.map (fun n => .s n.toNat) ++ more, qs := qs, push := [d], eats := srcs ++ seedEats more, check := check,
    run := fun x s => s.onCore x.c fun k => k.push x.s.clk bound d (f x).1 x.bad (f x).2 }

/-- No check of the entry. -/
def noCheck : Ctx → Option SlotFault := fun _ => none

/-- DATA-FAULT of an operand that is no address: TADDR and DETAIL 0 (log 13). -/
def dataIf (b : Bool) : Option SlotFault := if b then some { code := .dataFault } else none
/-- DATA-FAULT of an access to a range of the scratchpad, which has no virtual address. -/
def scratchIf (b : Bool) (write : Bool) : Option SlotFault :=
  if b then some { code := .dataFault, detail := if write then 3 else 2 } else none
/-- ALIGN when an address breaks the entry's alignment. -/
def alignIf (b : Bool) (a : Word64) (write : Bool) : Option SlotFault :=
  if b then some { code := .align, addr := a, detail := if write then 3 else 2 } else none

/-- The slot of PACK (R177). -/
def slotPack (g : Guard) (f : Fmt) (n : BitVec 2) (d : QReg) (a : QSrc) : Slot :=
  xSlot g d [a] 4 [] [] noCheck fun x => vecPack x.k.fmtn f n (x.vec 0)
/-- The slot of UNPK (R177). -/
def slotUnpk (g : Guard) (f : Fmt) (n : BitVec 2) (d : QReg) (a : QSrc) : Slot :=
  xSlot g d [a] 4 [] [] noCheck fun x => (vecUnpk x.k.fmtn f n (x.vec 0), 0)
/-- The slot of SCAL (R178). -/
def slotScal (g : Guard) (f : Fmt) (r : RM) (d : QReg) (a : QSrc) (b : SReg) : Slot :=
  xSlot g d [a] 4 [b] (seedReads r) noCheck fun x => vecScal f r x.seed (field (x.sr b).toNat 0 8) (x.vec 0)
/-- SCLD (R179): eight scales from the scratchpad. -/
def slotScld (g : Guard) (d a : SReg) : Slot :=
  { pos := 6, guard := g, reads := [.s a.toNat], writes := [.s d.toNat], eats := [a],
    check := fun x => (alignIf ((x.sr a).toNat % 8 ≠ 0) 0 false).or (scratchIf (x.k.spSize < (x.sr a).toNat + 8) false),
    run := fun x s => s.onCore x.c fun k =>
      k.resultS x.s.clk 12 d (BitVec.ofNat 64 (ofBytes (x.k.spRead (x.sr a).toNat 8)))
        (x.bad || x.k.spBad (x.sr a).toNat 8) 0 (x.free 192) }
/-- The slot of SHUF (R180). -/
def slotShuf (g : Guard) (f : Fmt) (d : QReg) (a b : QSrc) : Slot :=
  xSlot g d [a, b] 4 [] [] noCheck fun x => (vecShuf f (x.vec 0) (x.vec 1), 0)
/-- The slot of XPOSE (R180). -/
def slotXpose (g : Guard) (f : Fmt) (d : QReg) (a : QSrc) : Slot :=
  xSlot g d [a] 8 [] [] noCheck fun x => (vecXpose f (x.vec 0), 0)
/-- The slot of ROTL (R180). -/
def slotRotl (g : Guard) (f : Fmt) (d : QReg) (a : QSrc) (b : SReg) : Slot :=
  xSlot g d [a] 2 [b] [] noCheck fun x => (vecRotl f (x.vec 0) (x.sr b), 0)
/-- The slot of BPLX (R182). -/
def slotBplx (g : Guard) (f : Fmt) (d : QReg) (a : QSrc) (b : SReg) : Slot :=
  xSlot g d [a] 4 [b] [] (fun x => dataIf (codeWidth x.k.fmtn f ≤ (x.sr b).toNat)) fun x =>
    (vecBplx x.k.fmtn f (x.vec 0) (x.sr b).toNat, 0)
/-- The slot of BPLM (R182). -/
def slotBplm (g : Guard) (f : Fmt) (d : QReg) (a : QSrc) (b : SReg) : Slot :=
  xSlot g d [a, popped d] 4 [b] [] (fun x => dataIf (codeWidth x.k.fmtn f ≤ (x.sr b).toNat)) fun x =>
    (vecBplm x.k.fmtn f (x.vec 0) (x.vec 1) (x.sr b).toNat, 0)
/-- XMV carries poison (R183, R362). -/
def slotXmv (g : Guard) (d : QReg) (a : QSrc) : Slot :=
  { pos := 6, guard := g, qs := [a], push := [d], eatsQ := false,
    run := fun x s => s.onCore x.c fun k => k.push x.s.clk 2 d (x.vec 0) (x.vecBad 0) 0 }
/-- The slot of INTL (R181). -/
def slotIntl (g : Guard) (f : Fmt) (h : Bool) (d : QReg) (a b : QSrc) : Slot :=
  xSlot g d [a, b] 4 [] [] noCheck fun x => (vecIntl f h (x.vec 0) (x.vec 1), 0)
/-- The slot of DINTL (R181). -/
def slotDintl (g : Guard) (f : Fmt) (h : Bool) (d : QReg) (a b : QSrc) : Slot :=
  xSlot g d [a, b] 4 [] [] noCheck fun x => (vecDintl f h (x.vec 0) (x.vec 1), 0)
/-- SETFMT (R185): the image governs the third bundle after this one. -/
def slotSetfmt (g : Guard) (i : BitVec 17) : Slot :=
  { pos := 6, guard := g, run := fun x s => s.onCore x.c fun k => { k with fmtPend := k.fmtPend ++ [(i, 4)] } }

/-- LSEL.ldd (R184): the descriptor loads unchecked and loses its pending mark (R231). -/
def slotLselLdd (g : Guard) (d : DReg) (a : QSrc) (b : SReg) : Slot :=
  { pos := 6, guard := g, reads := [.s b.toNat], writes := [.d d.toNat], qs := [a], eats := [b],
    check := fun x => dataIf (3 < (x.sr b).toNat),
    run := fun x s => s.onCore x.c fun k =>
      (k.setD d ((x.vec 0).extractLsb' (512 * (x.sr b).toNat) 512) false).addWindow x.s.clk (.d d.toNat) 2 0 }
/-- LSEL.std (R184). -/
def slotLselStd (g : Guard) (d : QReg) (a : DReg) (b : SReg) : Slot :=
  { pos := 6, guard := g, reads := [.s b.toNat, .d a.toNat], push := [d], eats := [b],
    check := fun x => dataIf (3 < (x.sr b).toNat),
    run := fun x s => s.onCore x.c fun k =>
      k.push x.s.clk 2 d ((x.dr a).zeroExtend 2048 <<< (512 * (x.sr b).toNat)) x.bad 0 }

/-- A request of either engine still fills ring `r` (R172, R184). -/
def Core.ringBusy (k : Core) (r : Nat) : Bool :=
  (k.e0.reqs ++ k.e1.reqs).any fun q => match q.op with | .rpush ring .. => ring = r && q.done < 65 | _ => false

/-- LSEL.ldg (R184): the configuration loads and the state becomes zero, once no RPUSH to the ring is in flight. -/
def slotLselLdg (g : Guard) (d : GReg) (a : QSrc) (b : SReg) : Slot :=
  { pos := 6, guard := g, reads := [.s b.toNat], writes := [.g d.toNat], qs := [a], eats := [b],
    check := fun x => dataIf (15 < (x.sr b).toNat),
    wait := fun x => if x.k.ringBusy d.toNat then some x.s else none,
    run := fun x s => s.onCore x.c fun k =>
      ({ k with tiles := k.tiles.filter fun e => e.1 / 16 ≠ d.toNat }.setG d (((x.vec 0).extractLsb' (128 * (x.sr b).toNat) 64 &&& 0xBF00F000003FE000).zeroExtend 128)).addWindow
        x.s.clk (.g d.toNat) 2 0 }
/-- LSEL.stg (R184). -/
def slotLselStg (g : Guard) (d : QReg) (a : GReg) (b : SReg) : Slot :=
  { pos := 6, guard := g, reads := [.s b.toNat, .g a.toNat], push := [d], eats := [b],
    check := fun x => dataIf (15 < (x.sr b).toNat),
    run := fun x s => s.onCore x.c fun k =>
      k.push x.s.clk 2 d ((x.gr a).zeroExtend 2048 <<< (128 * (x.sr b).toNat)) x.bad 0 }

/-- The next index of the task's tile source, taken in one atomic step (R334): the index and the null flag, and the state. -/
def State.nextTile (s : State) (c : Nat) : Word64 × Bool × State :=
  let k := s.core c
  match k.task with
  | none => (0, true, s)
  | some t =>
    let va := t.tileSrc.toNat
    let root := k.csrGet Csr.VMROOT
    if va = 0 || va % 16 ≠ 0 then (0, true, s)
    else match s.translate c root false .write va with
      | .error _ => (0, true, s)
      | .ok pa =>
        let next := ofBytes ((List.range 8).map fun i => s.coreByte (pa + i))
        let limit := ofBytes ((List.range 8).map fun i => s.coreByte (pa + 8 + i))
        if s.homed pa && next < limit then
          let s := ((s.touch c root .write va).coreStep c).endOwnedIn pa 16
          (BitVec.ofNat 64 next, false, (s.homeWrite (.core c (s.tenantNow c) .job) pa (toBytes 8 (next + 1))).1)
        else (0, true, s)

/-- NTREQ (R316): the result is in flight for 24 bundles, its own included. -/
def slotNtreq (g : Guard) : Slot :=
  { pos := 6, guard := g,
    run := fun x s =>
      let (v, z, s) := s.nextTile x.c
      s.onCore x.c fun k =>
        { k with nt := k.nt ++ [{ target := k.ntCount.toNat % 4, value := v, null := z, left := 24 }],
                 ntCount := k.ntCount + 1 } }

/-! ### The meaning of each instruction of this file -/
def execPack (g : Guard) (f : Fmt) (n : BitVec 2) (d : QReg) (a : QSrc) (s : State) : Host.Outcome State Fault Refusal :=
  issueOne (formFault (.pack g f n d a)) (slotPack g f n d a) s
/-- UNPK (R177). -/
def execUnpk (g : Guard) (f : Fmt) (n : BitVec 2) (d : QReg) (a : QSrc) (s : State) : Host.Outcome State Fault Refusal :=
  issueOne (formFault (.unpk g f n d a)) (slotUnpk g f n d a) s
/-- SCAL (R178). -/
def execScal (g : Guard) (f : Fmt) (r : RM) (d : QReg) (a : QSrc) (b : SReg) (s : State) : Host.Outcome State Fault Refusal :=
  issueOne (formFault (.scal g f r d a b)) (slotScal g f r d a b) s
/-- SCLD (R179). -/
def execScld (g : Guard) (d : SReg) (a : SReg) (s : State) : Host.Outcome State Fault Refusal :=
  issueOne (formFault (.scld g d a)) (slotScld g d a) s
/-- SHUF (R180). -/
def execShuf (g : Guard) (f : Fmt) (d : QReg) (a : QSrc) (b : QSrc) (s : State) : Host.Outcome State Fault Refusal :=
  issueOne (formFault (.shuf g f d a b)) (slotShuf g f d a b) s
/-- XPOSE (R180). -/
def execXpose (g : Guard) (f : Fmt) (d : QReg) (a : QSrc) (s : State) : Host.Outcome State Fault Refusal :=
  issueOne (formFault (.xpose g f d a)) (slotXpose g f d a) s
/-- ROTL (R180). -/
def execRotl (g : Guard) (f : Fmt) (d : QReg) (a : QSrc) (b : SReg) (s : State) : Host.Outcome State Fault Refusal :=
  issueOne (formFault (.rotl g f d a b)) (slotRotl g f d a b) s
/-- BPLX (R182). -/
def execBplx (g : Guard) (f : Fmt) (d : QReg) (a : QSrc) (b : SReg) (s : State) : Host.Outcome State Fault Refusal :=
  issueOne (formFault (.bplx g f d a b)) (slotBplx g f d a b) s
/-- BPLM (R182). -/
def execBplm (g : Guard) (f : Fmt) (d : QReg) (a : QSrc) (b : SReg) (s : State) : Host.Outcome State Fault Refusal :=
  issueOne (formFault (.bplm g f d a b)) (slotBplm g f d a b) s
/-- XMV (R183). -/
def execXmv (g : Guard) (d : QReg) (a : QSrc) (s : State) : Host.Outcome State Fault Refusal :=
  issueOne (formFault (.xmv g d a)) (slotXmv g d a) s
/-- INTL (R181). -/
def execIntl (g : Guard) (f : Fmt) (h : Bool) (d : QReg) (a : QSrc) (b : QSrc) (s : State) : Host.Outcome State Fault Refusal :=
  issueOne (formFault (.intl g f h d a b)) (slotIntl g f h d a b) s
/-- DINTL (R181). -/
def execDintl (g : Guard) (f : Fmt) (h : Bool) (d : QReg) (a : QSrc) (b : QSrc) (s : State) : Host.Outcome State Fault Refusal :=
  issueOne (formFault (.dintl g f h d a b)) (slotDintl g f h d a b) s
/-- SETFMT (R185). -/
def execSetfmt (g : Guard) (i : BitVec 17) (s : State) : Host.Outcome State Fault Refusal :=
  issueOne (formFault (.setfmt g i)) (slotSetfmt g i) s
/-- LSEL_LDD (R184). -/
def execLselLdd (g : Guard) (d : DReg) (a : QSrc) (b : SReg) (s : State) : Host.Outcome State Fault Refusal :=
  issueOne (formFault (.lselLdd g d a b)) (slotLselLdd g d a b) s
/-- LSEL_STD (R184). -/
def execLselStd (g : Guard) (d : QReg) (a : DReg) (b : SReg) (s : State) : Host.Outcome State Fault Refusal :=
  issueOne (formFault (.lselStd g d a b)) (slotLselStd g d a b) s
/-- LSEL_LDG (R184). -/
def execLselLdg (g : Guard) (d : GReg) (a : QSrc) (b : SReg) (s : State) : Host.Outcome State Fault Refusal :=
  issueOne (formFault (.lselLdg g d a b)) (slotLselLdg g d a b) s
/-- LSEL_STG (R184). -/
def execLselStg (g : Guard) (d : QReg) (a : GReg) (b : SReg) (s : State) : Host.Outcome State Fault Refusal :=
  issueOne (formFault (.lselStg g d a b)) (slotLselStg g d a b) s
/-- NTREQ (R316). -/
def execNtreq (g : Guard) (s : State) : Host.Outcome State Fault Refusal :=
  issueOne (formFault (.ntreq g)) (slotNtreq g) s

end Sys2Proof.Machine
end

