-- ==== Sys2Proof/Machine/Copy.lean ====
section
/-! DEFINITION. The C slots' instructions: their issue checks and the requests they make (R139, R140, R144 to R163). -/

namespace Sys2Proof.Machine

open Sys2Proof

/-! ### Issue checks (R146) -/

/-- The check of a range of `n` bytes from `a`: a scratchpad range lies wholly below 256 KiB × SPAD, an address of memory is
valid (R107). An empty range holds no address. TADDR is the first address of the range, also where only its end is not valid: the spec does
not say which (log 67). -/
def rangeFault (x : Ctx) (sp : Bool) (a : Int) (n : Nat) (write : Bool) : Option SlotFault :=
  if n = 0 then none
  else if sp then scratchIf (a < 0 || (x.k.spSize : Int) < a + n) write
  else
    let lo := wrap 64 a
    if vaValid lo && vaValid (wrap 64 (a + n - 1)) then none
    else some { code := .dataFault, addr := BitVec.ofNat 64 lo, detail := if write then 3 else 2 }

/-- The check of `rows` rows in ascending order. Beyond the 64 rows of an RPUSH the stride has 32 bits, and the first and the last row hold
the extremes: the rows span less than the addresses that are not valid. -/
def rowsFault (x : Ctx) (sp : Bool) (a : Int) (stride : Int) (rows n : Nat) (write : Bool) : Option SlotFault :=
  let row (i : Nat) : Option SlotFault := rangeFault x sp (a + i * stride) n write
  if rows ≤ 64 then (List.range rows).findSome? row else (row 0).or (row (rows - 1))

/-- ALIGN for an address of memory or an offset of the scratchpad. -/
def alignFault (sp : Bool) (a : Word64) (m : Nat) (write : Bool) : Option SlotFault :=
  alignIf (a.toNat % m ≠ 0) (if sp then 0 else a) write

/-! ### Requests -/

/-- The request that a slot hands to its engine (R144). -/
def State.issueReq (s : State) (x : Ctx) (e : Bool) (sg : Signal) (op : ReqOp) : State :=
  s.onCore x.c fun k =>
    let r : Req := Req.ofGroup x.s { op := op, sg := sg, pc := x.pc, root := x.root, seed := x.seed, fmtn := x.k.fmtImage.toNat,
                                     ticket := k.tickets, born := s.histNext }
    { k.setEng e { k.eng e with reqs := (k.eng e).reqs ++ [r] } with tickets := k.tickets + 1 }

/-- A C slot with scalar operands; a request to a full queue waits at issue (R144). -/
def copySlot (g : Guard) (e : Bool) (sg : Signal) (srcs : List SReg) (check : Ctx → Option SlotFault) (op : Ctx → ReqOp) : Slot :=
  { pos := cPos e, guard := g, reads := srcs.map fun n => .s n.toNat, eats := srcs, check := check,
    wait := fun x => if 32 ≤ (x.k.eng e).reqs.length then some x.s else none,
    run := fun x s => s.issueReq x e sg (op x) }

/-- CPY and CPYW as rows: count, bytes and strides (R152). -/
structure Shape where
  rows : Nat
  bytes : Nat
  dstr : Int := 0
  sstr : Int := 0

/-- The shape of a CPYW's register pair. -/
def shapeOf (a b : Word64) : Shape :=
  { rows := field a.toNat 32 32, bytes := field a.toNat 0 32, dstr := signedOf 32 (field b.toNat 32 32), sstr := signedOf 32 b.toNat }

/-- The checks of a linear copy. -/
def copyCheck (m : BitVec 2) (d a : SReg) (sh : Ctx → Shape) (x : Ctx) : Option SlotFault :=
  let h := sh x
  (rowsFault x (2 ≤ m.toNat) (x.sr a).toNat h.sstr h.rows h.bytes false).or
    (rowsFault x (m.toNat % 2 = 1) (x.sr d).toNat h.dstr h.rows h.bytes true)

/-- CPY (R152). -/
def slotCpy (g : Guard) (e : Bool) (sg : Signal) (m : BitVec 2) (d a b : SReg) : Slot :=
  let sh (x : Ctx) : Shape := { rows := 1, bytes := (x.sr b).toNat }
  copySlot g e sg [d, a, b] (fun x => (dataIf (2 ^ 32 ≤ (x.sr b).toNat)).or (copyCheck m d a sh x))
    fun x => .copy 1 m.toNat 1 (x.sr b).toNat (x.sr d).toNat (x.sr a).toNat 0 0

/-- CPYW (R152). -/
def slotCpyw (g : Guard) (e : Bool) (sg : Signal) (m : BitVec 2) (d a b : SReg) : Slot :=
  let sh (x : Ctx) : Shape := shapeOf (x.sr b) (x.sr (b + 1))
  copySlot g e sg [d, a, b, b + 1]
    (fun x => (dataIf (2 ^ 24 < (sh x).rows || 2 ^ 24 < (sh x).bytes)).or (copyCheck m d a sh x))
    fun x => .copy 2 m.toNat (sh x).rows (sh x).bytes (x.sr d).toNat (x.sr a).toNat (sh x).dstr (sh x).sstr

/-- A descriptor register read by a C or W slot at issue: its checks (R115), and PENDING is refused (R146). -/
def descFault (x : Ctx) (d : DReg) : Option SlotFault :=
  let v := x.dr d
  (dataIf (x.s.descBad v (x.k.regs.dpend.getLsbD d.toNat) || descState v = 1)).or
    (alignIf (descMisaligned x.k.fmtn v) (BitVec.ofInt 64 (descBase v)) false)

/-- CPYT (R153). -/
def slotCpyt (g : Guard) (e : Bool) (sg : Signal) (r : RM) (d a : DReg) (b : SReg) : Slot :=
  { copySlot g e sg [b]
      (fun x =>
        let dv := x.dr d
        let av := x.dr a
        let rec_ := (x.sr b).toNat
        ((descFault x d).or (descFault x a)).or
          ((dataIf (descRank dv ≠ descRank av || (rec_ = 0 && !regionIn (wholeRegion (x.s.extents av)) (x.s.extents dv)))).or
            ((alignFault false (x.sr b) 8 false).or (if rec_ = 0 then none else rangeFault x false rec_ 48 false))))
      (fun x => .tensor (x.dr d) (x.dr a) r (x.sr b).toNat) with
    reads := [.d d.toNat, .d a.toNat, .s b.toNat] ++ seedReads r, eats := b :: seedEats (seedReads r) }

/-- The tag check of the block instructions (R140). -/
def tagFault (x : Ctx) (d : SReg) : Option SlotFault := dataIf (15 < (x.sr d).toNat)

/-- LDBLK (R139, R140). -/
def slotLdblk (g : Guard) (e : Bool) (sg : Signal) (ntc : Bool) (d a b : SReg) : Slot :=
  copySlot g e sg [d, a, b]
    (fun x => (alignFault false (x.sr a) 128 false).or ((tagFault x d).or
      ((dataIf ((x.sr b).toNat = 0 || 64 < (x.sr b).toNat)).or (rangeFault x false (x.sr a).toNat (128 * (x.sr b).toNat) false))))
    fun x => .ldblk (x.sr d).toNat (x.sr a).toNat (x.sr b).toNat ntc
/-- WBBLK (R140). -/
def slotWbblk (g : Guard) (e : Bool) (sg : Signal) (d : SReg) : Slot :=
  copySlot g e sg [d] (fun x => tagFault x d) fun x => .wbblk (x.sr d).toNat
/-- EVBLK (R140). -/
def slotEvblk (g : Guard) (e : Bool) (sg : Signal) (d : SReg) : Slot :=
  copySlot g e sg [d] (fun x => tagFault x d) fun x => .evblk (x.sr d).toNat

/-- RPUSH (R154): the tile's slot is reserved at issue. -/
def slotRpush (g : Guard) (e : Bool) (sg : Signal) (sp : Bool) (d : GReg) (a b : SReg) : Slot :=
  let m := if sp then 8 else 128
  { copySlot g e sg [a, b]
      (fun x => ((alignFault sp (x.sr a) m false).or (alignIf ((x.sr b).toNat % m ≠ 0) 0 false)).or
        ((dataIf (x.k.ringBad (x.gr d))).or (rowsFault x sp (x.sr a).toNat (x.sr b).toInt 64 128 false)))
      (fun _ => .evblk 0) with
    reads := [.g d.toNat, .s a.toNat, .s b.toNat],
    claims := fun x => [(d.toNat, ringCap (x.gr d) - ringResv (x.gr d), .queueOver)],
    run := fun x s =>
      let r := (s.core x.c).g d
      let slot := (ringHead r + ringResv r) % ringCap r
      let s := s.onCore x.c fun k => k.setG d (ringState r (ringFin r) (ringResv r + 1) (ringAvail r) (ringHead r))
      s.issueReq x e sg (.rpush d.toNat slot (x.sr a).toNat (x.sr b).toInt sp (ringFmt r)) }

/-- A parameter pair of R155: index list, IW, FMT, ESZ, COUNT, and whether a field breaks its rules. -/
structure GathArgs where
  idx : Nat
  iw : Nat
  fmt : Nat
  esz : Nat
  count : Nat
  bad : Bool

/-- The element formats of SCATA and RED (R155). -/
def combineFmtOk (f : Nat) : Bool := f ≤ 2 || f = 4 || f = 5 || f = 8 || f = 9

/-- The pair at s[b], s[b+1]. -/
def gathArgs (x : Ctx) (scata : Bool) (b : SReg) : GathArgs :=
  let p := (x.sr (b + 1)).toNat
  let iw := field p 62 2
  let f := field p 56 6
  let z := field p 52 4
  let n := field p 0 32
  { idx := (x.sr b).toNat, iw := iw, fmt := f, esz := z, count := n,
    bad := iw = 3 || field p 32 20 ≠ 0 || 2 ^ 24 < n || (if scata then !combineFmtOk f || z ≠ 0 else f ≠ 0 || 7 < z) }

/-- The checks of GATH, SCAT and SCATA: `lin` is the linear array, in the scratchpad or in memory, and `tab` the table's base. -/
def gathCheck (x : Ctx) (p : GathArgs) (e : Nat) (sp gath : Bool) (lin tab : SReg) : Option SlotFault :=
  (dataIf p.bad).or
    (((alignFault false (BitVec.ofNat 64 p.idx) (indexBytes p.iw) false).or
      ((alignFault sp (x.sr lin) e gath).or (alignFault false (x.sr tab) e (!gath)))).or
      ((rangeFault x false p.idx (p.count * indexBytes p.iw) false).or
        ((rangeFault x sp (x.sr lin).toNat (p.count * e) gath).or (rangeFault x false (x.sr tab).toNat 1 (!gath)))))

/-- GATH (R155). -/
def slotGath (g : Guard) (e : Bool) (sg : Signal) (sp : Bool) (d a b : SReg) : Slot :=
  copySlot g e sg [d, a, b, b + 1] (fun x => let p := gathArgs x false b
                                             gathCheck x p (2 ^ p.esz) sp true d a)
    fun x => let p := gathArgs x false b
             .gath sp (x.sr d).toNat (x.sr a).toNat p.idx p.iw p.esz p.count
/-- SCAT (R155). -/
def slotScat (g : Guard) (e : Bool) (sg : Signal) (sp : Bool) (d a b : SReg) : Slot :=
  copySlot g e sg [d, a, b, b + 1] (fun x => let p := gathArgs x false b
                                             gathCheck x p (2 ^ p.esz) sp false a d)
    fun x => let p := gathArgs x false b
             .scat sp (x.sr d).toNat (x.sr a).toNat p.idx p.iw p.esz p.count
/-- SCATA (R155, R156). Each combination is one atomic step, at whatever scope. -/
def slotScata (g : Guard) (e : Bool) (sg : Signal) (_sc : Scope) (op : BitVec 2) (sp : Bool) (d a b : SReg) : Slot :=
  copySlot g e sg [d, a, b, b + 1] (fun x => let p := gathArgs x true b
                                             gathCheck x p (codeBytes p.fmt) sp false a d)
    fun x => let p := gathArgs x true b
             .scata sp op.toNat (x.sr d).toNat (x.sr a).toNat p.idx p.iw p.fmt p.count
/-- RED (R157). -/
def slotRed (g : Guard) (e : Bool) (sg : Signal) (_sc : Scope) (op : BitVec 2) (sp : Bool) (d a b : SReg) : Slot :=
  let f (x : Ctx) : Nat := field (x.sr b).toNat 58 6
  let n (x : Ctx) : Nat := field (x.sr b).toNat 0 32
  copySlot g e sg [d, a, b]
    (fun x => (dataIf (field (x.sr b).toNat 32 26 ≠ 0 || !combineFmtOk (f x) || 2 ^ 24 < n x)).or
      (((alignFault false (x.sr d) (codeBytes (f x)) true).or (alignFault sp (x.sr a) (codeBytes (f x)) false)).or
        ((rangeFault x sp (x.sr a).toNat (n x * codeBytes (f x)) false).or
          (rangeFault x false (x.sr d).toNat (n x * codeBytes (f x)) true))))
    fun x => .red sp op.toNat (x.sr d).toNat (x.sr a).toNat (f x) (n x)

/-! ### Collectives and transfers (R159 to R161) -/

/-- The fields of a COLL's parameter scalar (R160). -/
structure CollArgs where
  group : Nat
  fmt : Nat
  op : Nat
  root : Nat
  tag : Nat
  count : Nat

def collArgs (p : Word64) : CollArgs :=
  let v := p.toNat
  { group := field v 60 4, fmt := field v 54 6, op := field v 52 2, root := field v 46 6, tag := field v 32 14, count := field v 0 32 }

/-- FMT of a COLL: FV, IA or NA where it reduces, else any code of 8 bits or more, that of FMTN included (R160). -/
def collFmtOk (n : Fmtn) (kind f : Nat) : Bool :=
  match fmtOfCode f with
  | none => false
  | some x => if kind = 1 || kind = 2 then fmtIsIeee x || isIA x || isNA x else 8 ≤ fmtWidth n x

/-- The checks of a COLL. -/
def collCheck (x : Ctx) (kind : Nat) (d a b : SReg) : Option SlotFault :=
  let p := collArgs (x.sr b)
  let grp := x.s.groupOf p.group
  let n := grp.2.1
  let w := codeBytes p.fmt
  (dataIf (!grp.1 || !collFmtOk x.k.fmtn kind p.fmt || 2 ^ 24 < p.count
      || (if kind = 1 || kind = 2 then p.op = 3 else p.op ≠ 0) || (if kind = 3 then n ≤ p.root else p.root ≠ 0))).or
    ((rangeFault x false (x.sr a).toNat (if kind = 1 || kind = 4 then n * p.count * w else p.count * w) false).or
      (rangeFault x false (x.sr d).toNat (collSize kind n (p.count * w)) true))

/-- A COLL of a kind (R160). -/
def collSlot (kind : Nat) (g : Guard) (e : Bool) (sg : Signal) (d a b : SReg) : Slot :=
  { copySlot g e sg [d, a, b] (fun x => collCheck x kind d a b)
      (fun x => let p := collArgs (x.sr b)
                .coll kind p.group p.fmt p.op p.root p.tag p.count (x.sr d).toNat (x.sr a).toNat) with
    claims := fun x => let p := collArgs (x.sr b)
                       [(16 + 16 * p.tag + p.group, if x.s.collBusy p.group p.tag then 0 else 1, .dataFault)] }

/-- The slot of COLL_AG (R160). -/
def slotCollAg (g : Guard) (e : Bool) (sg : Signal) (d a b : SReg) : Slot := collSlot 0 g e sg d a b
/-- The slot of COLL_RS (R160). -/
def slotCollRs (g : Guard) (e : Bool) (sg : Signal) (d a b : SReg) : Slot := collSlot 1 g e sg d a b
/-- The slot of COLL_AR (R160). -/
def slotCollAr (g : Guard) (e : Bool) (sg : Signal) (d a b : SReg) : Slot := collSlot 2 g e sg d a b
/-- The slot of COLL_BC (R160). -/
def slotCollBc (g : Guard) (e : Bool) (sg : Signal) (d a b : SReg) : Slot := collSlot 3 g e sg d a b
/-- The slot of COLL_A2A (R160). -/
def slotCollA2a (g : Guard) (e : Bool) (sg : Signal) (d a b : SReg) : Slot := collSlot 4 g e sg d a b

/-- The checks of SEND and RECV (R161): the parameter scalar, the length, and the buffer. -/
def transferCheck (x : Ctx) (sp write : Bool) (d a b : SReg) : Option SlotFault :=
  let v := (x.sr d).toNat
  let grp := x.s.groupOf (field v 60 4)
  let peer := field v 54 6
  (dataIf (field v 0 40 ≠ 0 || !grp.1 || peer = grp.2.2 || grp.2.1 ≤ peer || 2 ^ 32 ≤ (x.sr b).toNat)).or
    (rangeFault x sp (x.sr a).toNat (x.sr b).toNat write)

/-- SEND (R161). -/
def slotSend (g : Guard) (e : Bool) (sg : Signal) (sp : Bool) (d a b : SReg) : Slot :=
  copySlot g e sg [d, a, b] (fun x => transferCheck x sp false d a b)
    fun x => let v := (x.sr d).toNat
             .send sp (field v 60 4) (field v 54 6) (field v 40 14) (x.sr a).toNat (x.sr b).toNat
/-- RECV (R161). -/
def slotRecv (g : Guard) (e : Bool) (sg : Signal) (sp : Bool) (d a b : SReg) : Slot :=
  copySlot g e sg [d, a, b] (fun x => transferCheck x sp true d a b)
    fun x => let v := (x.sr d).toNat
             .recv sp (field v 60 4) (field v 54 6) (field v 40 14) (x.sr a).toNat (x.sr b).toNat

/-! ### SLOTQ (R162, R163) -/

/-- The window index: windows of 32 cycles counted from the cycle at which FRAME was 0 (R162). -/
def State.window (s : State) : Nat := s.clk / 32 % 64

/-- SLOTQ makes no request and never signals. -/
def slotSlotq (g : Guard) (e : Bool) (d a : SReg) : Slot :=
  { pos := cPos e, guard := g, reads := [.s a.toNat], writes := [.s d.toNat], eats := [a],
    check := fun x => dataIf (64 < (x.sr a).toNat),
    run := fun x s =>
      let n := (x.sr a).toNat
      let v : Word64 := if n = 64 then BitVec.ofNat 64 x.s.window else x.s.ctlGet (Ctl.SLOTTAB (x.c / 40) n)
      s.onCore x.c fun k => k.resultS x.s.clk 16 d v x.bad 0 (x.free 192) }

/-! ### The meaning of each instruction of this file -/
def execCpy (g : Guard) (e : Bool) (sg : Signal) (m : BitVec 2) (d : SReg) (a : SReg) (b : SReg) (s : State) : Host.Outcome State Fault Refusal :=
  issueOne (formFault (.cpy g e sg m d a b)) (slotCpy g e sg m d a b) s
/-- CPYW (R152). -/
def execCpyw (g : Guard) (e : Bool) (sg : Signal) (m : BitVec 2) (d : SReg) (a : SReg) (b : SReg) (s : State) : Host.Outcome State Fault Refusal :=
  issueOne (formFault (.cpyw g e sg m d a b)) (slotCpyw g e sg m d a b) s
/-- CPYT (R153). -/
def execCpyt (g : Guard) (e : Bool) (sg : Signal) (r : RM) (d : DReg) (a : DReg) (b : SReg) (s : State) : Host.Outcome State Fault Refusal :=
  issueOne (formFault (.cpyt g e sg r d a b)) (slotCpyt g e sg r d a b) s
/-- LDBLK (R140). -/
def execLdblk (g : Guard) (e : Bool) (sg : Signal) (ntc : Bool) (d : SReg) (a : SReg) (b : SReg) (s : State) : Host.Outcome State Fault Refusal :=
  issueOne (formFault (.ldblk g e sg ntc d a b)) (slotLdblk g e sg ntc d a b) s
/-- WBBLK (R140). -/
def execWbblk (g : Guard) (e : Bool) (sg : Signal) (d : SReg) (s : State) : Host.Outcome State Fault Refusal :=
  issueOne (formFault (.wbblk g e sg d)) (slotWbblk g e sg d) s
/-- EVBLK (R140). -/
def execEvblk (g : Guard) (e : Bool) (sg : Signal) (d : SReg) (s : State) : Host.Outcome State Fault Refusal :=
  issueOne (formFault (.evblk g e sg d)) (slotEvblk g e sg d) s
/-- RPUSH (R154). -/
def execRpush (g : Guard) (e : Bool) (sg : Signal) (sp : Bool) (d : GReg) (a : SReg) (b : SReg) (s : State) : Host.Outcome State Fault Refusal :=
  issueOne (formFault (.rpush g e sg sp d a b)) (slotRpush g e sg sp d a b) s
/-- GATH (R155). -/
def execGath (g : Guard) (e : Bool) (sg : Signal) (sp : Bool) (d : SReg) (a : SReg) (b : SReg) (s : State) : Host.Outcome State Fault Refusal :=
  issueOne (formFault (.gath g e sg sp d a b)) (slotGath g e sg sp d a b) s
/-- SCAT (R155). -/
def execScat (g : Guard) (e : Bool) (sg : Signal) (sp : Bool) (d : SReg) (a : SReg) (b : SReg) (s : State) : Host.Outcome State Fault Refusal :=
  issueOne (formFault (.scat g e sg sp d a b)) (slotScat g e sg sp d a b) s
/-- SCATA (R155). -/
def execScata (g : Guard) (e : Bool) (sg : Signal) (sc : Scope) (op : BitVec 2) (sp : Bool) (d : SReg) (a : SReg) (b : SReg) (s : State) : Host.Outcome State Fault Refusal :=
  issueOne (formFault (.scata g e sg sc op sp d a b)) (slotScata g e sg sc op sp d a b) s
/-- RED (R157). -/
def execRed (g : Guard) (e : Bool) (sg : Signal) (sc : Scope) (op : BitVec 2) (sp : Bool) (d : SReg) (a : SReg) (b : SReg) (s : State) : Host.Outcome State Fault Refusal :=
  issueOne (formFault (.red g e sg sc op sp d a b)) (slotRed g e sg sc op sp d a b) s
/-- COLL_AG (R160). -/
def execCollAg (g : Guard) (e : Bool) (sg : Signal) (d : SReg) (a : SReg) (b : SReg) (s : State) : Host.Outcome State Fault Refusal :=
  issueOne (formFault (.collAg g e sg d a b)) (slotCollAg g e sg d a b) s
/-- COLL_RS (R160). -/
def execCollRs (g : Guard) (e : Bool) (sg : Signal) (d : SReg) (a : SReg) (b : SReg) (s : State) : Host.Outcome State Fault Refusal :=
  issueOne (formFault (.collRs g e sg d a b)) (slotCollRs g e sg d a b) s
/-- COLL_AR (R160). -/
def execCollAr (g : Guard) (e : Bool) (sg : Signal) (d : SReg) (a : SReg) (b : SReg) (s : State) : Host.Outcome State Fault Refusal :=
  issueOne (formFault (.collAr g e sg d a b)) (slotCollAr g e sg d a b) s
/-- COLL_BC (R160). -/
def execCollBc (g : Guard) (e : Bool) (sg : Signal) (d : SReg) (a : SReg) (b : SReg) (s : State) : Host.Outcome State Fault Refusal :=
  issueOne (formFault (.collBc g e sg d a b)) (slotCollBc g e sg d a b) s
/-- COLL_A2A (R160). -/
def execCollA2a (g : Guard) (e : Bool) (sg : Signal) (d : SReg) (a : SReg) (b : SReg) (s : State) : Host.Outcome State Fault Refusal :=
  issueOne (formFault (.collA2a g e sg d a b)) (slotCollA2a g e sg d a b) s
/-- SEND (R161). -/
def execSend (g : Guard) (e : Bool) (sg : Signal) (sp : Bool) (d : SReg) (a : SReg) (b : SReg) (s : State) : Host.Outcome State Fault Refusal :=
  issueOne (formFault (.send g e sg sp d a b)) (slotSend g e sg sp d a b) s
/-- RECV (R161). -/
def execRecv (g : Guard) (e : Bool) (sg : Signal) (sp : Bool) (d : SReg) (a : SReg) (b : SReg) (s : State) : Host.Outcome State Fault Refusal :=
  issueOne (formFault (.recv g e sg sp d a b)) (slotRecv g e sg sp d a b) s
/-- SLOTQ (R163). -/
def execSlotq (g : Guard) (e : Bool) (d : SReg) (a : SReg) (s : State) : Host.Outcome State Fault Refusal :=
  issueOne (formFault (.slotq g e d a)) (slotSlotq g e d a) s

end Sys2Proof.Machine
end

