-- ==== Sys2Proof/Machine/Scheduler.lean ====
section
/-! DEFINITION. Launch, task graphs, timetables, tenants, dispatch and the hardware queues (R322 to R338, R435). -/

namespace Sys2Proof.Machine

open Sys2Proof

/-! ### Node records (R324) -/

/-- PRI of a record. -/
def nodePri (r : BitVec 2048) : Nat := nodeField r 140 1 % 8
/-- KIND of a record: timetabled. -/
def nodeTimed (r : BitVec 2048) : Bool := bitAt (nodeField r 140 1) 7

/-- A record obeys R324: reserved bytes, PRI, QCNT by R170, SPAD by R122, and DEADLINE. -/
def nodeOk (r : BitVec 2048) : Bool :=
  nodeField r 143 1 = 0 && nodeField r 162 6 = 0 && nodeField r 176 80 = 0 && field (nodeField r 140 1) 3 4 = 0
    && nodeField r 141 1 % 4 = 0 && 4 ≤ nodeField r 141 1 && nodeField r 141 1 ≤ 64 && nodeField r 142 1 ≤ 15
    && (!nodeTimed r || nodeField r 144 8 ≤ nodeField r 152 8)

/-! ### Tenants and cores (R326, R328) -/

/-- The tenant frame of tenant `n` (R328). -/
def State.tframe (s : State) (n : Nat) : Nat := Map.get 0 s.tenantFrame n

/-- The tenant is VALID (R327). -/
def State.tenantValid (s : State) (n : Nat) : Bool := bitAt (s.ctlGet (Ctl.TENCFG n)).toNat 63
/-- AGE of a tenant (R327). -/
def State.tenantAge (s : State) (n : Nat) : Nat := field (s.ctlGet (Ctl.TENCFG n)).toNat 48 8

/-- The active cores of a tenant, physical, in ascending logical number (R326); 255 is none. -/
def State.activeCores (s : State) (n : Nat) : List Nat :=
  if n = 255 then [] else ((List.range 320).filterMap fun l =>
    let e := (s.ctlGet (Ctl.LCMAP l)).toNat
    if bitAt e 63 && s.tenantOf (field e 0 9) = n && s.logicalOf (field e 0 9) = some l then some (field e 0 9) else none)

/-! ### Graphs -/

def State.graph (s : State) (g : Nat) : Option Graph := Map.find s.graphs g
def State.putGraph (s : State) (g : Nat) (x : Graph) : State := { s with graphs := Map.put s.graphs g x }
/-- The state with node `i` of graph `g` replaced. -/
def State.putNode (s : State) (g i : Nat) (n : TNode) : State :=
  match s.graph g with
  | some x => s.putGraph g { x with nodes := Map.put x.nodes i n }
  | none => s

/-- The home of a pool node among `a` active cores (R332). -/
def homeIndex (r : BitVec 2048) (a : Nat) : Nat := field (nodeField r 104 8) 21 36 % a

/-- Makes node `i` of graph `g` ready (R325, R332). -/
def State.makeReady (s : State) (g i : Nat) : State :=
  match s.graph g with
  | none => s
  | some x => match Map.find x.nodes i with
    | none => s
    | some n =>
      let act := s.activeCores x.tenant
      let home := if nodeTimed n.record then none else if act = [] then none else act[homeIndex n.record act.length]?
      s.putNode g i { n with state := 1, since := s.tframe x.tenant, home := home }

/-- Homes the ready pool nodes that waited for a tenant without active cores (R326). -/
def State.homeWaiting (s : State) : State :=
  s.graphs.foldl (fun s e =>
    let act := s.activeCores e.2.tenant
    if act = [] then s
    else e.2.nodes.foldl (fun s m =>
      if m.2.state = 1 && !nodeTimed m.2.record && m.2.home.isNone then
        s.putNode e.1 m.1 { m.2 with home := act[homeIndex m.2.record act.length]? }
      else s) s) s

/-- Whole tenant frames that a node has waited (R332). -/
def State.waited (s : State) (tenant : Nat) (n : TNode) : Nat := s.tframe tenant - n.since
/-- The effective priority of a waiting node (R332). -/
def State.effPrio (s : State) (tenant : Nat) (n : TNode) : Nat :=
  min 7 (min (nodePri n.record) n.cap + s.waited tenant n / 64)

/-- PRI of a node, a spawned one's reduced by its spawner (R336). -/
def ownPri (n : TNode) : Nat := min (nodePri n.record) n.cap

/-- Sets a sticky bit of a port's LNSTAT (R322, R323). -/
def State.lnFlag (s : State) (port : Bool) (b : Nat) : State :=
  let o := Ctl.LNSTAT (bit port)
  s.ctlPut o (s.ctlGet o ||| BitVec.ofNat 64 (2 ^ b))

/-- A graph ends (R323, R325): DONE or FAILED counts, and CP0's completion MSI is sent. -/
def State.endGraph (s : State) (g : Nat) (x : Graph) : State :=
  let o := Ctl.LNSTAT (bit x.port)
  let v := (s.ctlGet o).toNat
  let s := { s with graphs := Map.erase s.graphs g }
  if x.failed then s.ctlPut o (BitVec.ofNat 64 (setField v 32 30 (field v 32 30 + 1)))
  else
    let s := s.ctlPut o (BitVec.ofNat 64 (setField v 0 32 (field v 0 32 + 1)))
    if x.port then s else s.msi 3 0

/-- Ends the graph if nothing of it is left to run (R325). -/
def State.settleGraph (s : State) (g : Nat) : State :=
  match s.graph g with
  | none => s
  | some x =>
    if x.nodes.any fun n => n.2.state = 2 then s
    else if x.failed || x.nodes.all fun n => n.2.state = 3 then s.endGraph g x
    else s

/-! ### LAUNCH, RESUME, DISCARD (R323) -/

/-- A node array's records, with nothing checked. -/
def State.nodeAt (s : State) (base i : Nat) : BitVec 2048 := BitVec.ofNat 2048 (ofBytes (s.bytes (base + 256 * i) 256))

/-- The successors of a record (R324). -/
def State.successors (s : State) (r : BitVec 2048) : List Nat :=
  (List.range (nodeField r 128 4)).map fun j => s.natAt (nodeField r 120 8 + 4 * j) 4

/-- A range lies in local HBM and holds no uncorrectable error. -/
def State.readable (s : State) (a n : Nat) : Bool := a + n ≤ hbmSize && !s.poisoned a n && !s.lostIn a n

/-- A launch that R324 accepts. -/
def State.launchOk (s : State) (tenant base count : Nat) : Bool :=
  s.tenantValid tenant && 0 < count && base % 256 = 0 && s.readable base (256 * count)
    && (List.range count).all fun i =>
      let r := s.nodeAt base i
      let n := nodeField r 128 4
      nodeOk r && n ≤ 65535
        && (n = 0 || (nodeField r 120 8 % 4 = 0 && s.readable (nodeField r 120 8) (4 * n) && (s.successors r).all fun j => decide (j < count)))

/-- LAUNCH through port `port` of the LNCTL image `v` (R323, R324). -/
def State.launch (s : State) (port : Bool) (v : Word64) : State :=
  let tenant := field v.toNat 48 8
  let count := field v.toNat 0 24
  let base := (s.ctlGet (Ctl.LNBASE (bit port))).toNat
  if !s.launchOk tenant base count then s.lnFlag port 62
  else
    let nodes : Map TNode := (List.range count).map fun i =>
      let r := s.nodeAt base i
      (i, { record := r, counter := nodeField r 132 4, cap := 7 })
    let g := s.graphNext
    let s := { (s.putGraph g { port := port, tenant := tenant, base := base, count := count, nodes := nodes }) with graphNext := g + 1 }
    (List.range count).foldl (fun s i => if nodeField (s.nodeAt base i) 132 4 = 0 then s.makeReady g i else s) s

/-- Marks a graph failed: nothing of it that has not started ever starts (R325). -/
def State.failGraph (s : State) (g : Nat) : State :=
  match s.graph g with
  | some x => s.putGraph g { x with failed := true }
  | none => s

/-- The node of a task. -/
def State.nodeOf (s : State) (t : Task) : Option TNode := (s.graph t.graph).bind fun x => Map.find x.nodes t.node

/-- The hold that a task keeps its tenant's frame in, if any (R330). -/
def State.holdOf (s : State) (t : Task) : Option Hold := s.holds.find? fun h => h.tenant = t.tenant && h.graph = t.graph && h.node = t.node

/-- The hold of a task that ends on core `c` ends, with the slip record of R330 and R331. -/
def State.endHold (s : State) (c : Nat) (t : Task) : State :=
  match s.holdOf t with
  | none => s
  | some h =>
    let id := (s.nodeOf t).map fun n => nodeField n.record 136 4
    let bs := toBytes 8 (s.tframe t.tenant) ++ toBytes 4 (id.getD 0) ++ toBytes 2 ((s.logicalOf c).getD 0xFFFF) ++ toBytes 1 t.tenant
      ++ toBytes 1 0 ++ toBytes 8 (s.clk - h.began) ++ toBytes 8 s.frame
    ({ s with holds := s.holds.filter fun x => x != h }).ringRecord Ctl.SLIPBASE Ctl.SLIPPOS bs

/-- The signal of a spawned node that completes goes to its spawner (R336), for whom the writes `out` of its task count with that signal as
a request's do (R300, item 2). -/
def State.spawnSignal (s : State) (n : TNode) (out : List OrdWrite) : State :=
  match n.signal with
  | some (h, w) =>
    let c := if h < 512 then h else 0
    let header := if h < 512 then 0 else h
    (s.signal c header (BitVec.ofNat 5 w)).onOrder c header fun o => { o with returned := out.map (fun x => (w, x)) ++ o.returned }
  | none => s

/-- What an ended task leaves for the spawned nodes that owed it a signal: the signal is discarded (R336). `owner` is the core or the image
that held the task. -/
def State.dropSignals (s : State) (owner : Nat ⊕ Nat) : State :=
  let of (h : Nat) : Nat ⊕ Nat := if h < 512 then .inl h else s.holder forwardFuel h
  { s with graphs := s.graphs.map fun (e : Nat × Graph) => (e.1, { e.2 with nodes := e.2.nodes.map fun (m : Nat × TNode) =>
      (m.1, { m.2 with signal := m.2.signal.filter fun (p : Nat × Nat) => of p.1 ≠ owner }) }) }

/-- What requests and scans still owe to an ended task is discarded. -/
def State.disown (s : State) (owner : Nat ⊕ Nat) : State :=
  let of (c h : Nat) : Nat := if h = goneHeader then h else if s.issuer c h = owner then goneHeader else h
  let gone (c : Nat) (e : Engine) : Engine := { e with reqs := e.reqs.map fun r => { r with header := of c r.header } }
  { s with cores := s.cores.map fun e => (e.1, { e.2 with e0 := gone e.1 e.2.e0, e1 := gone e.1 e.2.e1 }),
           scans := s.scans.map fun x => { x with header := of x.core x.header } }

/-- The task of core `c` is gone: the core holds none. -/
def State.releaseCore (s : State) (c : Nat) : State :=
  let gone (e : Engine) : Engine := { e with reqs := e.reqs.map fun r => if r.header = 0 then { r with header := goneHeader } else r }
  s.onCore c fun k =>
    let k : Core := { k with e0 := gone k.e0, e1 := gone k.e1 }
    { k.shell with level := 0, entering := false, frozen := false, stall := 0, savedTask := none, windows := [] }

/-- A task completes (R325): its node is complete, and its successors' counters fall; its writes are ordered before every access of a task
that this releases (R319). -/
def State.completeTask (s : State) (c : Nat) (t : Task) : State :=
  let out := s.taskWrites c
  let s := s.endHold c t
  match s.graph t.graph with
  | none => s
  | some x => match Map.find x.nodes t.node with
    | none => s
    | some n =>
      let s := s.spawnSignal n out
      let s := (s.putNode t.graph t.node { n with state := 3 }).dropSignals (.inl c)
      let s := if t.node < x.count then
          (s.successors n.record).foldl (fun s j =>
            match (s.graph t.graph).bind fun y => Map.find y.nodes j with
            | some m =>
              let s := s.putNode t.graph j { m with counter := m.counter - 1, after := addOrd m.after out }
              if m.counter = 1 && m.state = 0 && !x.failed then s.makeReady t.graph j else s
            | none => s) s
        else s
      s.settleGraph t.graph

/-- A task that core `c`, or the image `owner`, held fails (R325): nothing that is owed to it reaches it any more. -/
def State.failTask (s : State) (c : Nat) (owner : Nat ⊕ Nat) (t : Task) : State :=
  let s := (((s.endHold c t).failGraph t.graph).dropSignals owner).disown owner
  match s.nodeOf t with
  | some n => (s.putNode t.graph t.node { n with state := 3 }).settleGraph t.graph
  | none => s

/-- The task of core `c` fails, and the core holds none. -/
def State.failCore (s : State) (c : Nat) (t : Task) : State :=
  let held := (s.core c).savedTask
  let s := (s.releaseCore c).failTask c (.inl c) t
  match held with
  | some x => (s.dropSignals (.inr x.image)).disown (.inr x.image)
  | none => s

/-! ### Dispatch (R329, R332, R333) -/

/-- A core that may take a task: mapped, active, whole, free (R326, R345, R374); none of the job's from a marker to the arm (R384). -/
def State.dispatchable (s : State) (c : Nat) : Bool :=
  let k := s.core c
  k.task.isNone && k.level = 0 && !k.frozen && k.savedTask.isNone && c ∉ s.quarantine && (s.logicalOf c).isSome && s.tenantOf c ≠ 255
    && !(s.scans.any fun x => x.target = c)
    && !(s.snap.phase = 1 && bitAt (s.ctlGet Ctl.SNAPCFG).toNat 63 && field (s.ctlGet Ctl.SNAPCFG).toNat 48 8 = s.tenantOf c)

/-- The timetabled nodes that R329 lets start on core `c`: graph and index, RELEASE and ID. -/
def State.timedFor (s : State) (c : Nat) : List (Nat × Nat × Nat × Nat) :=
  let tenant := s.tenantOf c
  let act := s.activeCores tenant
  s.graphs.flatMap fun e =>
    if e.2.tenant ≠ tenant || e.2.failed then []
    else e.2.nodes.filterMap fun m =>
      let r := m.2.record
      if m.2.state = 1 && nodeTimed r && act[nodeField r 160 2]? = some c && nodeField r 144 8 ≤ s.tframe tenant then
        some (e.1, m.1, nodeField r 144 8, nodeField r 136 4)
      else none

/-- A pool node may run on core `c` now: homed there, or stealable from another active core of the tenant (R332, R333). -/
def State.poolFits (s : State) (c tenant : Nat) (n : TNode) : Bool :=
  n.state = 1 && !nodeTimed n.record
    && (n.home = some c || (n.home.any (· ∈ s.activeCores tenant) && s.tenantAge tenant ≠ 0 && s.tenantAge tenant ≤ s.waited tenant n))

/-- The candidates of rules 2 to 4 of R333: effective priority, homed, graph distance, index; and what to start. -/
def State.poolFor (s : State) (c : Nat) : List (Nat × Nat × Nat × Nat × Nat) :=
  let tenant := s.tenantOf c
  let last := (s.core c).served
  s.graphs.flatMap fun e =>
    if e.2.tenant ≠ tenant || e.2.failed then []
    else e.2.nodes.filterMap fun m =>
      if s.poolFits c tenant m.2 then
        some (7 - s.effPrio tenant m.2, bit (m.2.home ≠ some c), (if last < e.1 then e.1 - last else e.1 + s.graphNext + 1), m.1, e.1)
      else none

/-- Lexicographic order of candidate tuples. -/
def candLt (x y : Nat × Nat × Nat × Nat × Nat) : Bool :=
  if x.1 ≠ y.1 then decide (x.1 < y.1) else if x.2.1 ≠ y.2.1 then decide (x.2.1 < y.2.1)
  else if x.2.2.1 ≠ y.2.2.1 then decide (x.2.2.1 < y.2.2.1) else decide (x.2.2.2.1 < y.2.2.2.1)

/-- The first of the candidates. -/
def bestOf (l : List (Nat × Nat × Nat × Nat × Nat)) : Option (Nat × Nat × Nat × Nat × Nat) :=
  match l with
  | [] => none
  | x :: xs => some (xs.foldl (fun m y => if candLt y m then y else m) x)

/-- Starts node `i` of graph `g` on core `c`; what was ordered before its accesses holds for all of them (R319, R336). -/
def State.startNode (s : State) (c g i : Nat) : State :=
  match (s.graph g).bind fun x => (Map.find x.nodes i).map fun n => (x, n) with
  | none => s
  | some (x, n) =>
    let t : Task := { tenant := x.tenant, graph := g, node := i, prio := s.effPrio x.tenant n, tileSrc := BitVec.ofNat 64 (nodeField n.record 168 8),
                      deadline := if nodeTimed n.record then some (nodeField n.record 152 8) else none }
    let s := (s.putNode g i { n with state := 2 }).enterTask c n.record t
    let marks : List FenceMark := if n.after = [] then [] else [{ lo := 0, hi := 2 ^ 52, time := 0, ns := n.after }]
    s.onCore c fun k => { k with served := g, ord := { k.ord with known := n.after, fences := marks } }

/-- The granules of a held task's image, by the SPAD of the image; none where one does not translate. -/
def State.savedPages (s : State) (c : Nat) (x : SavedTask) : Option (List Nat) :=
  (s.imagePages c x.root x.va.toNat 0x66000 .write).toOption.bind fun p =>
    (s.imagePages c x.root x.va.toNat (imageSize (s.imageWord p x.va.toNat 0x400 % 16)) .write).toOption

/-- Restores a task that the dispatcher holds, or that has halted there, onto core `c` (R435); a restore that R354 refuses fails the task. -/
def State.startSaved (s : State) (c : Nat) (x : SavedTask) : State :=
  let s := { s with saved := s.saved.filter fun y => y != x }
  let fail : State := (s.releaseCore c).failTask c (.inr x.image) x.task
  (s.savedPages c x).elim fail fun pages =>
    if s.imageOk pages x.va.toNat then
      let s := s.restoreContext c pages x.va.toNat x.task
      s.onCore c fun k => { k with level := 0, entering := false, stall := 0, windows := [], served := x.task.graph }
    else fail

/-- The suspended task that a RESUME or DISCARD naming core `c` means: the first of those saved there (R323, R435, log 68). -/
def State.suspended (s : State) (c : Nat) : Option SavedTask := s.saved.find? fun x => x.core = c && !x.ready

/-- The task of core `c`, halted (R319). -/
def Core.haltedTask (k : Core) : Option Task := k.task.filter (·.halted)

/-- RESUME of core `c` (R323, R435): a halted task goes on at its saved pointer, from its image where it has one; else the suspended task
is ready again there. -/
def State.resumeTask (s : State) (c : Nat) : State :=
  let k := s.core c
  match k.haltedTask with
  | some t => match k.savedTask with
    | some x => s.startSaved c x
    | none => s.setCore c { k with task := some { t with halted := false } }
  | none => match s.suspended c with
    | some x => { s with saved := (s.saved.filter fun y => y != x) ++ [{ x with ready := true }] }
    | none => s

/-- DISCARD of the halted or suspended task of core `c` (R323). -/
def State.discardTask (s : State) (c : Nat) : State :=
  match (s.core c).haltedTask with
  | some t => s.failCore c t
  | none => match s.suspended c with
    | some x => ({ s with saved := s.saved.filter fun y => y != x }).failTask c (.inr x.image) x.task
    | none => s

/-- What the dispatcher gives a core: a node of a graph, or a task that it holds. -/
inductive Pick where
  | node (g i : Nat)
  | saved (x : SavedTask)
deriving DecidableEq, Repr

/-- The tasks that the dispatcher holds ready for core `c` (R435). -/
def State.mine (s : State) (c : Nat) : List SavedTask := s.saved.filter fun x => x.core = c && x.ready && x.task.tenant = s.tenantOf c

/-- RELEASE and ID of a timetabled task. -/
def State.timedKey (s : State) (t : Task) : Nat × Nat := ((s.nodeOf t).map fun n => (nodeField n.record 144 8, nodeField n.record 136 4)).getD (0, 0)

/-- The first candidate of rule 1 of R333: by RELEASE, then ID (R329); a task that was pre-empted counts with the nodes. -/
def State.timedChoice (s : State) (c : Nat) : Option Pick :=
  let before (x y : Nat × Nat × Pick) : Bool := x.1 < y.1 || (x.1 = y.1 && x.2.1 < y.2.1)
  let held := ((s.mine c).filter fun x => x.task.deadline.isSome).map fun x => ((s.timedKey x.task).1, (s.timedKey x.task).2, Pick.saved x)
  let nodes := (bestOf ((s.timedFor c).map fun t => (t.2.2.1, t.2.2.2, t.1, t.2.1, 0))).map fun t => (t.1, t.2.1, Pick.node t.2.2.1 t.2.2.2.1)
  match held ++ nodes.toList with
  | [] => none
  | x :: xs => some (xs.foldl (fun m y => if before y m then y else m) x).2.2

/-- The first candidate of rules 2 to 4 of R333: the highest effective priority, and within it a pre-empted task, of several the one handed
over last, ahead of every node (R332). -/
def State.poolChoice (s : State) (c : Nat) : Option Pick :=
  let held := (s.mine c).filter fun x => x.task.deadline.isNone
  let top := held.foldl (fun (m : Option SavedTask) x => if m.all fun y => y.task.prio ≤ x.task.prio then some x else m) none
  let node := bestOf (s.poolFor c)
  match top, node with
  | some x, some p => if 7 - p.1 ≤ x.task.prio then some (.saved x) else some (.node p.2.2.2.2 p.2.2.2.1)
  | some x, none => some (.saved x)
  | none, some p => some (.node p.2.2.2.2 p.2.2.2.1)
  | none, none => none

/-- What R333 gives core `c`. -/
def State.choice (s : State) (c : Nat) : Option Pick := (s.timedChoice c).or (s.poolChoice c)

/-- The effective priority of what a core is given. -/
def State.pickPrio (s : State) (tenant : Nat) : Pick → Nat
  | .saved x => x.task.prio
  | .node g i => (((s.graph g).bind fun x => Map.find x.nodes i).map fun n => s.effPrio tenant n).getD 0

/-- Another core whose turn in this cycle comes later claims the same node and has the lower logical number (R333). -/
def State.claimedBelow (s : State) (c : Nat) (p : Pick) : Bool :=
  let num (d : Nat) : Nat := (s.logicalOf d).getD 512
  p matches .node .. && s.cores.any fun e => c < e.1 && num e.1 < num c && s.dispatchable e.1 && s.choice e.1 = some p

/-- The dispatcher gives core `c` its next task (R329, R333, R435); a core that may not take one keeps its state. -/
def State.dispatch (s : State) (c : Nat) : State :=
  if !s.dispatchable c then s
  else
    let s := s.homeWaiting
    match s.choice c with
    | none => s
    | some (.saved x) => s.startSaved c x
    | some (.node g i) => if s.claimedBelow c (.node g i) then s else s.startNode c g i

/-- Core `c` has a pre-emption request (R350): a second one before the first is taken merges with it; a plan that runs is
abandoned (R240). -/
def Core.askPreempt (k : Core) : Core :=
  match k.pend.preempt with
  | some _ => k
  | none =>
    let b := if k.berth.demand.isSome then k.berth.abandon else k.berth
    { k with pend := { k.pend with preempt := some 0 }, berth := b }

/-- The dispatcher asks core `c` to be pre-empted: a timetabled node waits for a pool task's core (R329), or a ready pool
node of priority 7 is homed on a core whose task has effective priority 5 or less (R333); a pre-empted task counts as such a node (R435). -/
def State.wantsPreempt (s : State) (c : Nat) : Bool :=
  match (s.core c).task with
  | none => false
  | some t =>
    !t.halted && t.deadline.isNone
      && ((s.timedChoice c).isSome
        || (t.prio ≤ 5 && ((s.graphs.any fun e => !e.2.failed && e.2.nodes.any fun m =>
              m.2.state = 1 && !nodeTimed m.2.record && m.2.home = some c && ownPri m.2 = 7)
            || (s.mine c).any fun x => (s.nodeOf x.task).any fun n => ownPri n = 7)))

/-- Records the dispatcher's pre-emption request for core `c`. -/
def State.preemptCheck (s : State) (c : Nat) : State :=
  if s.graphs.isEmpty then s else if s.wantsPreempt c then s.onCore c Core.askPreempt else s

/-! ### Frames (R14, R328, R330) -/

/-- The tasks that have started and have neither completed nor failed: those of cores, saved there or not, and those that the dispatcher
holds. -/
def State.liveTasks (s : State) : List Task :=
  s.cores.filterMap (fun e => e.2.task.or (e.2.savedTask.map (·.task))) ++ s.saved.map (·.task)

/-- Timetabled tasks of tenant `n` that have started and that the tenant frame is due to pass begin a hold (R330). -/
def State.beginHolds (s : State) (n : Nat) : State :=
  let late := s.liveTasks.filter fun t => t.tenant = n && t.deadline.any (fun d => decide (d ≤ s.tframe n)) && (s.holdOf t).isNone
  { s with holds := s.holds ++ late.map fun t => { tenant := n, graph := t.graph, node := t.node, began := s.clk } }

/-- The tenant has a frame: it is VALID, or has been (R328). -/
def State.hasFrame (s : State) (n : Nat) : Bool := s.tenantValid n || (Map.find s.tenantFrame n).isSome

/-- The tenant frames at a module-frame boundary (R328, R330). -/
def State.tenantFrames (s : State) : State :=
  (List.range 256).foldl (fun s n =>
    if !s.hasFrame n then s
    else
      let s := s.beginHolds n
      if s.holds.any fun h => h.tenant = n then s else { s with tenantFrame := Map.put s.tenantFrame n (s.tframe n + 1) }) s

/-! ### Hardware queues (R337) -/

def State.hwQueue (s : State) (n : Nat) : HwQueue := Map.get {} s.hwq n
def State.hwCfg (s : State) (n : Nat) : Nat := (s.ctlGet (Ctl.HWQCFG n)).toNat
/-- Entries of the extension that queue `n` may use. -/
def State.hwExt (s : State) (n : Nat) : Nat := if bitAt (s.hwCfg n) 54 then 2 ^ field (s.hwCfg n) 49 5 else 0
/-- The queue has no room. -/
def State.hwFull (s : State) (n : Nat) : Bool := let q := s.hwQueue n; 64 ≤ q.die.length && s.hwExt n ≤ q.extCount
def State.putHwq (s : State) (n : Nat) (q : HwQueue) : State := { s with hwq := Map.set {} s.hwq n q }

/-- The physical address of place `i` of queue `n`'s extension. -/
def State.hwExtAt (s : State) (n i : Nat) : Nat := field (s.hwCfg n) 0 40 * 4096 + 8 * (i % s.hwExt n)

/-- Appends a value (R337): on the die while nothing stands in the extension. -/
def State.hwPush (s : State) (n : Nat) (v : Word64) : State :=
  let q := s.hwQueue n
  if q.extCount = 0 && q.die.length < 64 then s.putHwq n { q with die := q.die ++ [v] }
  else
    let s := s.hardWrite (s.hwExtAt n (q.extHead + q.extCount)) (toBytes 8 v.toNat)
    s.putHwq n { q with extCount := q.extCount + 1 }

/-- Removes the oldest value; the oldest of the extension moves onto the die. -/
def State.hwPop (s : State) (n : Nat) : Word64 × State :=
  let q := s.hwQueue n
  let v := q.die.headD 0
  let rest := q.die.drop 1
  if q.extCount = 0 then (v, s.putHwq n { q with die := rest })
  else
    let x := BitVec.ofNat 64 (s.natAt (s.hwExtAt n q.extHead) 8)
    (v, s.putHwq n { die := rest ++ [x], extHead := (q.extHead + 1) % s.hwExt n, extCount := q.extCount - 1 })

/-- A core waits at issue in an ENQ for `f` frames: every active core of its tenant has done so for 16 (R338). -/
def State.deadlocked (s : State) (tenant : Nat) : Option Nat :=
  let act := s.activeCores tenant
  if act ≠ [] && act.all fun c => 16 ≤ (s.core c).enqFrames then act.head? else none

end Sys2Proof.Machine
end

