-- ==== Sys2Proof/Machine/Reliability.lean ====
section
/-! DEFINITION. Errors in protected arrays, escalation's end, the core map and in-field scans (R345, R361 to R364, R372 to
R376). -/

namespace Sys2Proof.Machine

open Sys2Proof

/-! ### The core map (R372, R373) -/

/-- An image of LCMAP entry `l` that a port write drops (R372). -/
def State.lcmapBad (s : State) (l : Nat) (v : Word64) : Bool :=
  let p := field v.toNat 0 9
  field v.toNat 9 54 ≠ 0 || 319 < p
    || (bitAt v.toNat 63 && (List.range 320).any fun m =>
          let e := (s.ctlGet (Ctl.LCMAP m)).toNat
          m ≠ l && bitAt e 63 && field e 0 9 = p)

/-- Homes anew every ready, unstarted pool node of the tenants whose active cores differ from `before` (R373). -/
def State.rehome (s : State) (before : Nat → List Nat) : State :=
  s.graphs.foldl (fun s e =>
    let act := s.activeCores e.2.tenant
    if act = before e.2.tenant then s
    else e.2.nodes.foldl (fun s m =>
      if m.2.state = 1 && !nodeTimed m.2.record then
        s.putNode e.1 m.1 { m.2 with home := if act = [] then none else act[homeIndex m.2.record act.length]? }
      else s) s) s

/-- An entry of the core map changes (R372, R373): a core whose logical number changes ends its quarantine (R345). -/
def State.lcmapPut (s : State) (l : Nat) (v : Word64) : State :=
  let s' := s.ctlPut (Ctl.LCMAP l) (v &&& 0x80000000000001FF)
  let s' := { s' with quarantine := s'.quarantine.filter fun p => s'.logicalOf p = s.logicalOf p && (s'.logicalOf p).isSome }
  s'.rehome s.activeCores

/-- A port's write of an LCMAP entry (R372). -/
def State.lcmapWrite (s : State) (l : Nat) (v : Word64) : State :=
  if s.lcmapBad l v then s.errorRecord 0xFF 4 l v.toNat 0 else s.lcmapPut l v

/-! ### Ending an escalation (R345) -/

/-- The task that an escalated core holds, or has saved and not yet handed on. -/
def Core.ownTask (k : Core) : Option Task := k.task.or (k.savedTask.map (·.task))

/-- ACT of XESC (R345): the task fails, and the core returns to dispatch, also one that R356 had withdrawn, or is withdrawn from it. -/
def State.endEscalation (s : State) (c : Nat) (quarantine : Bool) : State :=
  let k := s.core c
  if !k.frozen then s
  else
    let s := { s.ctlPut (Ctl.XESC c) 0 with
      quarantine := if quarantine then NatSet.insert s.quarantine c else NatSet.remove s.quarantine c }
    match k.ownTask with
    | some t => s.failCore c t
    | none => s.releaseCore c

/-! ### Scans (R374 to R376) -/

/-- Writes a scan's record on the COPY path and raises its semaphore (R374); a failure's error record, the signatures' difference in
it, comes before the signal (R379). -/
def State.scanReport (s : State) (x : Scan) (status cycles : Nat) (sig expected : Word64) : State :=
  let bs := toBytes 4 status ++ toBytes 4 cycles ++ toBytes 8 sig.toNat ++ toBytes 8 expected.toNat ++ toBytes 8 s.frame
  let (s, met) := s.engineWrite (.engine .copy x.core (some x.ticket)) x.record bs
  let s := s.report x.core x.va x.pc x.record met
  let s := if status = 1 then s.errorRecord 0xFF 5 x.target (sig ^^^ expected).toNat 0 else s
  (s.signal x.core x.header (BitVec.ofNat 5 x.sem)).noteEnd x.core x.header (some x.sem) x.ticket

/-- SCAN's start (R375): REFUSED at once on a target that holds a task or already scans. -/
def State.scanStart (s : State) (x : Scan) : State :=
  if (s.core x.target).ownTask.isSome || (s.scans.any fun y => y.target = x.target) then s.scanReport x 3 0 0 0
  else { s with scans := s.scans ++ [x] }

/-- What the pattern leaves of a target: SRAM, registers and queues overwritten (R375). -/
def State.scrambled (s : State) (c : Nat) : State :=
  (s.onCore c fun k => { k with scratch := [], scratchPoison := [], junk := [(0, 16 * 262144, s.free)], regs := {}, blocks := [] }).drew 4194304

/-- The pattern ends with a signature (R375). -/
def State.scanEnd (s : State) (c : Nat) (sig expected : Word64) : State :=
  match s.scans.find? fun x => x.target = c with
  | none => s
  | some x =>
    let s := ({ s with scans := s.scans.filter fun y => y != x }).scrambled c
    if sig = expected then s.scanReport x 0 400000 sig expected
    else ({ s with quarantine := NatSet.insert s.quarantine c }).scanReport x 1 400000 sig expected

/-- The engines of core `c` have requests that saved contexts still owe (R351, R375). -/
def Core.owes (k : Core) : Bool := (k.e0.reqs ++ k.e1.reqs).any fun r => r.header ≠ 0

/-- A node of effective priority 6 or 7 that R333 would give to core `c` waits, homed or timetabled there, or a task of one that the
dispatcher holds ready there (R376, R435). -/
def State.scanUnwanted (s : State) (c : Nat) : Bool :=
  let tenant := s.tenantOf c
  (s.timedFor c).any (fun t => match (s.graph t.1).bind fun x => Map.find x.nodes t.2.1 with
      | some n => decide (6 ≤ nodePri n.record) | none => false)
    || (s.graphs.any fun e => e.2.tenant = tenant && !e.2.failed && e.2.nodes.any fun m =>
        m.2.state = 1 && !nodeTimed m.2.record && m.2.home = some c && 6 ≤ s.effPrio tenant m.2)
    || (s.mine c).any fun x => 6 ≤ x.task.prio

/-- A scan is ended early (R376). -/
def State.scanCut (s : State) (c : Nat) : State :=
  match s.scans.find? fun x => x.target = c with
  | none => s
  | some x =>
    if !s.scanUnwanted c then s
    else
      let run := min 400000 (s.clk - x.started)
      (({ s with scans := s.scans.filter fun y => y != x }).scrambled c).scanReport x 2 run 0 0

/-! ### Array errors (R361, R126, R364) -/

/-- The virtual address at which core `c` holds the granule of a physical address; 0 where it holds none. -/
def Core.heldVa (k : Core) (a : Nat) : Word64 :=
  ((k.tlb.find? fun e => e.pa = a / 65536 * 65536).map fun e => BitVec.signExtend 64 (BitVec.ofNat 57 (e.granule * 65536 + a % 65536))).getD 0

/-- The records of an error in a slice's tables (R364): those of its effects, by SEV and WHERE, then the table error, or a correction. -/
def State.tableRecord (s : State) (fatal : Bool) (slice index : Nat) (more : List (Nat × Nat)) : State :=
  (more.foldl (fun s e => s.errorRecord 8 e.1 slice e.2 0) s).errorRecord 8 (if fatal then 4 else 0) slice index 0

/-- An error in a protected array (R361): corrected and logged, or with the effect of an uncorrectable error. A word that a read of the
core owns on another module ends its ownership and is consumed by that read (R126), a lost entry of a routine cache is read again from
the table, and a page-state byte counts as DIRTY; the indexes within these arrays are the model's (log 69). -/
def State.arrayErr (s : State) (p : ArrayPlace) (fatal : Bool) : State :=
  let sev := if fatal then 1 else 0
  match p with
  | .sector a =>
    let s := if fatal then s.poisonRange (a / 32 * 32) 32 else s
    s.errorRecord 1 sev (stackOf a) a 0
  | .l2 a =>
    let s := if fatal then s.poisonRange (a / 32 * 32) 32 else s
    s.errorRecord 2 sev (sliceOf a) a 0
  | .scratch c o =>
    let s := if fatal then s.onCore c fun k => k.spPoison (o / 8 * 8) 8 else s
    s.errorRecord 3 sev c o 0
  | .queue c q i =>
    let n : QReg := BitVec.ofNat 6 q
    let s := if fatal then s.onCore c fun k => k.setQ n ((k.q n).mapIdx fun j e => if j = i then { e with poison := true } else e) else s
    s.errorRecord 4 sev c (64 * q + i) 0
  | .acc c a r =>
    let s := if fatal then s.onCore c fun k => k.setRowBad (a % 16) (r % 64) true else s
    s.errorRecord 5 sev c (64 * a + r) 0
  | .scalar c n =>
    let s := if fatal then s.onCore c fun k => k.setSBad (BitVec.ofNat 6 n) true else s
    s.errorRecord 6 sev c n 0
  | .pred c n =>
    let s := s.errorRecord 7 sev c n 0
    if fatal then s.escalate c 0x18 else s
  | .l1 c a =>
    let s := s.onCore c fun k => k.dropCode fun l => l.pa.any fun x => x / 128 = a / 128
    if fatal && (Map.find s.owned (a / 4)).any (·.owner = c) then
      let s := ((s.endOwned fun w _ => w = a / 4).poisonRange (a / 4 * 4) 4).errorRecord 0 1 c a 0
      s.consumed c { kind := 0, unit := c, loc := a, va := (s.core c).heldVa a } (s.core c).ir.cp
    else s.errorRecord 0 0 c a 0
  | .slice a =>
    let s := if fatal then { s with wordPoison := NatSet.insert s.wordPoison (a / 4), owned := Map.erase s.owned (a / 4) } else s
    s.tableRecord fatal (sliceOf a) (a / 4) (if fatal then [(3, a / 4 * 4)] else [])
  | .routine slice tenant id =>
    let key := routineKey slice tenant id
    let s := if fatal then { s with routines := Map.erase s.routines key } else s
    s.tableRecord fatal slice (key % 16384) []
  | .pageState g =>
    let s := if fatal && (s.pageState g).isSome then s.setPageState g 3 else s
    s.tableRecord fatal (((s.pageByte g).map sliceOf).getD 0) g []

end Sys2Proof.Machine
end

