-- ==== Sys2Proof/Machine/Snapshot.lean ====
section
/-! DEFINITION. Snapshots: epochs, markers, cuts, the arm, copies and the manifest (R380 to R390). -/

namespace Sys2Proof.Machine

open Sys2Proof

/-- EN of SNAPCFG (R380). -/
def State.snapOn (s : State) : Bool := bitAt (s.ctlGet Ctl.SNAPCFG).toNat 63
/-- TENANT of SNAPCFG. -/
def State.snapTenant (s : State) : Nat := field (s.ctlGet Ctl.SNAPCFG).toNat 48 8
/-- GROUP of SNAPCFG. -/
def State.snapGroup (s : State) : Nat := field (s.ctlGet Ctl.SNAPCFG).toNat 44 4

/-- The member links: those that join this module to another member of GROUP (R380, R434). -/
def State.memberLinks (s : State) : List Nat :=
  let g := s.snapGroup
  if g = 0 then []
  else
    let mods := (List.range (s.groupOf g).2.1).map fun i => s.memberModule g i
    (List.range 16).filter fun k => let l := Map.get ({} : Link) s.links k; l.up && l.peer ≠ s.modId && l.peer ∈ mods

/-- A core runs a task of the job. -/
def State.jobCore (s : State) (c : Nat) : Bool := s.snapOn && (s.core c).task.any fun t => t.tenant = s.snapTenant

/-- The physical cores that run a task of the job. -/
def State.jobCores (s : State) : List Nat := (s.cores.map (·.1)).filter s.jobCore

/-- SNAPST (R382). -/
def State.snapst (s : State) : Word64 :=
  BitVec.ofNat 64 (s.snap.phase * 2 ^ 62 + bit (s.snap.phase = 1 && s.snap.old.isSome) * 2 ^ 61)

/-- A module enters CUTTING for an epoch at its first marker (R384). -/
def State.startEpoch (s : State) (e : Nat) : State :=
  let p := s.snap
  let p' : Snap := { p with phase := 1, epoch := e, moduleCut := false, paths := [], armed := [], cur := { epoch := e },
                            old := if p.phase = 2 then some p.cur else none }
  let clear (l : Link) : Link := { l with marker := false }
  let fresh (k : Core) : Core := { k with cut := false, cutAge := 0 }
  { s with snap := p', links := s.links.map fun x => (x.1, clear x.2), cores := s.cores.map fun x => (x.1, fresh x.2) }

/-- The member of the job's group that a link leads to (R158, R159). -/
def State.memberAt (s : State) (link : Nat) : Nat :=
  let g := s.snapGroup
  ((List.range (s.groupOf g).2.1).find? fun i => s.memberModule g i = (Map.get ({} : Link) s.links link).peer).getD 0

/-- The marker flit of a member link (R385), to the member at its other end (R158). -/
def State.markerFlit (s : State) (rollback : Bool) (e link : Nat) : Flit :=
  { kind := 2, group := s.snapGroup, srcm := (s.groupOf s.snapGroup).2.2, dstm := s.memberAt link, tag := 0, fin := false, len := 0,
    offset := e + (if rollback then 2 ^ 63 else 0), payload := [] }

/-- What a link error leaves in the error ring: the row of the Quay Links, the link, and the offset field of the flit (log 70). -/
def State.linkError (s : State) (link : Nat) (f : Flit) : State := s.errorRecord 9 0 link f.offset 0

/-- A marker without the rollback bit arrives on a link (R380, R385); one that is not taken is dropped with a link error. -/
def State.takeMarker (s : State) (link : Nat) (f : Flit) : State :=
  let e := f.offset
  let l := Map.get ({} : Link) s.links link
  let seen (s : State) : State := { s with links := Map.put s.links link { (Map.get ({} : Link) s.links link) with marker := true } }
  if !s.snapOn || link ∉ s.memberLinks || f.group ≠ s.snapGroup then s.linkError link f
  else if s.snap.phase ≠ 1 && e = s.snap.epoch + 1 then seen (s.startEpoch e)
  else if s.snap.phase = 1 && e = s.snap.epoch && !l.marker then seen s
  else s.linkError link f

/-- A core takes its cut (R384): it stops issue, and its ownerships end (R296). -/
def State.takeCut (s : State) (c : Nat) : State :=
  if s.snap.phase = 1 && !s.snap.moduleCut && s.jobCore c && (s.core c).level = 0 && (s.core c).berth.demand.isNone then
    (s.onCore c fun k => { k with cut := true, pend := { k.pend with cutNow := false } }).endOwned fun _ o => o = c
  else s

/-- The cut is overdue: PBOUND has passed since the first marker (R384). -/
def State.cutOverdue (s : State) (c : Nat) : Bool :=
  let k := s.core c
  s.snap.phase = 1 && !k.cut && (k.csrGet Csr.PBOUND).toNat ≤ k.cutAge

/-- An engine of a core at its cut has drained (R384): only requests that run on are left, those of saved contexts, and one held at its
record, with what the record stops or keeps from starting (R149, R151). -/
def Engine.cutDrained (e : Engine) : Bool :=
  e.reqs.all fun r => r.op.crossesCut || r.header ≠ 0 || r.held || r.stopped || (e.record.isSome && !r.started)

/-- A core at its cut has drained as TASKEND does (R319, R384). -/
def Core.cutDrained (k : Core) (clk : Nat) : Bool :=
  !(k.windows.any fun w => w.opens clk || w.late || clk < w.due) && k.passes = [] && k.mstores = [] && k.e0.cutDrained && k.e1.cutDrained

/-- Every job core has cut; a frozen one counts without a context (R384). -/
def State.allCut (s : State) : Bool := s.jobCores.all fun c => let k := s.core c; k.frozen || (k.cut && k.cutDrained s.clk)

/-! ### Allocation and images in the snapshot area (R381, R387) -/

/-- `n` granules allocated in turn; none when they do not fit. -/
def State.allocMany : Nat → State → Option (List Nat × State)
  | 0, s => some ([], s)
  | n + 1, s => if s.areaFull then none else (State.allocMany n s.areaTake).map fun q => (s.areaNext :: q.1, q.2)

/-- The granules of something of `n` granules that starts at a granule of the area: they follow in ring order (log 21). -/
def State.areaPages (s : State) (a n : Nat) : List Nat :=
  let v := (s.ctlGet Ctl.SNAPAREA).toNat
  let base := field v 16 24
  (List.range n).map fun i => (base + (a / 65536 - base + i) % max 1 (field v 40 24)) * 65536

/-- The bytes that a COLL has sent: whole transfers of `bytes` each, and whole flits of the next. -/
def collSent (bytes sent : Nat) : Nat := sent / flitCount bytes * bytes + sent % flitCount bytes * 112

/-- The 48-byte entry of a request that crosses the cut (R387). -/
def reqEntry (eng : Bool) (r : Req) : List Byte :=
  let mk (opc sub d a b sent got : Nat) : List Byte :=
    toBytes 1 opc ++ toBytes 1 (sub + bit eng * 128) ++ toBytes 1 (r.sg.sem.toNat + bit r.sg.sig * 128) ++ toBytes 5 0
      ++ toBytes 8 d ++ toBytes 8 a ++ toBytes 8 b ++ toBytes 8 sent ++ toBytes 8 got
  match r.op with
  | .coll kind g fmt op root tag n dst src =>
    mk 0x0C kind dst src (g * 2 ^ 60 + fmt * 2 ^ 54 + op * 2 ^ 52 + root * 2 ^ 46 + tag * 2 ^ 32 + n) (collSent (n * codeBytes fmt) r.sent) r.done
  | .send sp g peer tag src len => mk 0x0D (bit sp) (g * 2 ^ 60 + peer * 2 ^ 54 + tag * 2 ^ 40) src len r.done 0
  | .recv sp g peer tag dst len => mk 0x0E (bit sp) (g * 2 ^ 60 + peer * 2 ^ 54 + tag * 2 ^ 40) dst len 0 r.done
  | _ => []

/-- The request block of a core's task (R387): its requests in flight on any core, 32 at most. -/
def State.reqBlock (s : State) (c : Nat) : List Byte :=
  let es := [false, true].flatMap fun e => ((s.taskReqs c e).filter fun x => !x.2.2.ended && !x.2.2.held).map fun x => reqEntry e x.2.2
  let bs := ((es.filter (· ≠ [])).take 32).flatten
  bs ++ List.replicate (1536 - bs.length) 0

/-- A core with the signals of its task's held requests counted (R384). -/
def State.withHeldSignals (s : State) (c : Nat) : Core :=
  ((s.taskReqs c false) ++ (s.taskReqs c true)).foldl (fun k x =>
    if x.2.2.held && x.2.2.sg.sig then k.setW x.2.2.sg.sem (k.w x.2.2.sg.sem + 1) else k) (s.core c)

/-- The doublewords of a saved image, its OWNER word 0: those of a task that has halted (R319, R387). -/
def State.savedWords (s : State) (pages : List Nat) (va : Nat) : List ImageWord :=
  (List.range (imageSize (s.imageWord pages va 0x400 % 16) / 8)).map fun i =>
    (8 * i, if i = 3 then 0 else s.imageWord pages va (8 * i), s.poisoned (imageAt pages va (8 * i)) 8)

/-- The image of core `c`'s context without its request block, and its size: that of the core, or the one to which HALT has saved it. -/
def State.cutImage (s : State) (c : Nat) : Option (List ImageWord × Nat) :=
  let k := s.core c
  match (k.haltedTask).bind fun _ => k.savedTask with
  | some x => (s.savedPages c x).map fun pages => (s.savedWords pages x.va.toNat, imageSize (s.imageWord pages x.va.toNat 0x400 % 16))
  | none => some (atOffset 0 [1, k.main.pc.toNat, (k.csrGet Csr.TCAUSE).toNat, 0] ++ (s.withHeldSignals c).imageWords, imageSize (k.spSize / 262144))

/-- The image of one job core at the module cut (R387): its address, or a manifest that fails. -/
def State.snapContext (s : State) (c : Nat) : State :=
  let k := s.core c
  let l := (s.logicalOf c).getD 0
  let add (s : State) (a : Nat) (lossy : Bool) : State :=
    let m := s.snap.cur
    { s with snap := { s.snap with cur := { m with contexts := m.contexts ++ [(l, c, a)], lossy := m.lossy || lossy } } }
  match if k.frozen then none else s.cutImage c with
  | none => add s 0 true
  | some (ws, size) =>
    match State.allocMany ((size + 1536 + 65535) / 65536) s with
    | none => ({ s with snap := { s.snap with cur := { s.snap.cur with failed := true } } }).errorRecord 0xFF 4 0xFFFF 0 0
    | some (pages, s) =>
      let a := pages.headD 0
      let blk := s.reqBlock c
      let tail := (List.range 192).map fun i => (size + 8 * i, ofBytes ((blk.drop (8 * i)).take 8), false)
      add (s.putImage c pages a (ws ++ tail)) a false

/-- The graph image of one graph (R389). -/
def graphImage (x : Graph) : List Byte :=
  let word (n : TNode) : List Byte := toBytes 4 (n.state * 2 ^ 30 + n.counter % 2 ^ 30)
  let spawned := x.nodes.filter fun m => x.count ≤ m.1 && m.2.state ≠ 3
  toBytes 8 x.base ++ toBytes 4 x.count ++ toBytes 1 (bit x.port) ++ toBytes 1 (bit x.failed) ++ toBytes 4 spawned.length ++ toBytes 14 0
    ++ (List.range x.count).flatMap (fun i => ((Map.find x.nodes i).map word).getD (toBytes 4 0))
    ++ spawned.flatMap fun m => toBytes 256 m.2.record.toNat ++ word { m.2 with counter := 0 }

/-- The manifest of the epoch takes the first granule that the epoch allocates (R390, R394). -/
def State.openManifest (s : State) : State :=
  if s.areaFull then { s with snap := { s.snap with cur := { s.snap.cur with failed := true } } }.errorRecord 0xFF 4 0xFFFF 0 0
  else { s.areaTake with snap := { s.snap with cur := { s.snap.cur with addr := s.areaNext } } }

/-- The manifest's header while it is being written (R390), what the dispatcher and the matchers hold with it, and SNAPLAST. -/
def State.headManifest (s : State) (cores : List Nat) : State :=
  let a := s.snap.cur.addr
  if a = 0 then s
  else
    let st := 1 + s.modId * 2 ^ 24 + s.snapTenant * 2 ^ 32 + s.snapGroup * 2 ^ 40
    let s := s.hardWrite a (toBytes 8 st ++ toBytes 8 s.snap.epoch ++ toBytes 8 (s.ctlGet Ctl.SNAPLAST).toNat ++ toBytes 8 s.frame)
    let tasks := cores.filterMap fun c => (s.core c).task.map fun t => (c, t)
    let cut : CutInfo := { addr := a, tasks := tasks, saved := s.saved.filter fun x => x.task.tenant = s.snapTenant, graphs := s.graphs.filter fun e => e.2.tenant = s.snapTenant, inbound := s.inbound }
    { s with snap := { s.snap with cuts := cut :: s.snap.cuts } }.ctlPut Ctl.SNAPLAST (BitVec.ofNat 64 a)

/-- The die-to-die paths in both directions, by 9 from + to (R384). -/
def diePaths : List Nat := (List.range 81).filter fun p => p / 9 ≠ p % 9

/-- The marker flit of a die-to-die path (R385). -/
def pathFlit (e : Nat) : Flit :=
  { kind := 2, group := 0, srcm := 0, dstm := 0, tag := 0, fin := false, len := 0, offset := e, payload := [] }

/-- The module cut (R384): the manifest is opened, contexts and graphs are captured, and markers are sent. -/
def State.moduleCut (s : State) : State :=
  if !(s.snap.phase = 1 && !s.snap.moduleCut && s.allCut) then s
  else
    let cores := s.jobCores
    let s := cores.foldl (fun s c => s.endOwned fun _ o => o = c) s
    let s := { s with snap := { s.snap with moduleCut := true, passed := Map.put s.snap.passed s.snapTenant s.snap.epoch,
                                            onPaths := s.snap.onPaths ++ diePaths.map fun p => (p, pathFlit s.snap.epoch) } }
    let s := cores.foldl State.snapContext s.openManifest
    let gs := (s.graphs.filter fun e => e.2.tenant = s.snapTenant).map fun e => graphImage e.2
    let s := { s with snap := { s.snap with cur := { s.snap.cur with graphs := gs, frame := s.frame } } }
    let s := s.headManifest cores
    { s with out := s.out ++ s.memberLinks.map fun l => (l, s.markerFlit false s.snap.epoch l) }

/-! ### The arm (R384, R112) -/

/-- The granules whose page-state byte is tracked. -/
def State.tracked (s : State) : List Nat :=
  let b := (s.ctlGet Ctl.PSTBASE).toNat
  let base := field b 16 24 * 65536
  if bitAt b 0 then ((s.mem.filter fun e => base ≤ e.1 && e.1 < base + 12582912 && e.2.getLsbD 2).map fun e => e.1 - base) else []

/-- The first marker in transit on a die-to-die path arrives: the epoch's counts, any other is dropped with a link error (R384, R385). -/
def State.pathMarker (s : State) (p : Nat) : State :=
  match s.snap.onPaths.find? fun x => x.1 = p with
  | none => s
  | some x =>
    let s := { s with snap := { s.snap with onPaths := s.snap.onPaths.erase x } }
    if s.snap.phase = 1 && x.2.offset = s.snap.epoch && p ∉ s.snap.paths then { s with snap := { s.snap with paths := NatSet.insert s.snap.paths p } }
    else s.linkError p x.2

/-- Die `d` may arm (R384). -/
def State.mayArm (s : State) (d : Nat) : Bool :=
  s.snap.phase = 1 && s.snap.moduleCut && s.snap.old.isNone && d ∉ s.snap.armed && d < 8
    && (s.memberLinks.all fun l => (Map.get ({} : Link) s.links l).marker)
    && (diePaths.filter fun p => p % 9 = d).all (· ∈ s.snap.paths)

/-- SNAPEP of the image to which HALT saved core `c`'s task, if it did, reads `e` (R384). -/
def State.haltedEpoch (s : State) (c : Nat) (e : Word64) : State :=
  match ((s.core c).haltedTask).bind fun _ => (s.core c).savedTask with
  | some x => match s.savedPages c x with
    | some pages => s.hardWrite (imageAt pages x.va.toNat (0x400 + 8 * 21)) (toBytes 8 e.toNat)
    | none => s
  | none => s

/-- Every die has armed: the job's cores resume, and PHASE becomes COPYING (R384). -/
def State.allArmed (s : State) : State :=
  let e : Word64 := BitVec.ofNat 64 s.snap.epoch
  let job := s.jobCores
  let s := job.foldl (fun s c => s.onCore c fun k => ({ k with cut := false, cutAge := 0 }).csrPut Csr.SNAPEP e) s
  let s := job.foldl (fun s c => s.haltedEpoch c e) s
  { s with snap := { s.snap with phase := 2 } }

/-- Compute die `d` arms (R384): the tracked granules homed there that are DIRTY become ARMED. -/
def State.arm (s : State) (d : Nat) : State :=
  if !s.mayArm d then s
  else
    let gs := s.tracked.filter fun g => stackOf (g * 65536) / 2 = d && s.pageState g = some 3
    let s := (gs.flatMap s.tableErr).foldl State.logTable s
    let s := gs.foldl (fun s g => s.setPageState g 1) s
    let m := s.snap.cur
    let m' : Manif := { m with granules := m.granules ++ gs.map fun g => (g, 0, false) }
    let s : State := { s with snap := { s.snap with armed := NatSet.insert s.snap.armed d, cur := m' } }
    if s.snap.armed.length = 8 then s.allArmed else s

/-! ### The manifest (R390) -/

/-- A flit as it stands in a channel record: header and payload, 128 bytes (R158). -/
def flitBytes (f : Flit) : List Byte :=
  toBytes 1 f.kind ++ toBytes 1 f.group ++ toBytes 1 f.srcm ++ toBytes 1 f.dstm ++ toBytes 2 (f.tag + bit f.fin * 2 ^ 15) ++ toBytes 2 f.len
    ++ toBytes 8 f.offset ++ (List.range 112).map fun i => f.payload.getD i 0

/-- The flit of a channel record. -/
def flitOf (bs : List Byte) : Flit :=
  let g (o n : Nat) : Nat := ofBytes ((bs.drop o).take n)
  { kind := g 0 1, group := g 1 1, srcm := g 2 1, dstm := g 3 1, tag := g 4 2 % 2 ^ 14, fin := bitAt (g 4 2) 15, len := g 6 2, offset := g 8 8,
    payload := (bs.drop 16).take (g 6 2) }

/-- The sections of a manifest, with their offsets from the header. -/
def Manif.sections (m : Manif) : List Byte :=
  let gran := m.granules.flatMap fun g => toBytes 8 (g.1 + bit g.2.2 * 2 ^ 63) ++ toBytes 8 g.2.1
  let chan := (List.range m.channel.length).flatMap fun i =>
    let r := m.channel.getD i (0, 0, { kind := 0, group := 0, srcm := 0, dstm := 0, tag := 0, fin := false, len := 0, offset := 0, payload := [] })
    toBytes 1 r.1 ++ toBytes 1 0 ++ toBytes 2 r.2.1 ++ toBytes 4 i ++ toBytes 8 0 ++ flitBytes r.2.2
  let ctx := m.contexts.flatMap fun x => toBytes 2 x.1 ++ toBytes 2 x.2.1 ++ toBytes 4 0 ++ toBytes 8 x.2.2
  let gr := m.graphs.flatten
  let o1 := 128
  let o2 := o1 + gran.length
  let o3 := o2 + chan.length
  let o4 := o3 + ctx.length
  toBytes 4 m.granules.length ++ toBytes 4 m.channel.length ++ toBytes 4 m.contexts.length ++ toBytes 4 m.graphs.length
    ++ toBytes 8 o1 ++ toBytes 8 o2 ++ toBytes 8 o3 ++ toBytes 8 o4 ++ toBytes 8 (o4 + gr.length) ++ toBytes 40 0
    ++ gran ++ chan ++ ctx ++ gr

/-- Every copy that a manifest lists is written, or it has failed (R390). -/
def Manif.copiesDone (m : Manif) : Bool := m.failed || m.granules.all fun g => g.2.1 ≠ 0

/-- A manifest may end: its copies are done and, for the running epoch, PHASE is COPYING (R384, R390). -/
def State.mayEnd (s : State) : Bool :=
  match s.snap.old with
  | some m => m.copiesDone
  | none => s.snap.phase = 2 && s.snap.cur.copiesDone

/-- The manifest ends (R390): its sections and state are written, and the granule states move (R112). -/
def State.endManifest (s : State) : State :=
  if !s.mayEnd then s
  else
    let m := s.snap.arming
    let bytes := m.sections
    let grow := if m.addr = 0 then none else State.allocMany ((32 + bytes.length + 65535) / 65536 - 1) s
    let (m, s) : Manif × State := match grow with
      | some (_, s) => (m, s)
      | none => ({ m with failed := true }, if m.addr = 0 then s else s.errorRecord 0xFF 4 0xFFFF 0 0)
    let fits : Bool := grow.isSome
    let st := if m.failed then 2 else if m.lossy then 3 else 1
    let s := if m.addr = 0 then s
      else
        let pages := s.areaPages m.addr ((32 + bytes.length + 65535) / 65536)
        let s := if !fits then s
          else (List.range pages.length).foldl (fun s i =>
            let o := if i = 0 then 32 else 65536 * i
            s.hardWrite (imageAt pages m.addr o) ((bytes.drop (o - 32)).take (65536 * (i + 1) - o))) s
        s.hardWrite (m.addr + 2) [BitVec.ofNat 8 st]
    let s := m.granules.foldl (fun s g => if s.pageState g.1 = some 2 then s.setPageState g.1 3 else s) s
    { s with snap := if s.snap.old.isSome then { s.snap with old := none } else { s.snap with phase := 0, cur := {} } }

end Sys2Proof.Machine
end

