-- ==== Sys2Proof/Machine/Links.lean ====
section
/-! DEFINITION. What arrives on a Quay Link: data and abort flits, markers, training and loss of a link (R158 to R161, R385,
R386, R388, R434). -/

namespace Sys2Proof.Machine

open Sys2Proof

/-! ### Delivery to the receive matchers (R160, R161) -/

/-- A data flit joins the first open transfer of its key, or opens one: bytes at their offsets, END with the last flit. -/
def putData (link : Option Nat) (f : Flit) : List Inbound → List Inbound
  | [] =>
    let bytes : Map Byte := (List.range f.len).map fun i => (f.offset + i, f.payload.getD i 0)
    [{ group := f.group, src := f.srcm, tag := f.tag, bytes := bytes, bad := if f.bad then bytes.map (·.1) else [], ended := f.fin,
       len := f.offset + f.len, link := link }]
  | x :: xs =>
    if x.group = f.group && x.src = f.srcm && x.tag = f.tag && !x.ended then
      if x.discard then (if f.fin then xs else x :: xs)
      else
        let bytes := (List.range f.len).foldl (fun m i => Map.put m (f.offset + i) (f.payload.getD i 0)) x.bytes
        let bad := if f.bad then (List.range f.len).foldl (fun m i => NatSet.insert m (f.offset + i)) x.bad else x.bad
        { x with bytes := bytes, bad := bad, ended := f.fin, len := max x.len (f.offset + f.len), link := link.or x.link } :: xs
    else x :: putData link f xs

/-- A transfer is of a flit's key. -/
def ofKey (f : Flit) (x : Inbound) : Bool := x.group = f.group && x.src = f.srcm && x.tag = f.tag

/-- An abort flit with END ends the first open transfer of its key, or opens one that has ended so (R151). -/
def putAbort (link : Option Nat) (f : Flit) : List Inbound → List Inbound
  | [] => [{ group := f.group, src := f.srcm, tag := f.tag, ended := true, aborted := true, link := link }]
  | x :: xs =>
    if ofKey f x && !x.ended then (if x.discard then xs else { x with ended := true, aborted := true } :: xs)
    else x :: putAbort link f xs

/-- An abort flit without END: a transfer of its key that is open is aborted, else the last one that has ended; where there is none and `busy`, a
collective of the key runs here, one that has ended so is opened (R151, log 30). -/
def putLateAbort (link : Option Nat) (busy : Bool) (f : Flit) (l : List Inbound) : List Inbound :=
  match (l.filter (ofKey f)).getLast? with
  | some x => if x.ended then l.map fun y => if y = x then { y with aborted := true } else y else putAbort link f l
  | none => if busy then l ++ [{ group := f.group, src := f.srcm, tag := f.tag, ended := true, aborted := true, link := link }] else l

/-- A data or abort flit reaches the member that its header names: this module, or one to which it is forwarded (R158). -/
def State.deliverFlit (s : State) (link : Option Nat) (f : Flit) : State :=
  let grp := s.groupOf f.group
  if !grp.1 || grp.2.1 ≤ f.dstm then s
  else if f.dstm = grp.2.2 then
    { s with inbound :=
        if f.kind ≠ 3 then putData link f s.inbound
        else if f.fin then putAbort link f s.inbound
        else putLateAbort link (s.collBusy f.group f.tag) f s.inbound }
  else match s.transferLink (s.memberModule f.group f.dstm) f.tag with
    | some l => s.sendFlit l f
    | none => s

/-- The core whose request takes a flit's transfer, if one has claimed it. -/
def State.flitCore (s : State) (f : Flit) : Option Nat :=
  ((s.inbound.find? fun x => ofKey f x && !x.ended).bind fun x => x.taker).map (·.1)

/-! ### Accesses of agents outside the job (R302, R419, R420) -/

/-- The new value of an atomic of the general cores on an old one, `w` bits wide. -/
def busApply (op : BusOp) (w old new : Nat) : Nat :=
  let a := signedOf w old
  let b := signedOf w new
  match op with
  | .load => old
  | .store => new
  | .swap => new
  | .add => (old + new) % 2 ^ w
  | .and => old &&& new
  | .or => old ||| new
  | .xor => old ^^^ new
  | .min => if a ≤ b then old else new
  | .max => if a ≤ b then new else old
  | .minu => min old new
  | .maxu => max old new

/-- An agent outside the job writes: whether its own order puts its earlier writes before this one, which then makes them known to every
job (R300, item 4; R302), is the agent's, and a free value here. -/
def State.outsideStep (s : State) : State :=
  let old := (s.hist.filter fun h => h.who = .outside && h.old ≠ []).map fun h =>
    ((none, { n := h.n, cls := none, lo := h.addr, hi := h.addr + h.old.length - 1 }) : Option Nat × OrdWrite)
  (if s.freeVal 0 % 2 = 1 then { s with published := addOrd s.published old } else s).drew 1

/-- A store of another module's core on its CORE path makes that module the owner of the words that it writes (R296); the bytes of a POISON
word are not written (R304). -/
def State.peerStore (s : State) (m a : Nat) (bs : List Byte) : State :=
  (List.range bs.length).foldl (fun s i =>
    let w := (a + i) / 4
    let old := ofBytes ((List.range 4).map fun j => s.coreByte (4 * w + j))
    let v := BitVec.ofNat 32 (setField old (8 * ((a + i) % 4)) 8 (bs.getD i 0).toNat)
    if w ∈ s.wordPoison then s else { s with owned := Map.put s.owned w { owner := 320 + m, value := v } })
    (s.endOthers (320 + m) a bs.length)

/-- A read by an agent outside the job leaves the home slices with the values of words that others own, for another module's agent or where
a free value says that the read has them (R296, R297, R302). -/
def State.busLook (s : State) (r : BusAccess) : State :=
  if s.owned = [] then s
  else match r.peer with
    | some m => s.obtain (320 + m) r.addr r.data.length
    | none => (if s.freeVal 0 % 2 = 1 then s.obtain 1024 r.addr r.data.length else s).drew 1

/-- An access of an agent outside the job at the home slices (R302). -/
def State.memAccess (s : State) (r : BusAccess) : State :=
  let n := r.data.length
  if n = 0 || !s.homed r.addr || !s.homed (r.addr + n - 1) then s
  else if r.op = .load then s.busLook r
  else
    let s := s.outsideStep
    match r.op, r.peer, r.owns with
    | .store, some m, true => s.peerStore m r.addr r.data
    | _, _, _ =>
      let s := s.endOwnedIn r.addr n
      let new := busApply r.op (8 * n) (s.natAt r.addr n) (ofBytes r.data)
      let (s, m) := s.homeWrite .outside r.addr (toBytes n new)
      let h := s.memHolder r.addr 0
      if m.ue then s.errorRecord h.kind 2 h.unit h.loc 0 else s

/-! ### What a snapshot or a rollback holds back (R386, R391) -/

/-- The compute die that receives an item: that of the core which takes a transfer, or of an access's home; none while no core has claimed
the transfer (log 70). -/
def State.itemDie (s : State) : HeldItem → Option Nat
  | .flit f => (s.flitCore f).map (· / 40)
  | .access r => some (stackOf r.addr / 2)

/-- Traffic of a link is held back: behind its marker until the receiving die arms, or until its rollback marker. -/
def State.holdsBack (s : State) (link : Nat) (x : HeldItem) : Bool :=
  let l := Map.get ({} : Link) s.links link
  l.rollback || (s.snap.phase = 1 && link ∈ s.memberLinks && l.marker && (s.itemDie x).all (· ∉ s.snap.armed))

/-- Two items of a link keep their order: flits of one transfer, accesses of one line. -/
def HeldItem.ordered : HeldItem → HeldItem → Bool
  | .flit f, .flit g => f.group = g.group && f.srcm = g.srcm && f.tag = g.tag
  | .access a, .access b => a.addr / 128 = b.addr / 128
  | _, _ => false

/-- An item of a link takes effect. -/
def State.takeItem (s : State) (link : Nat) : HeldItem → State
  | .flit f => s.deliverFlit (some link) f
  | .access r => s.memAccess r

/-- An item arrives on a link (R386, R388, R391): held back, or taken; a data flit of a transfer is recorded for the manifest between the
module cut and the link's marker. -/
def State.arriveItem (s : State) (link : Nat) (x : HeldItem) : State :=
  let l := Map.get ({} : Link) s.links link
  if s.holdsBack link x || s.snap.held.any (fun y => y.1 = link && y.2.ordered x) then
    { s with snap := { s.snap with held := s.snap.held ++ [(link, x)] } }
  else
    let record : Bool := s.snap.phase = 1 && link ∈ s.memberLinks && !l.marker && s.snap.moduleCut
    let s := match x with
      | .flit f => if record && f.kind = 0 then
          let m := s.snap.cur
          { s with snap := { s.snap with cur := { m with channel := m.channel ++ [(link, (s.flitCore f).getD 0, f)] } } }
        else s
      | .access _ => s
    s.takeItem link x

/-- A data or abort flit arrives on a link. -/
def State.arriveFlit (s : State) (link : Nat) (f : Flit) : State :=
  if (Map.get ({} : Link) s.links link).up then s.arriveItem link (.flit f) else s

/-- A line request of another module's agent arrives, on the link of its line (R158); another agent's access comes over no link. -/
def State.arriveAccess (s : State) (r : BusAccess) : State :=
  match r.peer.bind fun m => s.transferLink m (r.addr / 128) with
  | some link => s.arriveItem link (.access r)
  | none => s.memAccess r

/-- What is held back no longer takes effect in its order of arrival (R386, R391). -/
def State.releaseHeld (s : State) : State :=
  let stay (x : Nat × HeldItem) : Bool := s.holdsBack x.1 x.2
  let out := s.snap.held.filter fun x => !stay x
  out.foldl (fun s x => s.takeItem x.1 x.2) { s with snap := { s.snap with held := s.snap.held.filter stay } }

/-- A compute die arms; with the last one the held flits are delivered (R384, R386). -/
def State.armDie (s : State) (d : Nat) : State := (s.arm d).releaseHeld

/-- A rollback marker arrives on a member link (R385, R391). -/
def State.takeRollbackMarker (s : State) (link : Nat) (f : Flit) : State :=
  let l := Map.get ({} : Link) s.links link
  let e := f.offset % 2 ^ 63
  if link ∉ s.memberLinks || f.group ≠ s.snapGroup then s.linkError link f
  else if l.rollback && e = s.snap.epoch then { s with links := Map.put s.links link { l with rollback := false } }.releaseHeld
  else { s with links := Map.put s.links link { l with rbMarker := some e } }

/-! ### Training and loss (R434, R158) -/

/-- Link `k` trains to a module; one that trains to its own module's number stays down (R434). -/
def State.trainLink (s : State) (k peer plink : Nat) : State :=
  if k < 16 && peer ≠ s.modId then
    let l := Map.get ({} : Link) s.links k
    { s with links := Map.put s.links k { l with up := true, peer := peer % 256, plink := plink % 16 } }
  else s

/-- QLSTAT of a link (R434). -/
def State.qlstat (s : State) (k : Nat) : Word64 :=
  let l := Map.get ({} : Link) s.links k
  BitVec.ofNat 64 (bit l.up * 2 ^ 63 + l.plink % 16 * 256 + l.peer % 256)

/-- The virtual ranges that a request of memory reads and writes; none where an index may lead anywhere. -/
def Req.spans (r : Req) (k : Core) : Option (List (Int × Int)) :=
  let at_ (a n : Nat) : Int × Int := (signedOf 64 a, signedOf 64 a + n)
  let written : List (Int × Int) := match r.area k with
    | .mem lo hi => [(lo, hi)]
    | _ => []
  match r.op with
  | .copy _ mode rows rowBytes _ src _ sstr =>
    let ends : Int := ((rows - 1 : Nat) : Int) * sstr
    some (written ++ if 2 ≤ mode then [] else [(signedOf 64 src + min 0 ends, signedOf 64 src + max 0 ends + rowBytes)])
  | .tensor _ src .. => match descRangeOf (fmtnOf r.fmtn) src (r.exts.getD 0 []) with
    | some (lo, hi) => some ((lo, hi + 1) :: written)
    | none => some written
  | .ldblk _ base count _ => some [at_ base (128 * count)]
  | .wbblk _ => some []
  | .evblk _ => some []
  | .rpush _ _ src stride sp _ => some (if sp then [] else [(signedOf 64 src + min 0 (63 * stride), signedOf 64 src + max 0 (63 * stride) + 128)])
  | .red sp _ _ src fmt count => some (written ++ if sp then [] else [at_ src (count * codeBytes fmt)])
  | .gath .. => none
  | .scat .. => none
  | .scata .. => none
  | .coll .. => some []
  | .send .. => some []
  | .recv .. => some []

/-- A request of memory may have a unit on link `k`: one of its lines in a peer window takes it (R158). -/
def State.mayCross (s : State) (c : Nat) (r : Req) (k : Nat) : Bool :=
  match r.spans (s.core c) with
  | none => true
  | some l => l.any fun x => (s.pieces c r.root .read x.1 x.2).any fun p =>
      s.place p.1 = .peer && (List.range ((p.1 + p.2 + 127) / 128 - p.1 / 128)).any fun j => s.lineLink (p.1 + 128 * j) = some k

/-- A request has traffic on a link (R158): it has started and is not done, and a transfer that it sends or receives takes the link, or, as
free value `pick` decides of one that waits for its first flit and of units in a peer window, may take it. -/
def State.onLink (s : State) (c : Nat) (r : Req) (k pick : Nat) : Bool :=
  let free : Bool := s.freeVal pick % 2 = 1
  let taken := s.inbound.filter fun x => x.taker = some (c, r.ticket) && !x.ended
  let comes : Bool := taken.any fun x => x.link = some k || (x.link.isNone && free && r.via.any fun v => v.1 = x.src && v.2 = k)
  let goes : Bool := r.via.any fun v => v.2 = k
  r.started && !r.ended && !s.finished c r && match r.op with
    | .recv .. => comes
    | .send .. => goes
    | .coll kind _ fmt _ root _ count _ _ =>
      comes || (goes && r.sent < (collTo kind r.mods.length r.me root).length * flitCount (count * codeBytes fmt))
    | _ => free && s.mayCross c r k

/-- The requests of a core's engine with traffic on the link have lost it, and end with KIND LINK at their next unit (R158). -/
def State.linkLost (s : State) (c : Nat) (e : Bool) (k : Nat) : State :=
  s.onCore c fun core => core.setEng e { core.eng e with
    reqs := (core.eng e).reqs.map fun r => if s.onLink c r k (2 * c + bit e) then { r with cut := true } else r }

/-- A transfer that still comes over the link has lost it; one that is discarded goes. -/
def State.inboundLost (s : State) (k : Nat) : State :=
  let hit (x : Inbound) : Bool := x.link = some k && !x.ended
  let cut (x : Inbound) : Inbound := if hit x then { x with ended := true, cut := true } else x
  { s with inbound := (s.inbound.filter fun x => !(hit x && x.discard)).map cut }

/-- Modules that can no longer be reached are lost (R303): each word that a core of one owns and whose value its home has not obtained is
POISON, and their ownerships end. -/
def State.dropLost (s : State) : State :=
  let gone (e : Nat × OwnedWord) : Bool := 320 ≤ e.2.owner && !s.reaches (e.2.owner - 320)
  let out := s.owned.filter gone
  if out = [] then s
  else { s with owned := s.owned.filter fun e => !gone e,
                wordPoison := (out.filter fun e => !e.2.home).foldl (fun m e => NatSet.insert m e.1) s.wordPoison }

/-- A link goes down (R158, R303, R384): its traffic is lost, and the marker it owes counts as arrived, with a LOSSY manifest. -/
def State.loseLink (s : State) (k : Nat) : State :=
  let l := Map.get ({} : Link) s.links k
  let owed : Bool := s.snap.phase = 1 && k ∈ s.memberLinks && !l.marker
  let s := (s.cores.map (·.1)).foldl (fun s c => (s.linkLost c false k).linkLost c true k) s
  let s := ({ s.inboundLost k with links := Map.put s.links k { l with up := false, rollback := false, rbMarker := none } }.drew 1024).dropLost
  let s := if owed then { s with snap := { s.snap with cur := { s.snap.cur with lossy := true } } } else s
  s.releaseHeld

/-! ### Rollback (R391) -/

/-- One manifest on the chain: its address, epoch, state byte and granules with their copies. -/
structure OldManif where
  addr : Nat
  epoch : Nat
  st : Nat
  granules : List (Nat × Nat)

/-- `n` bytes at offset `off` of something that starts at granule address `a` of the snapshot area. -/
def State.areaNat (s : State) (a off n : Nat) : Nat :=
  let pages := s.areaPages a (off / 65536 + 2)
  ofBytes ((List.range n).map fun i => s.byte (imageAt pages a (off + i)))

/-- The manifests from SNAPLAST through PREV, newest first: no more than the area can have granules (R381). -/
def State.chain (s : State) : (fuel a : Nat) → List OldManif
  | 0, _ => []
  | fuel + 1, a =>
    if a = 0 then []
    else
      let n := s.areaNat a 32 4
      let off := s.areaNat a 48 8
      let gr := (List.range n).map fun i => (field (s.areaNat a (off + 16 * i) 8) 0 24, s.areaNat a (off + 16 * i + 8) 8)
      { addr := a, epoch := s.areaNat a 8 8, st := s.areaNat a 2 1, granules := gr } :: s.chain fuel (s.areaNat a 16 8)

/-- ROLLCTL with a STATUS (R391). -/
def State.rollStatus (s : State) (v : Nat) : State :=
  s.ctlPut Ctl.ROLLCTL (BitVec.ofNat 64 (setField (s.ctlGet Ctl.ROLLCTL).toNat 48 8 v))

/-- The granules to be restored: those of later manifests, written or still open, and those DIRTY or COPIED (R391). -/
def State.toRestore (s : State) (later : List OldManif) : List Nat :=
  let open_ := s.snap.cur.granules ++ (s.snap.old.map (·.granules)).getD []
  let dirty := s.tracked.filter fun g => s.pageState g = some 2 || s.pageState g = some 3
  (later.flatMap (·.granules.map (·.1)) ++ open_.map (·.1) ++ dirty).foldl NatSet.insert []

/-- The newest copy of a granule among manifests that are listed newest first. -/
def newestCopy (ms : List OldManif) (g : Nat) : Option Nat :=
  ms.findSome? fun m => (m.granules.find? fun x => x.1 = g && x.2 ≠ 0).map (·.2)

/-- A granule restored from its copy: poison and POISON words go, what was written before is no old value any more, and it becomes CLEAN. -/
def State.restoreGranule (s : State) (g copy : Nat) : State :=
  let s := s.copyGranule copy (g * 65536)
  { s with sectorPoison := s.sectorPoison.filter fun x => x * 32 / 65536 ≠ g,
           wordPoison := s.wordPoison.filter fun x => x * 4 / 65536 ≠ g,
           codeLines := s.codeLines.filter fun x => x * 128 / 65536 ≠ g,
           hist := s.hist.filter fun h => h.addr + h.old.length ≤ g * 65536 || g * 65536 + 65536 ≤ h.addr }.setPageState g 0

/-- Step 1: every task of the tenant ends without completing or failing, its requests aborted. -/
def State.stopJob (s : State) : State :=
  let t := s.snapTenant
  let images := (s.saved.filter fun x => x.task.tenant = t).map (·.image)
  let job := s.jobCores
  let drop (mine : Bool) (g : Engine) : Engine :=
    { reqs := g.reqs.filter fun r => !((mine && r.header = 0) || r.header ∈ images), record := if mine then none else g.record }
  let stop (c : Nat) (k : Core) : Core :=
    let mine : Bool := c ∈ job
    let k := { k with e0 := drop mine k.e0, e1 := drop mine k.e1 }
    if mine then { k.shell with level := 0, entering := false, frozen := false, savedTask := none, windows := [], cut := false, stall := 0 } else k
  { s with cores := s.cores.map fun x => (x.1, stop x.1 x.2), saved := s.saved.filter fun x => x.task.tenant ≠ t,
           graphs := s.graphs.filter fun x => x.2.tenant ≠ t, owned := s.owned.filter fun x => x.2.owner ∉ job,
           orders := s.orders.filter fun x => x.1 ∉ images,
           sliceReqs := s.sliceReqs.filter fun x => x.core ∉ job, scans := s.scans.filter fun x => !(x.header ∈ images),
           holds := s.holds.filter fun x => x.tenant ≠ t,
           snap := { s.snap with phase := 0, moduleCut := false, onPaths := [], paths := [], armed := [], cur := {}, old := none, held := [] } }

/-- A request that a 48-byte entry of the request block gives (R387): a COLL starts again, a SEND or RECV goes on. -/
def entryReq (pc root : Word64) (born ticket fmtn : Nat) (bs : List Byte) : Option (Bool × Req) :=
  let g (o n : Nat) : Nat := ofBytes ((bs.drop o).take n)
  let d := g 8 8
  let a := g 16 8
  let b := g 24 8
  let sub := field (g 1 1) 0 3
  let sg : Signal := { sem := BitVec.ofNat 5 (g 2 1), sig := bitAt (g 2 1) 7 }
  let mk (op : ReqOp) (done sent : Nat) : Option (Bool × Req) :=
    some (bitAt (g 1 1) 7, { op := op, sg := sg, pc := pc, root := root, born := born, ticket := ticket, fmtn := fmtn, done := done, sent := sent })
  match g 0 1 with
  | 0x0C => mk (.coll sub (field b 60 4) (field b 54 6) (field b 52 2) (field b 46 6) (field b 32 14) (field b 0 32) d a) 0 0
  | 0x0D => mk (.send (sub = 1) (field d 60 4) (field d 54 6) (field d 40 14) a b) (g 32 8) (ceilDiv (g 32 8) 112)
  | 0x0E => mk (.recv (sub = 1) (field d 60 4) (field d 54 6) (field d 40 14) a b) (g 40 8) 0
  | _ => none

/-- Step 5 for one context: the image is restored on core `c`, with the requests of its block (R387, R391). -/
def State.rollContext (s : State) (c a : Nat) (t : Task) (epoch : Nat) : State :=
  let spad := s.areaNat a 0x400 8 % 16
  let size := imageSize spad
  let pages := s.areaPages a ((size + 1536 + 65535) / 65536)
  let pc : Word64 := BitVec.ofNat 64 (s.areaNat a 8 8)
  let s := s.restoreContext c pages a t
  let s := s.hardWrite (imageAt pages a 0x18) (toBytes 8 0)
  let free : Word64 := BitVec.ofNat 64 (s.freeVal 0)
  let entries := (List.range 32).map fun i => (List.range 48).map fun j => s.byte (imageAt pages a (size + 48 * i + j))
  (s.onCore c fun k =>
    let k := entries.foldl (fun (k : Core) bs =>
      match entryReq free (k.csrGet Csr.VMROOT) s.histNext k.tickets (k.csrGet Csr.FMTN).toNat bs with
      | some (e, r) => { k.setEng e { k.eng e with reqs := (k.eng e).reqs ++ [r.ofGroup s] } with tickets := k.tickets + 1 }
      | none => k) { k with task := some { t with header := 0 } }
    let k := k.csrPut Csr.SNAPEP (BitVec.ofNat 64 epoch)
    { k with main := { k.main with pc := pc }, level := 0,
             notice := { k.notice with rollback := if k.csrGet Csr.RBENTRY = 0 then none else some (BitVec.ofNat 64 epoch) } }).drew 1

/-- Step 5 for the graphs: node words and spawned records from the graph images, in launch order (R389). -/
def State.rollGraphs (s : State) (a : Nat) (cut : CutInfo) : (gs : List (Nat × Graph)) → (off : Nat) → State
  | [], _ => s
  | (g, x) :: rest, off =>
    let count := s.areaNat a (off + 8) 4
    let spawnedN := s.areaNat a (off + 14) 4
    let word (i : Nat) : Nat := s.areaNat a (off + 32 + 4 * i) 4
    let old (i : Nat) : TNode := (Map.find x.nodes i).getD { record := 0, counter := 0 }
    let base := s.areaNat a off 8
    let nodes : Map TNode := (List.range count).map fun i =>
      (i, { old i with record := s.nodeAt base i, counter := field (word i) 0 30, state := field (word i) 30 2 })
    let keys := (x.nodes.filter fun m => count ≤ m.1 && m.2.state ≠ 3).map (·.1)
    let sp (j : Nat) : Nat := off + 32 + 4 * count + 260 * j
    let spawned : Map TNode := (List.range spawnedN).map fun j =>
      let i := keys.getD j (count + j)
      (i, { old i with record := BitVec.ofNat 2048 (s.areaNat a (sp j) 256), counter := 0, state := field (s.areaNat a (sp j + 256) 4) 30 2 })
    let flags := s.areaNat a (off + 13) 1
    let x' : Graph := { x with base := base, count := count, port := s.areaNat a (off + 12) 1 = 1, failed := bitAt flags 0, nodes := nodes ++ spawned }
    (s.putGraph g x').rollGraphs a cut rest (sp spawnedN)

/-- The channel records are delivered in sequence order, but those of a COLL, which starts again (R391). -/
def State.rollChannel (s : State) (a off : Nat) : (n i : Nat) → State
  | 0, _ => s
  | n + 1, i =>
    let f := flitOf ((List.range 128).map fun j => BitVec.ofNat 8 (s.areaNat a (off + 144 * i + 16 + j) 1))
    let s := if s.collBusy f.group f.tag then s else s.deliverFlit none f
    s.rollChannel a off n (i + 1)

/-- The module cut that a manifest records. -/
def State.cutOf (s : State) (a : Nat) : CutInfo := (s.snap.cuts.find? fun x => x.addr = a).getD { addr := a, tasks := [], graphs := [], inbound := [] }

/-- Step 4: rollback markers go out, and each member link is held until its own arrives (R391). -/
def State.rollMarkers (s : State) (epoch : Nat) : State :=
  let ls := s.memberLinks
  let mark (x : Nat × Link) : Nat × Link :=
    if x.1 ∈ ls then (x.1, { x.2 with marker := false, rollback := x.2.rbMarker ≠ some epoch, rbMarker := none }) else x
  { s with links := s.links.map mark, out := s.out ++ ls.map fun l => (l, s.markerFlit true epoch l) }

/-- The task of core `c` at the cut; a manifest that another module wrote names none, and the core's task is one of no graph (log 31). -/
def State.cutTask (s : State) (cut : CutInfo) (c : Nat) : Task :=
  match cut.tasks.find? fun x => x.1 = c with
  | some x => x.2
  | none => { tenant := s.snapTenant, graph := 2 ^ 64, node := 0, prio := 0 }

/-- Step 5 for the context list entry at byte `at_` of the manifest `m`: the image it names is restored (R389, R391). -/
def State.rollEntry (s : State) (cut : CutInfo) (m : OldManif) (at_ : Nat) : State :=
  let p := field (s.ctlGet (Ctl.LCMAP (s.areaNat m.addr at_ 2))).toNat 0 9
  match s.areaNat m.addr (at_ + 8) 8 with
  | 0 => s
  | img + 1 => s.rollContext p (img + 1) (s.cutTask cut (s.areaNat m.addr (at_ + 2) 2)) m.epoch

/-- Steps 1 to 6 of a rollback to the manifest `m`, whose checks have passed. -/
def State.rollTo (s : State) (m : OldManif) (later older : List OldManif) : State :=
  let cut := s.cutOf m.addr
  let gs := s.toRestore later
  let s := s.stopJob
  let s := gs.foldl (fun s g => match newestCopy older g with
    | some c => s.restoreGranule g c
    | none => s) s
  let s := later.foldl (fun s x => s.hardWrite (x.addr + 2) [4]) s
  let s := (s.ctlPut Ctl.SNAPLAST (BitVec.ofNat 64 m.addr)).rollMarkers m.epoch
  let s := { s with snap := { s.snap with epoch := m.epoch, passed := Map.put s.snap.passed s.snapTenant m.epoch } }
  let keep := cut.inbound.map fun (x : Inbound) => { x with taker := none }
  let s := { s with inbound := keep.filter fun x => !x.discard, saved := s.saved ++ cut.saved }
  let nctx := s.areaNat m.addr 40 4
  let ctx := s.areaNat m.addr 64 8
  let s := (List.range nctx).foldl (fun s i => s.rollEntry cut m (ctx + 16 * i)) s
  let s := s.rollGraphs m.addr cut cut.graphs (s.areaNat m.addr 72 8)
  let s := { s with inbound := s.inbound.filter fun x => !s.collBusy x.group x.tag }
  let s := s.rollChannel m.addr (s.areaNat m.addr 56 8) (s.areaNat m.addr 36 4) 0
  s.rollStatus 2

/-- ROLLBACK: OP = 1 written to ROLLCTL starts the checks and, when they pass, the six steps (R391). -/
def State.rollback (s : State) (v : Word64) : State :=
  if field v.toNat 62 2 ≠ 1 then s
  else if s.snap.phase = 1 then s.rollStatus 6
  else
    let e := (s.ctlGet Ctl.ROLLEP).toNat
    let ms := s.chain 16777216 (s.ctlGet Ctl.SNAPLAST).toNat
    let later := ms.takeWhile fun m => m.epoch ≠ e
    let older := ms.dropWhile fun m => m.epoch ≠ e
    match older with
    | [] => s.rollStatus 3
    | m :: _ =>
      if m.st ≠ 1 then s.rollStatus 4
      else if (s.toRestore later).any fun g => (newestCopy older g).isNone then s.rollStatus 5
      else s.rollTo m later older

end Sys2Proof.Machine
end

