-- ==== Sys2Proof/Machine/Iommu.lean ====
section
/-! DEFINITION. The IOMMU (R421): the RISC-V IOMMU of version 1.0 with what R421 supports: its registers, the device directory in both
formats, Sv57 and Sv57x4 translation, MSI translation in flat mode, its queues and its held translations. The layouts and codes are that
specification's (PRESUMED, log 27). -/

namespace Sys2Proof.Machine

open Sys2Proof

/-! ### Registers -/

/-- Offset `o` of the control-die range lies in the IOMMU's window (R104). -/
def ioWindow (o : Nat) : Bool := 0x1000000 ≤ o && o < 0x1001000

/-- capabilities: version 1.0, Sv57, Sv57x4, MSI_FLAT, interrupts as MSIs, 52-bit physical addresses. -/
def ioCaps : Nat := 0x10 + 2 ^ 11 + 2 ^ 19 + 2 ^ 22 + 52 * 2 ^ 32
/-- The reset value of the doubleword at offset `o` of the window. -/
def ioReset (o : Nat) : Word64 := if o = 0 then BitVec.ofNat 64 ioCaps else 0
/-- The doubleword at offset `o` of the window. -/
def State.ioGet (s : State) (o : Nat) : Word64 := Map.get (ioReset o) s.iommu.regs o
/-- The state with that doubleword holding `v`. -/
def State.ioPut (s : State) (o : Nat) (v : Word64) : State :=
  { s with iommu := { s.iommu with regs := Map.set (ioReset o) s.iommu.regs o v } }

/-- One of the three queues: where its base, its head and tail, and its control bits stand, and its bit of ipsr. -/
structure IoQueue where
  base : Nat
  ends : Nat
  csr : Nat
  /-- The control bits are the high half of their doubleword. -/
  high : Bool
  bit : Nat

/-- The command, fault and page-request queues. -/
def ioCommands : IoQueue := ⟨0x18, 0x20, 0x48, false, 0⟩
def ioFaults : IoQueue := ⟨0x28, 0x30, 0x48, true, 1⟩
def ioPages : IoQueue := ⟨0x38, 0x40, 0x50, false, 3⟩

/-- The entries of a queue, and the physical address of its first. -/
def State.ioSize (s : State) (q : IoQueue) : Nat := 2 ^ (field (s.ioGet q.base).toNat 0 5 + 1)
def State.ioBase (s : State) (q : IoQueue) : Nat := field (s.ioGet q.base).toNat 10 44 * 4096
/-- Its head and its tail. -/
def State.ioHead (s : State) (q : IoQueue) : Nat := field (s.ioGet q.ends).toNat 0 32
def State.ioTail (s : State) (q : IoQueue) : Nat := field (s.ioGet q.ends).toNat 32 32
def State.ioSetEnds (s : State) (q : IoQueue) (head tail : Nat) : State := s.ioPut q.ends (BitVec.ofNat 64 (head + tail * 2 ^ 32))
/-- Its control and status bits. -/
def State.ioCsr (s : State) (q : IoQueue) : Nat := field (s.ioGet q.csr).toNat (if q.high then 32 else 0) 32
def State.ioSetCsr (s : State) (q : IoQueue) (v : Nat) : State :=
  s.ioPut q.csr (BitVec.ofNat 64 (setField (s.ioGet q.csr).toNat (if q.high then 32 else 0) 32 v))

/-! ### Memory and messages -/

/-- A doubleword that the IOMMU reads: none of local HBM is an access fault, poison is corruption (`true`). -/
def State.ioWord (s : State) (a : Nat) : Except Bool Nat :=
  if s.place a ≠ .hbm then .error false
  else if s.poisoned a 8 || s.lostIn a 8 then .error true
  else .ok (ofBytes ((List.range 8).map fun i => s.coreByte (a + i)))

/-- Bytes that the IOMMU writes into local HBM; none elsewhere. -/
def State.ioStore (s : State) (a : Nat) (bs : List Byte) : Option State :=
  if s.place a ≠ .hbm then none else some (s.memAccess { dev := 1, op := .store, addr := a, data := bs })

/-- The MSI of vector `v`: held while its mask bit is set; into memory, or into an IMSIC file, which the general cores see. -/
def State.ioMsi (s : State) (v : Nat) : State :=
  let a := (s.ioGet (0x300 + 16 * v)).toNat
  let d := (s.ioGet (0x308 + 16 * v)).toNat
  if bitAt d 32 then { s with iommu := { s.iommu with masked := NatSet.insert s.iommu.masked v } }
  else match s.ioStore a (toBytes 4 d) with
    | some s => s
    | none => { s with iommu := { s.iommu with sent := s.iommu.sent ++ [(a, field d 0 32)] } }

/-- Interrupt source `b` of ipsr becomes pending; its vector's message goes out when it was not. -/
def State.ioRaise (s : State) (b : Nat) : State :=
  let v := (s.ioGet 0x50).toNat
  if bitAt v (32 + b) then s
  else (s.ioPut 0x50 (BitVec.ofNat 64 (setField v (32 + b) 1 1))).ioMsi (field (s.ioGet 0x2F8).toNat (4 * b) 4)

/-- An error bit of a queue is set, and its interrupt where IE has it. -/
def State.ioError (s : State) (q : IoQueue) (b : Nat) : State :=
  let c := s.ioCsr q
  let s := s.ioSetCsr q (setField c b 1 1)
  if bitAt c 1 then s.ioRaise q.bit else s

/-! ### The fault queue -/

/-- A fault: its cause, and what iotval2 holds. -/
structure IoFault where
  cause : Nat
  val2 : Nat := 0

/-- The transaction type of a request. -/
def ioType (r : BusAccess) : Nat :=
  if r.ats = 1 then 8
  else (if r.op = .load then (if r.exec then 1 else 2) else 3) + (if r.ats = 2 then 4 else 0)

/-- A fault record enters the fault queue; without room or after an error it is lost. -/
def State.ioRecord (s : State) (r : BusAccess) (f : IoFault) : State :=
  let q := ioFaults
  let c := s.ioCsr q
  let tail := s.ioTail q
  let next := (tail + 1) % s.ioSize q
  if !bitAt c 16 || field c 8 2 ≠ 0 then s
  else if next = s.ioHead q then s.ioError q 9
  else
    let pid := r.pasid.getD 0
    let w0 := f.cause + pid % 2 ^ 20 * 2 ^ 12 + bit r.pasid.isSome * 2 ^ 32 + bit (r.pasid.isSome && r.priv) * 2 ^ 33 + ioType r * 2 ^ 34
      + (r.dev - 1) % 2 ^ 24 * 2 ^ 40
    match s.ioStore (s.ioBase q + 32 * tail) (toBytes 8 w0 ++ toBytes 8 0 ++ toBytes 8 r.addr ++ toBytes 8 f.val2) with
    | none => s.ioError q 8
    | some s =>
      let s := s.ioSetEnds q (s.ioHead q) next
      if bitAt c 1 then s.ioRaise q.bit else s

/-! ### Translation -/

/-- What a request does at an address: it fetches code, reads or writes. -/
inductive IoKind where
  | exec | read | write
deriving DecidableEq, Repr

/-- The causes of a page fault, an access fault and a guest page fault, and the permission bit. -/
def IoKind.page : IoKind → Nat | .exec => 12 | .read => 13 | .write => 15
def IoKind.access : IoKind → Nat | .exec => 1 | .read => 5 | .write => 7
def IoKind.guest : IoKind → Nat | .exec => 20 | .read => 21 | .write => 23
def IoKind.bit : IoKind → Nat | .exec => 3 | .read => 1 | .write => 2

/-- What an entry at level `l` of a page table says of an address: a further table, a leaf with its permissions, or a fault. -/
inductive IoPte where
  | next (ppn : Nat)
  | leaf (pa perm : Nat)
  | bad

/-- A page-table entry read (Sv57, Svnapot). -/
def ioPte (l e va : Nat) : IoPte :=
  let size := 12 + 9 * l
  if !bitAt e 0 || (bitAt e 2 && !bitAt e 1) || field e 54 9 ≠ 0 then .bad
  else if !bitAt e 1 && !bitAt e 3 then (if bitAt e 63 || bitAt e 4 || bitAt e 6 || bitAt e 7 then .bad else .next (field e 10 44))
  else if bitAt e 63 then (if l = 0 && field e 10 4 = 8 then .leaf (field e 14 40 * 2 ^ 16 + va % 2 ^ 16) (e % 256) else .bad)
  else if field e 10 (9 * l) ≠ 0 then .bad
  else .leaf (field e 10 44 * 2 ^ 12 + va % 2 ^ size) (e % 256)

/-- A leaf admits the access: its permission, U, A, and D for a write. -/
def ioPermits (k : IoKind) (perm : Nat) : Bool := bitAt perm k.bit && bitAt perm 6 && (k ≠ .write || bitAt perm 7)

/-- The fault of a table entry that cannot be read. -/
def ioReadFault (k : IoKind) (corrupt : Bool) : IoFault := { cause := if corrupt then 274 else k.access }

/-- The second-stage walk of guest-physical address `gpa` for an access of kind `k`, with permission `need`; `val2` goes into iotval2. -/
def State.ioGuestFrom (s : State) (k need : IoKind) (gpa val2 : Nat) : (l ppn : Nat) → Except IoFault Nat
  | 0, _ => .error ⟨k.guest, val2⟩
  | l + 1, ppn =>
    match s.ioWord (ppn * 4096 + 8 * field gpa (12 + 9 * l) (if l = 4 then 11 else 9)) with
    | .error c => .error (ioReadFault k c)
    | .ok e => match ioPte l e gpa with
      | .bad => .error ⟨k.guest, val2⟩
      | .next p => s.ioGuestFrom k need gpa val2 l p
      | .leaf pa perm => if ioPermits need perm && bitAt perm 4 then .ok pa else .error ⟨k.guest, val2⟩

/-- The second stage under `hgatp`: Bare or Sv57x4. -/
def State.ioGuest (s : State) (hgatp : Nat) (k need : IoKind) (gpa val2 : Nat) : Except IoFault Nat :=
  if field hgatp 60 4 = 0 then .ok gpa
  else if 2 ^ 59 ≤ gpa then .error ⟨k.guest, val2⟩
  else s.ioGuestFrom k need gpa val2 5 (field hgatp 0 44)

/-- The first-stage walk of `va`: the guest-physical address and the leaf's permissions. Its tables lie in guest-physical memory. -/
def State.ioFirstFrom (s : State) (hgatp : Nat) (k : IoKind) (va : Nat) : (l ppn : Nat) → Except IoFault (Nat × Nat)
  | 0, _ => .error ⟨k.page, 0⟩
  | l + 1, ppn =>
    let g := ppn * 4096 + 8 * field va (12 + 9 * l) 9
    match s.ioGuest hgatp k .read g (g + 1) with
    | .error f => .error f
    | .ok a => match s.ioWord a with
      | .error c => .error (ioReadFault k c)
      | .ok e => match ioPte l e va with
        | .bad => .error ⟨k.page, 0⟩
        | .next p => s.ioFirstFrom hgatp k va l p
        | .leaf pa perm => if ioPermits k perm && bitAt perm 4 then .ok (pa, perm) else .error ⟨k.page, 0⟩

/-- The first stage under `satp`: Bare or Sv57. -/
def State.ioFirst (s : State) (satp hgatp : Nat) (k : IoKind) (va : Nat) : Except IoFault (Nat × Nat) :=
  if field satp 60 4 = 0 then .ok (va, 0)
  else if field va 57 7 ≠ (if bitAt va 56 then 127 else 0) then .error ⟨k.page, 0⟩
  else s.ioFirstFrom hgatp k va 5 (field satp 0 44)

/-! ### The device directory -/

/-- The format of device contexts: extended with MSI_FLAT, else base. -/
def State.ioExtended (s : State) : Bool := bitAt (s.ioGet 0).toNat 22
/-- The directory index of a device at level `i`. -/
def ioIndex (extended : Bool) (did i : Nat) : Nat :=
  let first := if extended then 6 else 7
  match i with
  | 0 => field did 0 first
  | 1 => field did first 9
  | _ => field did (first + 9) (15 - first)

/-- A device context that is misconfigured: reserved bits, or what the IOMMU does not support (ATS, PRI, process directories, hardware
updates of A and D, other page-table formats). -/
def IoDevice.bad (d : IoDevice) : Bool :=
  field d.tc 1 3 ≠ 0 || field d.tc 6 3 ≠ 0 || field d.tc 10 54 ≠ 0 || (bitAt d.tc 9 && !bitAt d.tc 5)
    || (bitAt d.tc 5 && field d.fsc 60 4 ≠ 0) || !(field d.hgatp 60 4 = 0 || field d.hgatp 60 4 = 10)
    || (field d.hgatp 60 4 = 10 && field d.hgatp 0 2 ≠ 0) || field d.ta 0 12 ≠ 0 || field d.ta 32 32 ≠ 0
    || !(field d.fsc 60 4 = 0 || field d.fsc 60 4 = 10) || field d.fsc 44 16 ≠ 0
    || 1 < field d.msiptp 60 4 || field d.msiptp 44 16 ≠ 0 || field d.mask 52 12 ≠ 0 || field d.pattern 52 12 ≠ 0

/-- The doublewords at `a`, or the fault of a directory entry that cannot be read. -/
def State.ioWords (s : State) (a n : Nat) : Except IoFault (List Nat) :=
  (List.range n).foldr (fun i r => match s.ioWord (a + 8 * i), r with
    | .ok w, .ok ws => .ok (w :: ws)
    | .error c, _ => .error { cause := if c then 268 else 257 }
    | _, .error f => .error f) (.ok [])

/-- The device context of `did` from the table at `ppn`, whose level is `l`. -/
def State.ioDirectory (s : State) (did : Nat) : (l ppn : Nat) → Except IoFault IoDevice
  | 0, ppn =>
    let n := if s.ioExtended then 8 else 4
    match s.ioWords (ppn * 4096 + 8 * n * ioIndex s.ioExtended did 0) n with
    | .error f => .error f
    | .ok ws =>
      let w (i : Nat) : Nat := ws.getD i 0
      let d : IoDevice := ⟨w 0, w 1, w 2, w 3, w 4, w 5, w 6⟩
      if !bitAt d.tc 0 then .error { cause := 258 } else if d.bad || w 7 ≠ 0 then .error { cause := 259 } else .ok d
  | l + 1, ppn => match s.ioWords (ppn * 4096 + 8 * ioIndex s.ioExtended did (l + 1)) 1 with
    | .error f => .error f
    | .ok ws =>
      let e := ws.getD 0 0
      if !bitAt e 0 then .error { cause := 258 }
      else if field e 1 9 ≠ 0 || field e 54 10 ≠ 0 then .error { cause := 259 }
      else s.ioDirectory did l (field e 10 44)

/-! ### MSI translation (flat mode) -/

/-- The bits of `a` that `mask` selects, packed. -/
def ioExtract (a mask : Nat) : Nat :=
  ((List.range 52).foldl (fun (r : Nat × Nat) i => if bitAt mask i then (r.1 + bit (bitAt a i) * 2 ^ r.2, r.2 + 1) else r) (0, 0)).1

/-- Guest-physical address `gpa` is one of the device's MSI pages. -/
def IoDevice.isMsi (d : IoDevice) (gpa : Nat) : Bool :=
  field d.msiptp 60 4 = 1 && (gpa / 4096) ||| d.mask = d.pattern ||| d.mask

/-- The physical address that the flat MSI page table gives: an entry in basic mode. -/
def State.ioMsiPage (s : State) (d : IoDevice) (k : IoKind) (gpa : Nat) : Except IoFault Nat :=
  let a := field d.msiptp 0 44 * 4096 + 16 * ioExtract (gpa / 4096) d.mask
  if k = .exec then .error { cause := 1 }
  else match s.ioWord a, s.ioWord (a + 8) with
    | .ok e, .ok x =>
      if !bitAt e 0 then .error { cause := 262 }
      else if field e 1 2 ≠ 3 || field e 3 7 ≠ 0 || field e 54 10 ≠ 0 || x ≠ 0 then .error { cause := 263 }
      else .ok (field e 10 44 * 4096 + gpa % 4096)
    | .error c, _ => .error { cause := if c then 270 else 261 }
    | _, .error c => .error { cause := if c then 270 else 261 }

/-! ### A device's request -/

/-- The translation that the device context gives `va`: the physical address and what may be held of it. -/
def State.ioWalk (s : State) (d : IoDevice) (k : IoKind) (va : Nat) : Except IoFault (Nat × Option IoHeld) :=
  match s.ioFirst d.fsc d.hgatp k va with
  | .error f => .error f
  | .ok (gpa, perm) =>
    if d.isMsi gpa then (s.ioMsiPage d k gpa).map fun pa => (pa, none)
    else match s.ioGuest d.hgatp k k gpa (gpa / 4 * 4) with
      | .error f => .error f
      | .ok pa => .ok (pa, some { gscid := if field d.hgatp 60 4 = 0 then none else some (field d.hgatp 44 16),
                                  pscid := if field d.fsc 60 4 = 0 then none else some (field d.ta 12 20),
                                  page := va / 4096, gpage := gpa / 4096, ppage := pa / 4096, kind := k.bit, global := bitAt perm 5 })

/-- A translation that the IOMMU holds and may use for `va`. -/
def State.ioFind (s : State) (d : IoDevice) (k : IoKind) (va : Nat) : Option Nat :=
  (s.iommu.held.find? fun e => e.page = va / 4096 && e.kind = k.bit
    && e.gscid = (if field d.hgatp 60 4 = 0 then none else some (field d.hgatp 44 16))
    && (match e.pscid with
      | none => field d.fsc 60 4 = 0
      | some p => field d.fsc 60 4 ≠ 0 && (e.global || p = field d.ta 12 20))).map fun e => e.ppage * 4096 + va % 4096

/-- What comes of a device's request of the address it presents: the physical address, or the fault and whether it is reported. Where the
IOMMU holds a device context or a translation, a free value says whether it uses that or the tables as they are. -/
def State.ioRequest (s : State) (r : BusAccess) : State × Except (IoFault × Bool) Nat :=
  let mode := field (s.ioGet 0x10).toNat 0 4
  let did := (r.dev - 1) % 2 ^ 24
  let k : IoKind := if r.op ≠ .load then .write else if r.exec then .exec else .read
  if mode = 0 then (s, .error ({ cause := 256 }, true))
  else if mode = 1 then (s, if r.ats ≠ 0 then .error ({ cause := 260 }, true) else .ok r.addr)
  else
    let levels := mode - 2
    if (levels < 2 && ioIndex s.ioExtended did 2 ≠ 0) || (levels < 1 && ioIndex s.ioExtended did 1 ≠ 0) then (s, .error ({ cause := 260 }, true))
    else
      let held := if s.freeVal 0 % 2 = 1 then Map.find s.iommu.devices did else none
      match ((match held with | some d => .ok d | none => s.ioDirectory did levels (field (s.ioGet 0x10).toNat 10 44)) : Except IoFault IoDevice) with
      | .error f => (s.drew 2, .error (f, true))
      | .ok d =>
        let s := { s with iommu := { s.iommu with devices := Map.put s.iommu.devices did d } }
        let report (f : IoFault) : Bool := !bitAt d.tc 4 || f.cause = 273
        if r.ats ≠ 0 || (r.pasid.isSome && !bitAt d.tc 5) then (s.drew 2, .error ({ cause := 260 }, report { cause := 260 }))
        else match (if s.freeVal 1 % 2 = 1 then s.ioFind d k r.addr else none) with
          | some pa => (s.drew 2, .ok pa)
          | none => match s.ioWalk d k r.addr with
            | .error f => (s.drew 2, .error (f, report f))
            | .ok (pa, e) => ({ s with iommu := { s.iommu with held := e.toList ++ s.iommu.held } }.drew 2, .ok pa)

/-! ### Commands -/

/-- IOTINVAL.VMA and IOTINVAL.GVMA: a held translation that command `w0`, `w1` does not drop. -/
def ioKeeps (w0 w1 : Nat) (e : IoHeld) : Bool :=
  let page := field w1 10 52
  let guest := field w0 7 3 = 1
  let space : Bool := if bitAt w0 33 then e.gscid = some (field w0 44 16) else if guest then e.gscid.isSome else e.gscid.isNone
  if guest then !(space && (!bitAt w0 10 || e.pscid.isSome || e.gpage = page))
  else !(space && e.pscid.isSome && (!bitAt w0 32 || (!e.global && e.pscid = some (field w0 12 20))) && (!bitAt w0 10 || e.page = page))

/-- The effect of a command of two doublewords: none where it is illegal, else the state, or that of a store that fails (`false`). -/
def State.ioCommand (s : State) (w0 w1 : Nat) : Option (State × Bool) :=
  match field w0 0 7, field w0 7 3 with
  | 1, f =>
    if 1 < f || field w0 11 1 ≠ 0 || field w0 34 10 ≠ 0 || field w0 60 4 ≠ 0 || (f = 1 && bitAt w0 32) || field w1 0 10 ≠ 0 || field w1 62 2 ≠ 0 then none
    else some ({ s with iommu := { s.iommu with held := s.iommu.held.filter (ioKeeps w0 w1) } }, true)
  | 2, 0 =>
    if bitAt w0 11 || field w0 14 18 ≠ 0 || field w1 62 2 ≠ 0 then none
    else if !bitAt w0 10 then some (s, true)
    else match s.ioStore (field w1 0 62 * 4) (toBytes 4 (field w0 32 32)) with
      | some s => some (s, true)
      | none => some (s, false)
  | 3, 0 =>
    if field w0 10 23 ≠ 0 || field w0 34 6 ≠ 0 || w1 ≠ 0 then none
    else some ({ s with iommu := { s.iommu with
      devices := if bitAt w0 33 then Map.erase s.iommu.devices (field w0 40 24) else [] } }, true)
  | _, _ => none

/-- The command queue has a command to fetch: it is on, no error stops it, and it is not empty. -/
def State.ioDue (s : State) : Bool :=
  s.iommu.regs ≠ [] && bitAt (s.ioCsr ioCommands) 16 && field (s.ioCsr ioCommands) 8 3 = 0 && s.ioHead ioCommands ≠ s.ioTail ioCommands

/-- The IOMMU fetches and performs the next command. -/
def State.ioTurn (s : State) : State :=
  if !s.ioDue then s
  else
    let q := ioCommands
    let a := s.ioBase q + 16 * s.ioHead q
    match s.ioWord a, s.ioWord (a + 8) with
    | .ok w0, .ok w1 => match s.ioCommand w0 w1 with
      | none => s.ioError q 10
      | some (s, false) => s.ioError q 8
      | some (s, true) => s.ioSetEnds q ((s.ioHead q + 1) % s.ioSize q) (s.ioTail q)
    | _, _ => s.ioError q 8

/-! ### A write of a register -/

/-- The control bits of a queue written with `v`, of which the access covers `w`: enabling it empties it and clears its errors. -/
def State.ioControl (s : State) (q : IoQueue) (v w : Nat) : State :=
  let old := s.ioCsr q
  let en := bitAt v 0
  if en && !bitAt old 0 then
    let s := if q.bit = 0 then s.ioSetEnds q 0 (s.ioTail q) else s.ioSetEnds q (s.ioHead q) 0
    s.ioSetCsr q (v % 4 + 2 ^ 16)
  else
    let errs := (List.range 4).foldl (fun m i => if bitAt old (8 + i) && !bitAt (v &&& w) (8 + i) then m + 2 ^ (8 + i) else m) 0
    s.ioSetCsr q (v % 4 + errs + (if en then 2 ^ 16 else 0))

/-- The doubleword at offset `o` of the window written: `v` is its whole image and `w` the bits that the access covers. -/
def State.ioWrite (s : State) (o : Nat) (v w : Word64) : State :=
  let x := v.toNat
  let low : Bool := w.getLsbD 0
  let high : Bool := w.getLsbD 32
  match o with
  | 0x10 => if 4 < x % 16 then s.ioPut o ((s.ioGet o &&& 0xF) ||| (v &&& 0x3FFFFFFFFFFC00)) else s.ioPut o (v &&& 0x3FFFFFFFFFFC0F)
  | 0x18 => s.ioPut o (v &&& 0x3FFFFFFFFFFC1F)
  | 0x28 => s.ioPut o (v &&& 0x3FFFFFFFFFFC1F)
  | 0x38 => s.ioPut o (v &&& 0x3FFFFFFFFFFC1F)
  | 0x20 => if high then s.ioSetEnds ioCommands (s.ioHead ioCommands) (field x 32 32 % s.ioSize ioCommands) else s
  | 0x30 => if low then s.ioSetEnds ioFaults (field x 0 32 % s.ioSize ioFaults) (s.ioTail ioFaults) else s
  | 0x40 => if low then s.ioSetEnds ioPages (field x 0 32 % s.ioSize ioPages) (s.ioTail ioPages) else s
  | 0x48 =>
    let s := if low then s.ioControl ioCommands (field x 0 32) (field w.toNat 0 32) else s
    if high then s.ioControl ioFaults (field x 32 32) (field w.toNat 32 32) else s
  | 0x50 =>
    let s := if low then s.ioControl ioPages (field x 0 32) (field w.toNat 0 32) else s
    if high then
      let s := s.ioPut o (s.ioGet o &&& ~~~(v &&& w &&& 0xF00000000))
      [ioCommands, ioFaults, ioPages].foldl (fun s q => if bitAt (s.ioCsr q) 1 && field (s.ioCsr q) 8 4 ≠ 0 then s.ioRaise q.bit else s) s
    else s
  | 0x2F8 => s.ioPut o (v &&& 0xFFFF)
  | _ =>
    if o < 0x300 || 0x400 ≤ o then s
    else if o % 16 = 0 then s.ioPut o (v &&& 0xFFFFFFFFFFFFFC)
    else
      let n := (o - 0x300) / 16
      let s := s.ioPut o (v &&& 0x1FFFFFFFF)
      if n ∈ s.iommu.masked && !bitAt x 32 then { s with iommu := { s.iommu with masked := NatSet.remove s.iommu.masked n } }.ioMsi n else s

end Sys2Proof.Machine
end

