-- ==== Sys2Proof/Machine/Host.lean ====
section
/-! DEFINITION. The control-die registers as they are read and written, the control ports and CSEM, invalidations, replies to
compute cores, boot, resets and pins, and the accesses of general cores and devices (R5, R104, R110, R279, R302, R322, R419 to
R432). -/

namespace Sys2Proof.Machine

open Sys2Proof

/-! ### Reading a register (R104) -/

/-- The doubleword at offset `o` of the control-die range; a device's register reads as free value `pick`. -/
def State.ctlRead (s : State) (o pick : Nat) : Word64 :=
  if o < 0x1000 then capWord o
  else if ioWindow o then s.ioGet (o - 0x1000000)
  else if ctlDevice o then BitVec.ofNat 64 (s.freeVal pick)
  else if inTab o 0x1180 16 then s.qlstat ((o - 0x1180) / 8)
  else if o = Ctl.SNAPST then s.snapst
  else s.ctlGet o

/-! ### Invalidations (R110, R279) -/

/-- XINVC is written with `v`: the invalidation starts, or waits for the one that runs (R110). -/
def State.xinv (s : State) (v : Word64) : State :=
  let v := v &&& ctlMask Ctl.XINVC
  if bitAt (s.ctlGet Ctl.XINVC).toNat 63 then { s with control := { s.control with xinvWait := s.control.xinvWait ++ [v] } }
  else { s with control := { s.control with xinvVa := s.ctlGet Ctl.XINVA, xinvAt := s.clk } }.ctlPut Ctl.XINVC (v ||| 0x8000000000000000)

/-- An access that had translated by cycle `t` has not landed yet: a write of an MSTOREC, a tile of an MPASSD, an atomic or a teller
call (R110). -/
def State.landing (s : State) (t : Nat) : Bool :=
  (s.sliceReqs.any fun r => r.cyc ≤ t)
    || s.cores.any fun e => (e.2.mstores.any fun m => m.cyc ≤ t) || e.2.passes.any fun p => p.start.isNone && p.cyc ≤ t

/-- A held translation that the invalidation covers (R110). -/
def xinvCovers (v va : Nat) (e : TlbEntry) : Bool :=
  (bitAt v 18 || (!e.global && e.asid = field v 19 16))
    && (bitAt v 17 || (field va 16 41 ≤ e.granule && e.granule < field va 16 41 + field v 0 17))

/-- An invalidation completes once the accesses that had translated before it have landed: no core holds a covered translation, BUSY
clears, and the next waiting write starts. -/
def State.xinvDone (s : State) : State :=
  let v := (s.ctlGet Ctl.XINVC).toNat
  if !bitAt v 63 || s.landing s.control.xinvAt then s
  else
    let va := s.control.xinvVa.toNat
    let code (l : CodeLine) : Bool := xinvCovers v va { asid := l.asid, global := false, granule := field l.va 16 41, pa := 0, perm := 0 }
    let drop (k : Core) : Core := { k with tlb := k.tlb.filter fun e => !xinvCovers v va e }.dropCode code
    let s := { s with cores := s.cores.map fun (x : Nat × Core) => (x.1, drop x.2) }.ctlPut Ctl.XINVC (BitVec.ofNat 64 (v % 2 ^ 63))
    match s.control.xinvWait with
    | [] => s
    | w :: ws => { s with control := { s.control with xinvWait := ws } }.xinv w

/-- TLINV is written with `v` (R279). -/
def State.tlinv (s : State) (v : Word64) : State :=
  let v := v &&& ctlMask Ctl.TLINV
  if bitAt (s.ctlGet Ctl.TLINV).toNat 63 then { s with control := { s.control with tlinvWait := s.control.tlinvWait ++ [v] } }
  else s.ctlPut Ctl.TLINV (v ||| 0x8000000000000000)

/-- A cached routine entry that the invalidation covers (R279), by its `routineKey`. -/
def tlinvCovers (v key : Nat) : Bool := (bitAt v 16 || field v 8 8 = key / 64 % 256) && (bitAt v 6 || field v 0 6 = key % 64)

/-- An invalidation of routine entries completes (R279); it waits for the holds that run. -/
def State.tlinvDone (s : State) : State :=
  let v := (s.ctlGet Ctl.TLINV).toNat
  if !bitAt v 63 || s.teller.isSome then s
  else
    let s := { s with routines := s.routines.filter fun e => !tlinvCovers v e.1 }.ctlPut Ctl.TLINV (BitVec.ofNat 64 (v % 2 ^ 63))
    match s.control.tlinvWait with
    | [] => s
    | w :: ws => { s with control := { s.control with tlinvWait := ws } }.tlinv w

/-! ### CSEM (R322) -/

/-- OWNER of CSEM: 0 none, 1 CP0, 2 CP1. -/
def State.csemOwner (s : State) : Nat := field (s.ctlGet Ctl.CSEM).toNat 0 2
/-- The code of a port. -/
def portCode (port : Bool) : Nat := if port then 2 else 1

/-- CSEM is granted to a port, in this cycle; `prev` owned it last. -/
def State.csemGrant (s : State) (port : Bool) (prev : Nat) : State :=
  { s with control := { s.control with lastOwner := bit port, prevOwner := prev, granted := s.clk } }.ctlPut Ctl.CSEM
    (BitVec.ofNat 64 (portCode port))

/-- A port acquires CSEM; while the other owns it, the request is dropped, but of two in one cycle the port that did not own CSEM last has
it (R322). -/
def State.csemAcquire (s : State) (port : Bool) : State :=
  let x := s.control
  if s.csemOwner = 0 then s.csemGrant port x.lastOwner
  else if s.csemOwner ≠ portCode port && x.granted = s.clk && x.prevOwner = x.lastOwner then s.csemGrant port x.prevOwner
  else s

/-- A port releases CSEM; a release by a port that is not the owner is dropped. -/
def State.csemRelease (s : State) (port : Bool) : State :=
  if s.csemOwner = portCode port then s.ctlPut Ctl.CSEM 0 else s

/-- A Quay Link has gone down while CP1 owns CSEM: CSEM falls free once every link that reaches the board controller or the peer module is
down (R322): which ones do, the spec leaves open, and a free value decides while some link is up (log 61). -/
def State.csemLinks (s : State) : State :=
  if s.csemOwner ≠ 2 then s
  else
    let free : Bool := (!s.links.any fun l => l.2.up) || s.freeVal 0 % 2 = 1
    (if free then s.ctlPut Ctl.CSEM 0 else s).drew 1

/-! ### Replies to compute cores (R346, R424) -/

/-- SEMRAISE (R424): the add goes to the task that holds the core, or after its image; else it is discarded. A raise of the semaphore that a
system call named answers its request (R318). -/
def State.semReply (s : State) (v : Word64) : State :=
  let c := field v.toNat 0 9
  let w : WReg := BitVec.ofNat 5 (field v.toNat 9 5)
  let n : BitVec 32 := BitVec.ofNat 32 (field v.toNat 32 32)
  if 319 < c then s
  else
    let k := s.core c
    let s := s.setCore c { k with syscOpen := k.syscOpen && k.syscSem ≠ w.toNat }
    if k.task.isSome then s.semRaise c 0 w n
    else if k.lastImage = 0 then s
    else s.semRaise c k.lastImage w n

/-- PGDONE of core `c` (R346, R424): the first write while a page-in is pending answers it. -/
def State.pageDone (s : State) (c : Nat) (v : Word64) : State :=
  let k := s.core c
  if k.pagein && k.pageinAns.isNone then (s.setCore c { k with pageinAns := some (v.getLsbD 0) }).ctlPut (Ctl.PGDONE c) (v &&& ctlMask (Ctl.PGDONE c))
  else s

/-! ### Boot (R428 to R431) -/

/-- The one-time-index record of fused key `key` (R430). -/
def State.putRecord (s : State) (key : Nat) (r : IndexRecord) : State :=
  { s with control := { s.control with records := Map.put s.control.records key r } }

/-- Verification of an image under fused key `key` (R429, R430), and whether it is accepted: the record's own check, the index, the digest
and the signatures are free values (log 28). A record that fails its check refuses every image from then on; the pair of an accepted image
is committed. -/
def State.verify (s : State) (key : Nat) : State × Bool :=
  let r := Map.get ({} : IndexRecord) s.control.records key
  let q := s.freeVal 0
  let digest := s.freeVal 1
  let signed : Bool := s.freeVal 2 % 2 = 1
  let whole : Bool := r.intact && decide (s.freeVal 3 % 2 = 1)
  let t := s.drew 4
  if !whole then (t.putRecord key { r with intact := false }, false)
  else if !signed then (t, false)
  else match r.pairs.find? fun p => p.1 = q with
    | some p => (t, p.2 = digest)
    | none =>
      if 4096 ≤ r.commits then (t, false)
      else (t.putRecord key { r with pairs := r.pairs ++ [(q, digest)], commits := r.commits + 1 }, true)

/-- Step 4: the OS image of one slot, or that of the other (R428). -/
def State.verifyOs (s : State) : State × Bool :=
  let r := s.verify 1
  if r.2 then r else r.1.verify 1

/-- BOOTST with a failed step, or DONE (R428). -/
def State.bootState (s : State) (v : Nat) : State := s.ctlPut Ctl.BOOTST (BitVec.ofNat 64 v)

/-- The next boot step (R428): 2 and 4 verify an image, 4 with the other slot to fall back on; whether another step fails is a
free value. A failed step stops the boot. -/
def State.bootTick (s : State) : State :=
  if s.ctlGet Ctl.BOOTST ≠ 0 then s
  else
    let n := s.control.bootStep + 1
    let took (s : State) : State := { s with control := { s.control with bootStep := n } }
    match n with
    | 2 => let r := s.verify 0
      if r.2 then took r.1 else r.1.bootState 2
    | 4 => let r := s.verifyOs
      if r.2 then took r.1 else r.1.bootState 4
    | 5 => ({ s with control := { s.control with bootStep := 5, hartsReset := false } }).bootState 256
    | _ => if s.freeVal 0 % 2 = 0 then (took s).drew 1 else (s.drew 1).bootState n

/-- OSRESTART (R431): the harts re-enter step 4 with a slot; where no slot verifies they stay in reset, and bits 7:0 of BOOTST record the
step beside DONE (R428). -/
def State.osRestart (s : State) (v : Word64) : State :=
  if !v.getLsbD 1 || !bitAt (s.ctlGet Ctl.BOOTST).toNat 8 then s
  else
    let s := s.ctlPut Ctl.OSRESTART (v &&& 1)
    let r := s.verifyOs
    let s := { r.1 with control := { r.1.control with hartsReset := !r.2 } }
    if r.2 then s else s.ctlPut Ctl.BOOTST ((s.ctlGet Ctl.BOOTST &&& 256) ||| 4)

/-- The board controller provisions the record of key `r` anew (R430). -/
def State.reprovision (s : State) (r : Nat) : State :=
  s.putRecord r { (Map.get ({} : IndexRecord) s.control.records r) with intact := true }

/-! ### Resets and pins (R432) -/

/-- PORST_N: the whole module at reset; the one-time-index records live in flash and fuses (R430), and what comes from outside afterwards
still comes. -/
def State.powerOn (s : State) : State := { State.reset with control := { records := s.control.records }, free := s.free, agenda := s.agenda }

/-- WARMRST_N: a reset that keeps the RWL fields (R5, R432). -/
def State.warm (s : State) : State :=
  let keep := s.ctl.filter fun e => e.1 = Ctl.MODID || e.1 = Ctl.PSTBASE
  { State.reset with ctl := keep, control := { records := s.control.records, locked := s.control.locked }, free := s.free, agenda := s.agenda }

/-! ### Writing a register (R5, R104, R322) -/

/-- The port by which a writer reaches the registers, if any (R322, R419). -/
def writerPort : Writer → Option Bool
  | .cp one => some one
  | .general => some false
  | .tender _ => none

/-- The RW bits of a register stored (R5). -/
def State.ctlStore (s : State) (o : Nat) (v : Word64) : State :=
  let m := ctlMask o
  s.ctlPut o ((s.ctlGet o &&& ~~~m) ||| (v &&& m))

/-- A write of a register of RWL fields (R5): each field that is not locked and of which the access covers some bits, `w`, takes those
bits and locks. -/
def State.ctlLock (s : State) (o : Nat) (v w : Word64) : State :=
  (List.range (ctlLocks o).length).foldl (fun s i =>
    let m := w &&& (ctlLocks o).getD i 0
    if m = 0 || o + i ∈ s.control.locked then s
    else { s with control := { s.control with locked := NatSet.insert s.control.locked (o + i) } }.ctlPut o ((s.ctlGet o &&& ~~~m) ||| (v &&& m))) s

/-- A tenant becomes VALID: its tenant frame starts at the module's FRAME (R328). -/
def State.tenantWrite (s : State) (o : Nat) (v : Word64) : State :=
  let n := (o - 0x4000) / 8
  let was := s.tenantValid n
  let s := s.ctlStore o v
  if !was && s.tenantValid n then { s with tenantFrame := Map.put s.tenantFrame n s.frame } else s

/-- HWQCFG of queue `n`: the write empties the queue (R337). -/
def State.hwqConfigure (s : State) (n : Nat) (v : Word64) : State := (s.ctlStore (Ctl.HWQCFG n) v).putHwq n {}

/-- OP of LNCTL (R323). -/
def State.launchOp (s : State) (port : Bool) (v : Word64) : State :=
  let s := s.ctlStore (Ctl.LNCTL (bit port)) v
  match field v.toNat 62 2 with
  | 1 => s.launch port v
  | 2 => s.resumeTask (field v.toNat 0 9)
  | 3 => s.discardTask (field v.toNat 0 9)
  | _ => s

/-- What a write that reaches register `o` does: `v` is the whole register's image and `w` the bits that the access covers. -/
def State.ctlEffect (s : State) (port : Bool) (o : Nat) (v w : Word64) : State :=
  if o = Ctl.CSEM then (match field (v &&& w).toNat 8 2 with
    | 1 => s.csemAcquire port
    | 2 => s.csemRelease port
    | _ => s)
  else if o = Ctl.LNCTL (bit port) then s.launchOp port v
  else if o = Ctl.LNCTL 0 || o = Ctl.LNCTL 1 then s
  else if o = Ctl.LNSTAT 0 || o = Ctl.LNSTAT 1 then s.ctlPut o (s.ctlGet o &&& ~~~(v &&& w &&& 0xC000000000000000))
  else if inTab o 0xE000 5 || inTab o 0xE040 5 || inTab o 0xE080 5 then s.ctlPut o (s.ctlGet o &&& ~~~(v &&& w))
  else if o = Ctl.XINVC then s.xinv v
  else if o = Ctl.TLINV then s.tlinv v
  else if o = Ctl.SEMRAISE then s.semReply v
  else if o = Ctl.OSRESTART then s.osRestart v
  else if o = Ctl.ROLLCTL then s.rollback v
  else if inTab o 0x3000 40 then (s.ctlStore o v).homeWaiting
  else if inTab o 0x4000 256 then s.tenantWrite o v
  else if inTab o 0x6000 64 then s.hwqConfigure ((o - 0x6000) / 8) v
  else if inTab o 0x8000 320 then s.lcmapWrite ((o - 0x8000) / 8) v
  else if inTab o 0xA000 320 then (match field v.toNat 61 2 with
    | 1 => s.endEscalation ((o - 0xA000) / 8) false
    | 2 => s.endEscalation ((o - 0xA000) / 8) true
    | _ => s)
  else if inTab o 0xC000 320 then (if w.getLsbD 0 then s.pageDone ((o - 0xC000) / 8) v else s)
  else if o = Ctl.MODID || o = Ctl.PSTBASE then s.ctlLock o v w
  else if inTab o (Ctl.QROUTE 0) 256 then (s.ctlStore o v).dropLost
  else s.ctlStore o v

/-- A write of `size` bytes at offset `off` (R5, R104, R322, R419): other sizes, unassigned offsets and the writes of a
compute core change nothing; a guarded register takes a write of the port that owns CSEM alone; CP1 does not write what a general
core alone writes. A dropped write sets DENIED. -/
def State.registerWrite (s : State) (src : Writer) (off size : Nat) (v : Word64) : State :=
  let o := off / 8 * 8
  if !(size = 4 || size = 8) || off % size ≠ 0 || !ctlAssigned o || (ctlDevice o && !ioWindow o) || o < 0x1000 then s
  else match (writerPort src) with
    | none => s
    | some port =>
      if (ctlGuarded o && s.csemOwner ≠ portCode port) || (ctlGeneral o && port) then s.lnFlag port 63
      else
        let w : Word64 := if size = 8 then 0xFFFFFFFFFFFFFFFF else BitVec.ofNat 64 ((2 ^ 32 - 1) <<< (8 * (off % 8)))
        let x : Word64 := if size = 8 then v else BitVec.ofNat 64 ((v.toNat % 2 ^ 32) <<< (8 * (off % 8)))
        if ioWindow o then s.ioWrite (o - 0x1000000) ((s.ioGet (o - 0x1000000) &&& ~~~w) ||| x) w
        else s.ctlEffect port o ((s.ctlGet o &&& ~~~w) ||| x) w

/-! ### Accesses of general cores and devices (R302, R419, R420) -/

/-- An access of a general core or, at a physical address, of a device (R302, R420): at the home slice for
memory, at the register for the control die. An access to a PCI Express window has its effect outside the module, a device's is
completed with Completer Abort. -/
def State.busAccess (s : State) (r : BusAccess) : State :=
  match s.place r.addr with
  | .hbm | .peer => s.arriveAccess r
  | .control =>
    if r.dev ≠ 0 || r.peer.isSome || r.op = .load then s
    else if r.op = .store then s.registerWrite .general (r.addr - Ctl.base) r.data.length (BitVec.ofNat 64 (ofBytes r.data))
    else s
  | _ => s

/-- A device's request (R420, R421): it has its effect at the address that the IOMMU gives it; a fault ends it, and goes to the fault queue.
PCI Express admits none that crosses a 4 KiB boundary, and one that does is dropped. -/
def State.deviceRequest (s : State) (r : BusAccess) : State :=
  if r.addr / 4096 ≠ (r.addr + r.data.length - 1) / 4096 then s
  else match s.ioRequest r with
    | (t, .ok pa) => t.busAccess { r with addr := pa }
    | (t, .error (f, report)) => if report then t.ioRecord r f else t

end Sys2Proof.Machine
end

