-- ==== Sys2Proof/Machine/Loads.lean ====
section
/-! DEFINITION. The loads and stores of the S and V slots, and the issue of atomics and teller calls (R121, R133 to R137, R274,
R275, R286, R287, R304, R362). -/

namespace Sys2Proof.Machine

open Sys2Proof

/-! ### Checks of an access (R107, R109, R121, R134) -/

/-- Control-die offset `o` may be read by the pipeline that issues: the capability list by a task, any register by the
tender (R104, R427). -/
def ctlReadable (sup : Bool) (o : Nat) : Bool := if sup then ctlAssigned o else o < 0x1000

/-- The DATA-FAULT of an access of `n` bytes at `ea`, if any: an invalid address, a failed translation, a place without a
home slice that this kind of access may not reach. -/
def Ctx.dataFault (x : Ctx) (kind : Access) (uncached : Bool) (ea n : Nat) : Option SlotFault :=
  let f (p : Bool) : SlotFault := { code := .dataFault, addr := BitVec.ofNat 64 ea, detail := kind.detail, pageable := p }
  if !vaValid ea then some (f false)
  else match x.s.translate x.c x.root x.sup kind ea with
    | .error e => some (f e.pageable)
    | .ok pa => match x.s.place pa with
      | .hbm => none
      | .peer => none
      | .control => if uncached && 4 ≤ n && kind ≠ .write && ctlReadable x.sup (pa - Ctl.base) then none else some (f false)
      | .pcie => if uncached && 4 ≤ n then none else some (f false)
      | .reserved => some (f false)

/-- The checks of a scalar access: the address, the alignment, the translation (R133). -/
def Ctx.accessFault (x : Ctx) (kind : Access) (ea n : Nat) : Option SlotFault :=
  if vaValid ea && ea % n ≠ 0 then alignIf true (BitVec.ofNat 64 ea) (kind = .write) else x.dataFault kind true ea n

/-- The physical address of an access that has passed its checks. -/
def Ctx.pa (x : Ctx) (kind : Access) (ea : Nat) : Nat := (x.s.translate x.c x.root x.sup kind ea).toOption.getD 0

/-- What a read of `n` bytes gives: the value, its poison, and whether it meets a POISON word. A device's register and a
device behind a root port read as a free value (R121, R302). -/
def Ctx.readMem (x : Ctx) (pa n pick : Nat) : Nat × Bool × Bool :=
  match x.s.place pa with
  | .control =>
    let o := pa - Ctl.base
    (field (x.s.ctlRead (o / 8 * 8) (256 * x.pos + pick)).toNat (8 * (o % 8)) (8 * n), false, false)
  | .pcie => (x.free pick % 2 ^ (8 * n), false, false)
  | _ => (ofBytes (x.s.coreRead x.c pa n (x.free pick)), x.s.poisoned pa n, x.s.lostIn pa n)

/-- What a read of `n` bytes of memory leaves in the CORE order (R292, R296). -/
def Ctx.lookMem (x : Ctx) (pa n pick : Nat) (s : State) : State :=
  match x.s.place pa with
  | .hbm | .peer => s.coreLook x.c pa n (x.free pick)
  | _ => s

/-- A store of bytes at `va`, physical `pa`; a poisoned value poisons the sectors it touches (R362). -/
def Ctx.writeMem (x : Ctx) (va pa : Nat) (bs : List Byte) (bad : Bool) (s : State) : State :=
  if x.s.place pa = .pcie then s
  else
    let (s, met) := s.coreStore x.c pa bs (BitVec.ofNat 64 va) x.pc
    let s := if bad then s.poisonRange pa bs.length else s
    s.report x.c (BitVec.ofNat 64 va) x.pc pa met

/-- The byte range of an access as the source-range table compares it (R245). -/
def byteRange (ea n : Nat) : Int × Int := (signedOf 57 ea, signedOf 57 ea + n - 1)

/-! ### Scalar loads and stores (R133) -/

/-- The address of form MEM. -/
def memEa (base : Word64) (i : BitVec 17) : Nat := addAddr base.toNat i.toInt

/-- A load of `n` bytes. A POISON word writes nothing and raises MEM-LOST after the bound (R304). -/
def loadSlot (n : Nat) (signed : Bool) (g : Guard) (d a : SReg) (i : BitVec 17) : Slot :=
  let ea (x : Ctx) : Nat := memEa (x.sr a) i
  { pos := 0, guard := g, reads := [.s a.toNat], writes := [.s d.toNat], eats := [a], mem := true,
    check := fun x => x.accessFault .read (ea x) n,
    run := fun x s =>
      let (v, bad, lost) := x.readMem (x.pa .read (ea x)) n 193
      (x.lookMem (x.pa .read (ea x)) n 193 (s.touch x.c x.root .read (ea x))).onCore x.c fun k =>
        if lost then (k.addWindow x.s.clk (.s d.toNat) 8 0).raiseLost (BitVec.ofNat 64 (ea x)) x.pc (x.s.clk + 8)
        else k.resultS x.s.clk 8 d (extendLoad n signed v) (x.bad || bad) 0 (x.free 192) }

/-- A store of the `n` low bytes of the data scalar. -/
def storeSlot (n : Nat) (g : Guard) (d a : SReg) (i : BitVec 17) : Slot :=
  let ea (x : Ctx) : Nat := memEa (x.sr a) i
  { pos := 0, guard := g, reads := [.s a.toNat, .s d.toNat], eats := [a], mem := true,
    check := fun x => x.accessFault .write (ea x) n,
    bytes := fun x => [byteRange (ea x) n],
    store := fun x s => x.writeMem (ea x) (x.pa .write (ea x)) (toBytes n (x.sr d).toNat) (x.bad || x.k.sBad d)
      (s.touch x.c x.root .write (ea x)) }

/-- The slot of LDB (R133). -/
def slotLdb (g : Guard) (d a : SReg) (i : BitVec 17) : Slot := loadSlot 1 true g d a i
/-- The slot of LDBN (R133). -/
def slotLdbn (g : Guard) (d a : SReg) (i : BitVec 17) : Slot := loadSlot 1 false g d a i
/-- The slot of LDH (R133). -/
def slotLdh (g : Guard) (d a : SReg) (i : BitVec 17) : Slot := loadSlot 2 true g d a i
/-- The slot of LDHN (R133). -/
def slotLdhn (g : Guard) (d a : SReg) (i : BitVec 17) : Slot := loadSlot 2 false g d a i
/-- The slot of LDW (R133). -/
def slotLdw (g : Guard) (d a : SReg) (i : BitVec 17) : Slot := loadSlot 4 true g d a i
/-- The slot of LDWN (R133). -/
def slotLdwn (g : Guard) (d a : SReg) (i : BitVec 17) : Slot := loadSlot 4 false g d a i
/-- The slot of LDD (R133). -/
def slotLdd (g : Guard) (d a : SReg) (i : BitVec 17) : Slot := loadSlot 8 false g d a i
/-- The slot of STB (R133). -/
def slotStb (g : Guard) (d a : SReg) (i : BitVec 17) : Slot := storeSlot 1 g d a i
/-- The slot of STH (R133). -/
def slotSth (g : Guard) (d a : SReg) (i : BitVec 17) : Slot := storeSlot 2 g d a i
/-- The slot of STW (R133). -/
def slotStw (g : Guard) (d a : SReg) (i : BitVec 17) : Slot := storeSlot 4 g d a i
/-- The slot of STD (R133). -/
def slotStd (g : Guard) (d a : SReg) (i : BitVec 17) : Slot := storeSlot 8 g d a i

/-! ### Vector loads and stores (R136) -/

/-- The base address of form VMEM. -/
def vmemEa (base : Word64) (off : BitVec 8) : Nat := addAddr base.toNat (256 * off.toInt)

/-- The address of doubleword `j`, with stride `st`. -/
def vmemAt (ea st j : Nat) : Nat := addr ea (j * st)

/-- The fault of a vector access: ALIGN, else that of the lowest faulting doubleword. -/
def Ctx.vectorFault (x : Ctx) (kind : Access) (sp : Bool) (ea st : Nat) : Option SlotFault :=
  (alignIf (ea % 8 ≠ 0 || st % 8 ≠ 0) (if sp then 0 else BitVec.ofNat 64 ea) (kind = .write)).or
    ((List.range 32).findSome? fun j =>
      if sp then scratchIf (x.k.spSize < vmemAt ea st j + 8) (kind = .write) else x.dataFault kind false (vmemAt ea st j) 8)

/-- Every doubleword's translation held and A and D set. -/
def touchVector (x : Ctx) (kind : Access) (ea st : Nat) (s : State) : State :=
  (List.range 32).foldl (fun s j => s.touch x.c x.root kind (vmemAt ea st j)) s

/-- A vector load. -/
def vloadSlot (m : BitVec 2) (g : Guard) (d : QReg) (a : SReg) (stride : Option SReg) (off : BitVec 8) : Slot :=
  let ea (x : Ctx) : Nat := vmemEa (x.sr a) off
  let st (x : Ctx) : Nat := (stride.map fun b => (x.sr b).toNat).getD 8
  let srcs := a :: stride.toList
  { pos := vPos d, guard := g, reads := srcs.map fun n => .s n.toNat, push := [d], eats := srcs, mem := m ≠ 1,
    check := fun x => x.vectorFault .read (m = 1) (ea x) (st x),
    run := fun x s =>
      if m = 1 then
        let v := (List.range 32).foldr (fun j acc => ofBytes (x.k.spRead (vmemAt (ea x) (st x) j) 8) + acc * 2 ^ 64) 0
        let bad := (List.range 32).any fun j => x.k.spBad (vmemAt (ea x) (st x) j) 8
        s.onCore x.c fun k => k.push x.s.clk 8 d (BitVec.ofNat 2048 v) (x.bad || bad) 0
      else
        let rs := (List.range 32).map fun j => x.readMem (x.pa .read (vmemAt (ea x) (st x) j)) 8 (193 + j)
        let v := rs.foldr (fun r acc => r.1 + acc * 2 ^ 64) 0
        let lost := rs.findIdx? fun r => r.2.2
        ((List.range 32).foldl (fun s j => x.lookMem (x.pa .read (vmemAt (ea x) (st x) j)) 8 (193 + j) s)
            (touchVector x .read (ea x) (st x) s)).onCore x.c fun k =>
          match lost with
          | some j => k.raiseLost (BitVec.ofNat 64 (vmemAt (ea x) (st x) j)) x.pc (x.s.clk + 8)
          | none => k.push x.s.clk 8 d (BitVec.ofNat 2048 v) (x.bad || rs.any fun r => r.2.1) 0 }

/-- A vector store, in ascending order of its doublewords. -/
def vstoreSlot (m : BitVec 2) (g : Guard) (d : QReg) (a : SReg) (stride : Option SReg) (off : BitVec 8) : Slot :=
  let ea (x : Ctx) : Nat := vmemEa (x.sr a) off
  let st (x : Ctx) : Nat := (stride.map fun b => (x.sr b).toNat).getD 8
  let srcs := a :: stride.toList
  { pos := vPos d, guard := g, reads := srcs.map fun n => .s n.toNat, qs := [⟨d, false⟩], eats := srcs, eatsQ := false, mem := m ≠ 1,
    check := fun x => x.vectorFault .write (m = 1) (ea x) (st x),
    bytes := fun x => if m = 1 then [] else (List.range 32).map fun j => byteRange (vmemAt (ea x) (st x) j) 8,
    store := fun x s =>
      let bad := x.bad || x.vecBad 0
      let word (j : Nat) : List Byte := toBytes 8 (field (x.vec 0).toNat (64 * j) 64)
      if m = 1 then s.onCore x.c fun k => (List.range 32).foldl (fun k j =>
          let k := k.spWrite (vmemAt (ea x) (st x) j) (word j)
          if bad then k.spPoison (vmemAt (ea x) (st x) j) 8 else k) k
      else (List.range 32).foldl (fun s j =>
          let va := vmemAt (ea x) (st x) j
          x.writeMem va (x.pa .write va) (word j) bad s) (touchVector x .write (ea x) (st x) s) }

/-- The slot of VLD (R136). -/
def slotVld (g : Guard) (m : BitVec 2) (d : QReg) (a : SReg) (off : BitVec 8) : Slot := vloadSlot m g d a none off
/-- The slot of VLDS (R136). -/
def slotVlds (g : Guard) (m : BitVec 2) (d : QReg) (a b : SReg) (off : BitVec 8) : Slot := vloadSlot m g d a (some b) off
/-- The slot of VST (R136). -/
def slotVst (g : Guard) (m : BitVec 2) (d : QReg) (a : SReg) (off : BitVec 8) : Slot := vstoreSlot m g d a none off
/-- The slot of VSTS (R136). -/
def slotVsts (g : Guard) (m : BitVec 2) (d : QReg) (a b : SReg) (off : BitVec 8) : Slot := vstoreSlot m g d a (some b) off

/-! ### Atomics and teller calls at issue (R274, R275, R286, R287, R290) -/

/-- The checks of R275, and for an atomic its alignment. -/
def Ctx.sliceFault (x : Ctx) (ea n : Nat) : Option SlotFault :=
  (x.dataFault .write false ea 8).or (alignIf (ea % n ≠ 0) (BitVec.ofNat 64 ea) true)

/-- The scalar that follows `n` in a pair. -/
def nextReg (n : SReg) : SReg := n + 1

/-- The result pair is in flight until the reply has arrived. -/
def Core.awaitPair (k : Core) (clk : Nat) (d : SReg) : Core :=
  let w (r : RegName) : Window := { reg := r, due := clk + 8, late := true }
  if d = 0 then { k with windows := w (.p 0) :: k.windows }
  else { k with windows := w (.s d.toNat) :: w (.s (nextReg d).toNat) :: k.windows }

/-- An atomic or a call: the request leaves the core at issue, and the hold comes later (R290). -/
def sliceSlot (op : Option (Nat × Fmt)) (id : Nat) (pair : Bool) (n : Nat) (whole : Bool) (g : Guard) (sc : Scope) (d a b : SReg) : Slot :=
  let ea (x : Ctx) : Nat := (x.sr a).toNat
  let srcs := [a, b] ++ (if pair then [nextReg b] else [])
  { pos := 0, guard := g, reads := srcs.map fun n => .s n.toNat,
    writes := if d = 0 then [] else [.s d.toNat, .s (nextReg d).toNat], eats := srcs, mem := true,
    check := fun x => x.sliceFault (ea x) n,
    bytes := fun x => [if whole then byteRange (ea x - ea x % 128) 128 else byteRange (ea x) n],
    run := fun x s =>
      let r : SliceReq := { core := x.c, dst := d.toNat, op := op, bad := x.bad, tenant := x.s.tenantNow x.c, id := id,
                            pa := x.pa .write (ea x), va := x.sr a, pc := x.pc, arg0 := x.sr b,
                            arg1 := if pair then x.sr (nextReg b) else 0, cyc := x.s.clk, scope := sc }
      let s := (s.touch x.c x.root .write (ea x)).onCore x.c fun k => k.awaitPair x.s.clk d
      { s with sliceReqs := s.sliceReqs ++ [r] } }

/-- A scalar atomic of operation `o`, with the scope for which it is ordered (R289, R293). -/
def atomicSlot (o : Nat) (pair : Bool) (g : Guard) (f : Fmt) (sc : Scope) (d a b : SReg) : Slot :=
  sliceSlot (some (o, f)) 0 pair (codeWidth (fmtnOf 5) f / 8) false g sc d a b

/-- The slot of AADD (R286). -/
def slotAadd (g : Guard) (f : Fmt) (sc : Scope) (d a b : SReg) : Slot := atomicSlot 0x60 false g f sc d a b
/-- The slot of AAND (R286). -/
def slotAand (g : Guard) (f : Fmt) (sc : Scope) (d a b : SReg) : Slot := atomicSlot 0x61 false g f sc d a b
/-- The slot of AOR (R286). -/
def slotAor (g : Guard) (f : Fmt) (sc : Scope) (d a b : SReg) : Slot := atomicSlot 0x62 false g f sc d a b
/-- The slot of AXOR (R286). -/
def slotAxor (g : Guard) (f : Fmt) (sc : Scope) (d a b : SReg) : Slot := atomicSlot 0x63 false g f sc d a b
/-- The slot of AMIN (R286). -/
def slotAmin (g : Guard) (f : Fmt) (sc : Scope) (d a b : SReg) : Slot := atomicSlot 0x64 false g f sc d a b
/-- The slot of AMAX (R286). -/
def slotAmax (g : Guard) (f : Fmt) (sc : Scope) (d a b : SReg) : Slot := atomicSlot 0x65 false g f sc d a b
/-- The slot of ASWAP (R286). -/
def slotAswap (g : Guard) (f : Fmt) (sc : Scope) (d a b : SReg) : Slot := atomicSlot 0x66 false g f sc d a b
/-- The slot of ACAS (R286). -/
def slotAcas (g : Guard) (f : Fmt) (sc : Scope) (d a b : SReg) : Slot := atomicSlot 0x67 true g f sc d a b
/-- The slot of AMINN (R286). -/
def slotAminn (g : Guard) (f : Fmt) (sc : Scope) (d a b : SReg) : Slot := atomicSlot 0x68 false g f sc d a b
/-- The slot of AMAXN (R286). -/
def slotAmaxn (g : Guard) (f : Fmt) (sc : Scope) (d a b : SReg) : Slot := atomicSlot 0x69 false g f sc d a b
/-- The slot of AFADD (R286). -/
def slotAfadd (g : Guard) (f : Fmt) (sc : Scope) (d a b : SReg) : Slot := atomicSlot 0x6A false g f sc d a b
/-- The slot of AFMIN (R288). -/
def slotAfmin (g : Guard) (f : Fmt) (sc : Scope) (d a b : SReg) : Slot := atomicSlot 0x6B false g f sc d a b
/-- The slot of AFMAX (R288). -/
def slotAfmax (g : Guard) (f : Fmt) (sc : Scope) (d a b : SReg) : Slot := atomicSlot 0x6C false g f sc d a b
/-- TCALL (R274): the bytes are the whole line (R275). -/
def slotTcall (g : Guard) (id : BitVec 6) (sc : Scope) (d a b : SReg) : Slot := sliceSlot none id.toNat true 1 true g sc d a b

/-! ### The meaning of each instruction of this file -/
def execLdb (g : Guard) (d : SReg) (a : SReg) (i : BitVec 17) (s : State) : Host.Outcome State Fault Refusal :=
  issueOne (formFault (.ldb g d a i)) (slotLdb g d a i) s
/-- LDBN (R133). -/
def execLdbn (g : Guard) (d : SReg) (a : SReg) (i : BitVec 17) (s : State) : Host.Outcome State Fault Refusal :=
  issueOne (formFault (.ldbn g d a i)) (slotLdbn g d a i) s
/-- LDH (R133). -/
def execLdh (g : Guard) (d : SReg) (a : SReg) (i : BitVec 17) (s : State) : Host.Outcome State Fault Refusal :=
  issueOne (formFault (.ldh g d a i)) (slotLdh g d a i) s
/-- LDHN (R133). -/
def execLdhn (g : Guard) (d : SReg) (a : SReg) (i : BitVec 17) (s : State) : Host.Outcome State Fault Refusal :=
  issueOne (formFault (.ldhn g d a i)) (slotLdhn g d a i) s
/-- LDW (R133). -/
def execLdw (g : Guard) (d : SReg) (a : SReg) (i : BitVec 17) (s : State) : Host.Outcome State Fault Refusal :=
  issueOne (formFault (.ldw g d a i)) (slotLdw g d a i) s
/-- LDWN (R133). -/
def execLdwn (g : Guard) (d : SReg) (a : SReg) (i : BitVec 17) (s : State) : Host.Outcome State Fault Refusal :=
  issueOne (formFault (.ldwn g d a i)) (slotLdwn g d a i) s
/-- LDD (R133). -/
def execLdd (g : Guard) (d : SReg) (a : SReg) (i : BitVec 17) (s : State) : Host.Outcome State Fault Refusal :=
  issueOne (formFault (.ldd g d a i)) (slotLdd g d a i) s
/-- STB (R133). -/
def execStb (g : Guard) (d : SReg) (a : SReg) (i : BitVec 17) (s : State) : Host.Outcome State Fault Refusal :=
  issueOne (formFault (.stb g d a i)) (slotStb g d a i) s
/-- STH (R133). -/
def execSth (g : Guard) (d : SReg) (a : SReg) (i : BitVec 17) (s : State) : Host.Outcome State Fault Refusal :=
  issueOne (formFault (.sth g d a i)) (slotSth g d a i) s
/-- STW (R133). -/
def execStw (g : Guard) (d : SReg) (a : SReg) (i : BitVec 17) (s : State) : Host.Outcome State Fault Refusal :=
  issueOne (formFault (.stw g d a i)) (slotStw g d a i) s
/-- STD (R133). -/
def execStd (g : Guard) (d : SReg) (a : SReg) (i : BitVec 17) (s : State) : Host.Outcome State Fault Refusal :=
  issueOne (formFault (.std g d a i)) (slotStd g d a i) s
/-- AADD (R286). -/
def execAadd (g : Guard) (f : Fmt) (sc : Scope) (d : SReg) (a : SReg) (b : SReg) (s : State) : Host.Outcome State Fault Refusal :=
  issueOne (formFault (.aadd g f sc d a b)) (slotAadd g f sc d a b) s
/-- AAND (R286). -/
def execAand (g : Guard) (f : Fmt) (sc : Scope) (d : SReg) (a : SReg) (b : SReg) (s : State) : Host.Outcome State Fault Refusal :=
  issueOne (formFault (.aand g f sc d a b)) (slotAand g f sc d a b) s
/-- AOR (R286). -/
def execAor (g : Guard) (f : Fmt) (sc : Scope) (d : SReg) (a : SReg) (b : SReg) (s : State) : Host.Outcome State Fault Refusal :=
  issueOne (formFault (.aor g f sc d a b)) (slotAor g f sc d a b) s
/-- AXOR (R286). -/
def execAxor (g : Guard) (f : Fmt) (sc : Scope) (d : SReg) (a : SReg) (b : SReg) (s : State) : Host.Outcome State Fault Refusal :=
  issueOne (formFault (.axor g f sc d a b)) (slotAxor g f sc d a b) s
/-- AMIN (R286). -/
def execAmin (g : Guard) (f : Fmt) (sc : Scope) (d : SReg) (a : SReg) (b : SReg) (s : State) : Host.Outcome State Fault Refusal :=
  issueOne (formFault (.amin g f sc d a b)) (slotAmin g f sc d a b) s
/-- AMAX (R286). -/
def execAmax (g : Guard) (f : Fmt) (sc : Scope) (d : SReg) (a : SReg) (b : SReg) (s : State) : Host.Outcome State Fault Refusal :=
  issueOne (formFault (.amax g f sc d a b)) (slotAmax g f sc d a b) s
/-- ASWAP (R286). -/
def execAswap (g : Guard) (f : Fmt) (sc : Scope) (d : SReg) (a : SReg) (b : SReg) (s : State) : Host.Outcome State Fault Refusal :=
  issueOne (formFault (.aswap g f sc d a b)) (slotAswap g f sc d a b) s
/-- ACAS (R286). -/
def execAcas (g : Guard) (f : Fmt) (sc : Scope) (d : SReg) (a : SReg) (b : SReg) (s : State) : Host.Outcome State Fault Refusal :=
  issueOne (formFault (.acas g f sc d a b)) (slotAcas g f sc d a b) s
/-- AMINN (R286). -/
def execAminn (g : Guard) (f : Fmt) (sc : Scope) (d : SReg) (a : SReg) (b : SReg) (s : State) : Host.Outcome State Fault Refusal :=
  issueOne (formFault (.aminn g f sc d a b)) (slotAminn g f sc d a b) s
/-- AMAXN (R286). -/
def execAmaxn (g : Guard) (f : Fmt) (sc : Scope) (d : SReg) (a : SReg) (b : SReg) (s : State) : Host.Outcome State Fault Refusal :=
  issueOne (formFault (.amaxn g f sc d a b)) (slotAmaxn g f sc d a b) s
/-- AFADD (R286). -/
def execAfadd (g : Guard) (f : Fmt) (sc : Scope) (d : SReg) (a : SReg) (b : SReg) (s : State) : Host.Outcome State Fault Refusal :=
  issueOne (formFault (.afadd g f sc d a b)) (slotAfadd g f sc d a b) s
/-- AFMIN (R288). -/
def execAfmin (g : Guard) (f : Fmt) (sc : Scope) (d : SReg) (a : SReg) (b : SReg) (s : State) : Host.Outcome State Fault Refusal :=
  issueOne (formFault (.afmin g f sc d a b)) (slotAfmin g f sc d a b) s
/-- AFMAX (R288). -/
def execAfmax (g : Guard) (f : Fmt) (sc : Scope) (d : SReg) (a : SReg) (b : SReg) (s : State) : Host.Outcome State Fault Refusal :=
  issueOne (formFault (.afmax g f sc d a b)) (slotAfmax g f sc d a b) s
/-- TCALL (R275). -/
def execTcall (g : Guard) (id : BitVec 6) (sc : Scope) (d : SReg) (a : SReg) (b : SReg) (s : State) : Host.Outcome State Fault Refusal :=
  issueOne (formFault (.tcall g id sc d a b)) (slotTcall g id sc d a b) s
/-- VLD (R136). -/
def execVld (g : Guard) (m : BitVec 2) (d : QReg) (a : SReg) (off : BitVec 8) (s : State) : Host.Outcome State Fault Refusal :=
  issueOne (formFault (.vld g m d a off)) (slotVld g m d a off) s
/-- VLDS (R136). -/
def execVlds (g : Guard) (m : BitVec 2) (d : QReg) (a : SReg) (b : SReg) (off : BitVec 8) (s : State) : Host.Outcome State Fault Refusal :=
  issueOne (formFault (.vlds g m d a b off)) (slotVlds g m d a b off) s
/-- VST (R136). -/
def execVst (g : Guard) (m : BitVec 2) (d : QReg) (a : SReg) (off : BitVec 8) (s : State) : Host.Outcome State Fault Refusal :=
  issueOne (formFault (.vst g m d a off)) (slotVst g m d a off) s
/-- VSTS (R136). -/
def execVsts (g : Guard) (m : BitVec 2) (d : QReg) (a : SReg) (b : SReg) (off : BitVec 8) (s : State) : Host.Outcome State Fault Refusal :=
  issueOne (formFault (.vsts g m d a b off)) (slotVsts g m d a b off) s

end Sys2Proof.Machine
end

