-- ==== Sys2Proof/Machine/Teller.lean ====
section
/-! DEFINITION. Teller routines and scalar atomics at the home slices (R276 to R290): the hold, the slice-side instructions, the
release, and the landing of the result pair. -/

namespace Sys2Proof.Machine

open Sys2Proof

/-! ### The reply (R276, R284, R285, R290) -/

/-- The late window of register `r`, or of a register that a later write has taken, closes with the reply's flags. -/
def Core.closeLate (k : Core) (clk : Nat) (r : RegName) (fl : Flags) : Core × Bool :=
  let close (w : Window) : Window := { w with late := false, due := max w.due clk, flags := fl }
  let mine (x : RegName) (w : Window) : Bool := w.reg = x && w.late
  let put (x : RegName) : Core := match k.windows.findIdx? (mine x) with
    | some i => { k with windows := k.windows.modify i close }
    | none => k
  if k.windows.any (mine r) then (put r, true) else (put (.p 0), false)

/-- The cycle at which the result pair of core `k` has landed: the later of now and the bound. -/
def Core.pairDue (k : Core) (clk : Nat) : Nat :=
  k.windows.foldl (fun m w => if w.late then max m w.due else m) clk

/-- The result pair reaches core `c`: s[DST], s[DST+1], and the flags for FFLAGS (R276, R287). -/
def State.landPair (s : State) (c dst : Nat) (v st : Word64) (fl : Flags) (bad : Bool) : State :=
  s.onCore c fun k =>
    if dst = 0 then (k.closeLate s.clk (.p 0) fl).1
    else
      let d : SReg := BitVec.ofNat 6 dst
      let (k, own0) := k.closeLate s.clk (.s dst) fl
      let (k, own1) := k.closeLate s.clk (.s (nextReg d).toNat) 0
      let k := if own0 then (k.setS d v).setSBad d bad else k
      if own1 then (k.setS (nextReg d) st).setSBad (nextReg d) bad else k

/-- TELLER-FAULT's record (R285). -/
def Core.tellerRecord (k : Core) (code id : Nat) (pc va : Word64) : Core :=
  let old := k.csrGet Csr.TLCAUSE
  if bitAt old.toNat 63 then k.csrPut Csr.TLCAUSE (old ||| 0x4000000000000000)
  else ((k.csrPut Csr.TLCAUSE (BitVec.ofNat 64 (2 ^ 63 + code * 256 + id))).csrPut Csr.TLPC pc).csrPut Csr.TLADDR va

/-- TELLER-FAULT's record, and the event for the boundary after the pair has landed (R284, R285). -/
def State.tellerFault (s : State) (c code id due : Nat) (pc va : Word64) : State :=
  s.onCore c fun k => let k := k.tellerRecord code id pc va
                      { k with pend := { k.pend with teller := some due } }

/-- The reply of a call or atomic that met an uncorrectable error or a POISON word (R284, R304): pair 0 with CODE UE, and the event, which
for a call is TELLER-FAULT when no region is open at the boundary that takes it (R367, R368). -/
def State.failUe (s : State) (c dst id : Nat) (call lost : Bool) (va pc : Word64) (pa : Nat) : State :=
  let due := (s.core c).pairDue s.clk
  let s := s.landPair c dst 0 0x100 0 false
  if lost then s.onCore c fun k => k.raiseLost va pc due
  else s.consumed c (s.memHolder pa va) pc due (if call then some id else none)

/-- The release of a hold (R275, R280, R283): the line written back whole if the routine stored, the pair sent. -/
def State.finishCall (s : State) (t : TellerRun) : State :=
  let s := { s with teller := none }
  let s := if t.stored then
      let s := (s.homeWrite (.core t.core t.tenant t.scope) t.line (toBytes 128 t.data.toNat)).1
      if t.bad then s.poisonRange t.line 128 else s
    else s
  s.landPair t.core t.dst (vget 0 t.h 0) (t.flags.zeroExtend 64) 0 t.bad

/-! ### The slice-side instructions (R281 to R283) -/

/-- Holding register `r` of a routine. -/
def TellerRun.reg (t : TellerRun) (r : HReg) : Word64 := vget 0 t.h r.toNat
/-- The routine with `r` written. -/
def TellerRun.put (t : TellerRun) (r : HReg) (v : Word64) : TellerRun := { t with h := vset t.h r.toNat v }

/-- One instruction of the routine under its hold; the last one releases the hold. No routine runs: nothing happens. -/
def tellerOp (f : TellerRun → TellerRun) (s : State) : Host.Outcome State Fault Refusal :=
  match s.teller with
  | none => .next s
  | some t =>
    let t := { f t with code := t.code.drop 1 }
    .next (if t.code = [] then s.finishCall t else { s with teller := some t })

/-- The immediate, sign-extended (R281). -/
def imm13 (i : BitVec 13) : Word64 := i.signExtend 64

/-- The offset of a memory form of `n` bytes (R282). -/
def tellerOff (t : TellerRun) (a : HReg) (i : BitVec 13) (n : Nat) : Nat :=
  let off := (((field (t.reg a).toNat 0 7 : Int) + i.toInt) % 128).toNat
  off / n * n

/-- A load of `n` bytes from the line copy (R282, R283). -/
def tellerLoad (n : Nat) (d a : HReg) (i : BitVec 13) (t : TellerRun) : TellerRun :=
  t.put d (BitVec.ofNat 64 (field t.data.toNat (8 * tellerOff t a i n) (8 * n)))

/-- A store of `n` bytes into the line copy. -/
def tellerStore (n : Nat) (a b : HReg) (i : BitVec 13) (t : TellerRun) : TellerRun :=
  { t with data := BitVec.ofNat 1024 (setField t.data.toNat (8 * tellerOff t a i n) (8 * n) (t.reg b).toNat), stored := true }

/-- An integer operation on two registers (R188, R282). -/
def tellerInt (o : IntOp) (d a b : HReg) (t : TellerRun) : TellerRun := t.put d (intOp o (t.reg a) (t.reg b))
/-- An integer operation with the immediate. -/
def tellerIntImm (o : IntOp) (d a : HReg) (i : BitVec 13) (t : TellerRun) : TellerRun := t.put d (intOp o (t.reg a) (imm13 i))

/-- The format of F in the float opcodes (R282). -/
def tellerFmt (f : BitVec 3) : Fmt := if f = 0 then .f64 else if f = 1 then .f32 else .bf16

/-- A sum in a format with RNE and SAT = 0 (R90, R91): code and flags. -/
def sumIn (f : Fmt) (x y : Nat) : Nat × Flags :=
  finish f .rne false ⟨0, 0, 0⟩ (addExact .rne (valueOf fmtn0 f x) (valueOf fmtn0 f y))

/-- A float operation of a routine: the low bits of the operands, the high bits of the result zero. -/
def tellerFloat (op : Fmt → Nat → Nat → Nat × Flags) (d a b : HReg) (f : BitVec 3) (t : TellerRun) : TellerRun :=
  let fm := tellerFmt f
  let w := fmtWidth fmtn0 fm
  let r := op fm (field (t.reg a).toNat 0 w) (field (t.reg b).toNat 0 w)
  { t.put d (BitVec.ofNat 64 r.1) with flags := t.flags ||| r.2 }

/-- The condition of CMP (R282). -/
def tellerCond (c : BitVec 3) (a b : Word64) : Bool :=
  match c.toNat with
  | 0 => cmp64 false .eq a b
  | 1 => cmp64 false .ne a b
  | 2 => cmp64 false .lt a b
  | 3 => cmp64 false .le a b
  | 4 => cmp64 false .gt a b
  | 5 => cmp64 false .ge a b
  | 6 => cmp64 true .lt a b
  | _ => cmp64 true .ge a b

/-- The range of SAT (R212, R282). -/
def tellerRange (f : BitVec 3) : Int × Int :=
  match f.toNat with
  | 0 => (-128, 127)
  | 1 => (-32768, 32767)
  | 2 => (-2147483648, 2147483647)
  | 3 => (0, 255)
  | 4 => (0, 65535)
  | _ => (0, 4294967295)

/-- SAT: read signed for the signed ranges, clamped, SATD when clamped. -/
def tellerClamp (d a : HReg) (f : BitVec 3) (t : TellerRun) : TellerRun :=
  let v : Int := if f.toNat < 3 then (t.reg a).toInt else (t.reg a).toNat
  let r := max (tellerRange f).1 (min (tellerRange f).2 v)
  { t.put d (BitVec.ofInt 64 r) with flags := if r = v then t.flags else t.flags ||| flagSATD }


/-- TELLER_LDW (R282). -/
def execTellerLdw (d : BitVec 3) (a : BitVec 3) (i : BitVec 13) (s : State) : Host.Outcome State Fault Refusal :=
  tellerOp (tellerLoad 4 d a i) s
/-- TELLER_LDD (R282). -/
def execTellerLdd (d : BitVec 3) (a : BitVec 3) (i : BitVec 13) (s : State) : Host.Outcome State Fault Refusal :=
  tellerOp (tellerLoad 8 d a i) s
/-- TELLER_STW (R282). -/
def execTellerStw (a : BitVec 3) (b : BitVec 3) (i : BitVec 13) (s : State) : Host.Outcome State Fault Refusal :=
  tellerOp (tellerStore 4 a b i) s
/-- TELLER_STD (R282). -/
def execTellerStd (a : BitVec 3) (b : BitVec 3) (i : BitVec 13) (s : State) : Host.Outcome State Fault Refusal :=
  tellerOp (tellerStore 8 a b i) s
/-- TELLER_ADD (R282). -/
def execTellerAdd (d : BitVec 3) (a : BitVec 3) (b : BitVec 3) (s : State) : Host.Outcome State Fault Refusal :=
  tellerOp (tellerInt .add d a b) s
/-- TELLER_ADD_IMM (R282). -/
def execTellerAddImm (d : BitVec 3) (a : BitVec 3) (i : BitVec 13) (s : State) : Host.Outcome State Fault Refusal :=
  tellerOp (tellerIntImm .add d a i) s
/-- TELLER_SUB (R282). -/
def execTellerSub (d : BitVec 3) (a : BitVec 3) (b : BitVec 3) (s : State) : Host.Outcome State Fault Refusal :=
  tellerOp (tellerInt .sub d a b) s
/-- TELLER_SUB_IMM (R282). -/
def execTellerSubImm (d : BitVec 3) (a : BitVec 3) (i : BitVec 13) (s : State) : Host.Outcome State Fault Refusal :=
  tellerOp (tellerIntImm .sub d a i) s
/-- TELLER_AND (R282). -/
def execTellerAnd (d : BitVec 3) (a : BitVec 3) (b : BitVec 3) (s : State) : Host.Outcome State Fault Refusal :=
  tellerOp (tellerInt .and d a b) s
/-- TELLER_AND_IMM (R282). -/
def execTellerAndImm (d : BitVec 3) (a : BitVec 3) (i : BitVec 13) (s : State) : Host.Outcome State Fault Refusal :=
  tellerOp (tellerIntImm .and d a i) s
/-- TELLER_OR (R282). -/
def execTellerOr (d : BitVec 3) (a : BitVec 3) (b : BitVec 3) (s : State) : Host.Outcome State Fault Refusal :=
  tellerOp (tellerInt .or d a b) s
/-- TELLER_OR_IMM (R282). -/
def execTellerOrImm (d : BitVec 3) (a : BitVec 3) (i : BitVec 13) (s : State) : Host.Outcome State Fault Refusal :=
  tellerOp (tellerIntImm .or d a i) s
/-- TELLER_XOR (R282). -/
def execTellerXor (d : BitVec 3) (a : BitVec 3) (b : BitVec 3) (s : State) : Host.Outcome State Fault Refusal :=
  tellerOp (tellerInt .xor d a b) s
/-- TELLER_XOR_IMM (R282). -/
def execTellerXorImm (d : BitVec 3) (a : BitVec 3) (i : BitVec 13) (s : State) : Host.Outcome State Fault Refusal :=
  tellerOp (tellerIntImm .xor d a i) s
/-- TELLER_SHL (R282). -/
def execTellerShl (d : BitVec 3) (a : BitVec 3) (b : BitVec 3) (s : State) : Host.Outcome State Fault Refusal :=
  tellerOp (tellerInt .shl d a b) s
/-- TELLER_SHL_IMM (R282). -/
def execTellerShlImm (d : BitVec 3) (a : BitVec 3) (i : BitVec 13) (s : State) : Host.Outcome State Fault Refusal :=
  tellerOp (tellerIntImm .shl d a i) s
/-- TELLER_SHRL (R282). -/
def execTellerShrl (d : BitVec 3) (a : BitVec 3) (b : BitVec 3) (s : State) : Host.Outcome State Fault Refusal :=
  tellerOp (tellerInt .shrl d a b) s
/-- TELLER_SHRL_IMM (R282). -/
def execTellerShrlImm (d : BitVec 3) (a : BitVec 3) (i : BitVec 13) (s : State) : Host.Outcome State Fault Refusal :=
  tellerOp (tellerIntImm .shrl d a i) s
/-- TELLER_SHRA (R282). -/
def execTellerShra (d : BitVec 3) (a : BitVec 3) (b : BitVec 3) (s : State) : Host.Outcome State Fault Refusal :=
  tellerOp (tellerInt .shra d a b) s
/-- TELLER_SHRA_IMM (R282). -/
def execTellerShraImm (d : BitVec 3) (a : BitVec 3) (i : BitVec 13) (s : State) : Host.Outcome State Fault Refusal :=
  tellerOp (tellerIntImm .shra d a i) s
/-- TELLER_MIN (R282). -/
def execTellerMin (d : BitVec 3) (a : BitVec 3) (b : BitVec 3) (s : State) : Host.Outcome State Fault Refusal :=
  tellerOp (tellerInt .min d a b) s
/-- TELLER_MIN_IMM (R282). -/
def execTellerMinImm (d : BitVec 3) (a : BitVec 3) (i : BitVec 13) (s : State) : Host.Outcome State Fault Refusal :=
  tellerOp (tellerIntImm .min d a i) s
/-- TELLER_MAX (R282). -/
def execTellerMax (d : BitVec 3) (a : BitVec 3) (b : BitVec 3) (s : State) : Host.Outcome State Fault Refusal :=
  tellerOp (tellerInt .max d a b) s
/-- TELLER_MAX_IMM (R282). -/
def execTellerMaxImm (d : BitVec 3) (a : BitVec 3) (i : BitVec 13) (s : State) : Host.Outcome State Fault Refusal :=
  tellerOp (tellerIntImm .max d a i) s
/-- TELLER_MINN (R282). -/
def execTellerMinn (d : BitVec 3) (a : BitVec 3) (b : BitVec 3) (s : State) : Host.Outcome State Fault Refusal :=
  tellerOp (tellerInt .minn d a b) s
/-- TELLER_MINN_IMM (R282). -/
def execTellerMinnImm (d : BitVec 3) (a : BitVec 3) (i : BitVec 13) (s : State) : Host.Outcome State Fault Refusal :=
  tellerOp (tellerIntImm .minn d a i) s
/-- TELLER_MAXN (R282). -/
def execTellerMaxn (d : BitVec 3) (a : BitVec 3) (b : BitVec 3) (s : State) : Host.Outcome State Fault Refusal :=
  tellerOp (tellerInt .maxn d a b) s
/-- TELLER_MAXN_IMM (R282). -/
def execTellerMaxnImm (d : BitVec 3) (a : BitVec 3) (i : BitVec 13) (s : State) : Host.Outcome State Fault Refusal :=
  tellerOp (tellerIntImm .maxn d a i) s
/-- TELLER_FADD (R282). -/
def execTellerFadd (d : BitVec 3) (a : BitVec 3) (b : BitVec 3) (f : BitVec 3) (s : State) : Host.Outcome State Fault Refusal :=
  tellerOp (tellerFloat sumIn d a b f) s
/-- TELLER_FMIN (R282). -/
def execTellerFmin (d : BitVec 3) (a : BitVec 3) (b : BitVec 3) (f : BitVec 3) (s : State) : Host.Outcome State Fault Refusal :=
  tellerOp (tellerFloat (minMaxFloat fmtn0 · false) d a b f) s
/-- TELLER_FMAX (R282). -/
def execTellerFmax (d : BitVec 3) (a : BitVec 3) (b : BitVec 3) (f : BitVec 3) (s : State) : Host.Outcome State Fault Refusal :=
  tellerOp (tellerFloat (minMaxFloat fmtn0 · true) d a b f) s
/-- TELLER_CMP (R282). -/
def execTellerCmp (d : BitVec 3) (a : BitVec 3) (b : BitVec 3) (c : BitVec 3) (s : State) : Host.Outcome State Fault Refusal :=
  tellerOp (fun t => t.put d (if tellerCond c (t.reg a) (t.reg b) then 1 else 0)) s
/-- TELLER_CMP_IMM (R282). -/
def execTellerCmpImm (d : BitVec 3) (a : BitVec 3) (c : BitVec 3) (i : BitVec 13) (s : State) : Host.Outcome State Fault Refusal :=
  tellerOp (fun t => t.put d (if tellerCond c (t.reg a) (imm13 i) then 1 else 0)) s
/-- TELLER_SEL (R282). -/
def execTellerSel (d : BitVec 3) (a : BitVec 3) (b : BitVec 3) (c : BitVec 3) (s : State) : Host.Outcome State Fault Refusal :=
  tellerOp (fun t => t.put d (if t.reg c ≠ 0 then t.reg a else t.reg b)) s
/-- TELLER_SAT (R282). -/
def execTellerSat (d : BitVec 3) (a : BitVec 3) (f : BitVec 3) (s : State) : Host.Outcome State Fault Refusal :=
  tellerOp (tellerClamp d a f) s
/-- TELLER_MRG (R282). -/
def execTellerMrg (d : BitVec 3) (a : BitVec 3) (b : BitVec 3) (s : State) : Host.Outcome State Fault Refusal :=
  tellerOp (fun t => t.put d ((t.reg a &&& t.reg b) ||| (t.reg d &&& ~~~t.reg b))) s
/-- TELLER_LIMM (R282). -/
def execTellerLimm (d : BitVec 3) (i : BitVec 13) (s : State) : Host.Outcome State Fault Refusal :=
  tellerOp (fun t => t.put d (imm13 i)) s
/-- The meaning of a routine's word (R281, R282); none where its row or its well-formedness refuses it. The words are those of
`tellerDecode`. -/
def tellerMeaning (w : BitVec 32) : Option (State → Host.Outcome State Fault Refusal) :=
  if w &&& 0xfc0fe000#32 = 0x04000000#32 then some (execTellerLdw (w.extractLsb' 23 3) (w.extractLsb' 20 3) (w.extractLsb' 0 13))
  else if w &&& 0xfc0fe000#32 = 0x08000000#32 then some (execTellerLdd (w.extractLsb' 23 3) (w.extractLsb' 20 3) (w.extractLsb' 0 13))
  else if w &&& 0xff81e000#32 = 0x0c000000#32 then some (execTellerStw (w.extractLsb' 20 3) (w.extractLsb' 17 3) (w.extractLsb' 0 13))
  else if w &&& 0xff81e000#32 = 0x10000000#32 then some (execTellerStd (w.extractLsb' 20 3) (w.extractLsb' 17 3) (w.extractLsb' 0 13))
  else if w &&& 0xfc01ffff#32 = 0x20000000#32 then some (execTellerAdd (w.extractLsb' 23 3) (w.extractLsb' 20 3) (w.extractLsb' 17 3))
  else if w &&& 0xfc0fe000#32 = 0x20010000#32 then some (execTellerAddImm (w.extractLsb' 23 3) (w.extractLsb' 20 3) (w.extractLsb' 0 13))
  else if w &&& 0xfc01ffff#32 = 0x24000000#32 then some (execTellerSub (w.extractLsb' 23 3) (w.extractLsb' 20 3) (w.extractLsb' 17 3))
  else if w &&& 0xfc0fe000#32 = 0x24010000#32 then some (execTellerSubImm (w.extractLsb' 23 3) (w.extractLsb' 20 3) (w.extractLsb' 0 13))
  else if w &&& 0xfc01ffff#32 = 0x28000000#32 then some (execTellerAnd (w.extractLsb' 23 3) (w.extractLsb' 20 3) (w.extractLsb' 17 3))
  else if w &&& 0xfc0fe000#32 = 0x28010000#32 then some (execTellerAndImm (w.extractLsb' 23 3) (w.extractLsb' 20 3) (w.extractLsb' 0 13))
  else if w &&& 0xfc01ffff#32 = 0x2c000000#32 then some (execTellerOr (w.extractLsb' 23 3) (w.extractLsb' 20 3) (w.extractLsb' 17 3))
  else if w &&& 0xfc0fe000#32 = 0x2c010000#32 then some (execTellerOrImm (w.extractLsb' 23 3) (w.extractLsb' 20 3) (w.extractLsb' 0 13))
  else if w &&& 0xfc01ffff#32 = 0x30000000#32 then some (execTellerXor (w.extractLsb' 23 3) (w.extractLsb' 20 3) (w.extractLsb' 17 3))
  else if w &&& 0xfc0fe000#32 = 0x30010000#32 then some (execTellerXorImm (w.extractLsb' 23 3) (w.extractLsb' 20 3) (w.extractLsb' 0 13))
  else if w &&& 0xfc01ffff#32 = 0x34000000#32 then some (execTellerShl (w.extractLsb' 23 3) (w.extractLsb' 20 3) (w.extractLsb' 17 3))
  else if w &&& 0xfc0fe000#32 = 0x34010000#32 then some (execTellerShlImm (w.extractLsb' 23 3) (w.extractLsb' 20 3) (w.extractLsb' 0 13))
  else if w &&& 0xfc01ffff#32 = 0x38000000#32 then some (execTellerShrl (w.extractLsb' 23 3) (w.extractLsb' 20 3) (w.extractLsb' 17 3))
  else if w &&& 0xfc0fe000#32 = 0x38010000#32 then some (execTellerShrlImm (w.extractLsb' 23 3) (w.extractLsb' 20 3) (w.extractLsb' 0 13))
  else if w &&& 0xfc01ffff#32 = 0x3c000000#32 then some (execTellerShra (w.extractLsb' 23 3) (w.extractLsb' 20 3) (w.extractLsb' 17 3))
  else if w &&& 0xfc0fe000#32 = 0x3c010000#32 then some (execTellerShraImm (w.extractLsb' 23 3) (w.extractLsb' 20 3) (w.extractLsb' 0 13))
  else if w &&& 0xfc01ffff#32 = 0x40000000#32 then some (execTellerMin (w.extractLsb' 23 3) (w.extractLsb' 20 3) (w.extractLsb' 17 3))
  else if w &&& 0xfc0fe000#32 = 0x40010000#32 then some (execTellerMinImm (w.extractLsb' 23 3) (w.extractLsb' 20 3) (w.extractLsb' 0 13))
  else if w &&& 0xfc01ffff#32 = 0x44000000#32 then some (execTellerMax (w.extractLsb' 23 3) (w.extractLsb' 20 3) (w.extractLsb' 17 3))
  else if w &&& 0xfc0fe000#32 = 0x44010000#32 then some (execTellerMaxImm (w.extractLsb' 23 3) (w.extractLsb' 20 3) (w.extractLsb' 0 13))
  else if w &&& 0xfc01ffff#32 = 0x48000000#32 then some (execTellerMinn (w.extractLsb' 23 3) (w.extractLsb' 20 3) (w.extractLsb' 17 3))
  else if w &&& 0xfc0fe000#32 = 0x48010000#32 then some (execTellerMinnImm (w.extractLsb' 23 3) (w.extractLsb' 20 3) (w.extractLsb' 0 13))
  else if w &&& 0xfc01ffff#32 = 0x4c000000#32 then some (execTellerMaxn (w.extractLsb' 23 3) (w.extractLsb' 20 3) (w.extractLsb' 17 3))
  else if w &&& 0xfc0fe000#32 = 0x4c010000#32 then some (execTellerMaxnImm (w.extractLsb' 23 3) (w.extractLsb' 20 3) (w.extractLsb' 0 13))
  else if w &&& 0xfc011fff#32 = 0x60000000#32 ∧ (w.extractLsb' 13 3).toNat ≤ 2 then some (execTellerFadd (w.extractLsb' 23 3) (w.extractLsb' 20 3) (w.extractLsb' 17 3) (w.extractLsb' 13 3))
  else if w &&& 0xfc011fff#32 = 0x64000000#32 ∧ (w.extractLsb' 13 3).toNat ≤ 2 then some (execTellerFmin (w.extractLsb' 23 3) (w.extractLsb' 20 3) (w.extractLsb' 17 3) (w.extractLsb' 13 3))
  else if w &&& 0xfc011fff#32 = 0x68000000#32 ∧ (w.extractLsb' 13 3).toNat ≤ 2 then some (execTellerFmax (w.extractLsb' 23 3) (w.extractLsb' 20 3) (w.extractLsb' 17 3) (w.extractLsb' 13 3))
  else if w &&& 0xfc011fff#32 = 0x80000000#32 then some (execTellerCmp (w.extractLsb' 23 3) (w.extractLsb' 20 3) (w.extractLsb' 17 3) (w.extractLsb' 13 3))
  else if w &&& 0xfc0f0000#32 = 0x80010000#32 then some (execTellerCmpImm (w.extractLsb' 23 3) (w.extractLsb' 20 3) (w.extractLsb' 13 3) (w.extractLsb' 0 13))
  else if w &&& 0xfc01fff8#32 = 0x84000000#32 then some (execTellerSel (w.extractLsb' 23 3) (w.extractLsb' 20 3) (w.extractLsb' 17 3) (w.extractLsb' 0 3))
  else if w &&& 0xfc0f1fff#32 = 0x88000000#32 ∧ (w.extractLsb' 13 3).toNat ≤ 5 then some (execTellerSat (w.extractLsb' 23 3) (w.extractLsb' 20 3) (w.extractLsb' 13 3))
  else if w &&& 0xfc01ffff#32 = 0x8c000000#32 then some (execTellerMrg (w.extractLsb' 23 3) (w.extractLsb' 20 3) (w.extractLsb' 17 3))
  else if w &&& 0xfc7fe000#32 = 0x90000000#32 then some (execTellerLimm (w.extractLsb' 23 3) (w.extractLsb' 0 13))
  else none

/-! ### Routine tables and their cached entries (R277 to R279) -/

/-- Byte `i` of a routine entry. -/
def entryByte (e : BitVec 1024) (i n : Nat) : Nat := field e.toNat (8 * i) (8 * n)

/-- Instruction `j` of an entry. -/
def entryCode (e : BitVec 1024) (j : Nat) : BitVec 32 := e.extractLsb' (32 * j) 32

/-- An entry is well formed, EN apart (R278). -/
def entryOk (e : BitVec 1024) : Bool :=
  let head := entryByte e 64 8
  let len := field head 0 5
  bitAt head 63 && field head 5 58 = 0 && 1 ≤ len && len ≤ 16 && entryByte e 72 56 = 0
    && (List.range 16).all fun j => if j < len then (tellerMeaning (entryCode e j)).isSome else entryCode e j = 0

/-- The entry of a tenant's table as it stands; 0, which no check accepts, where EN is 0 or the line cannot be read. -/
def State.tableEntry (s : State) (tenant id : Nat) : BitVec 1024 :=
  let b := (s.ctlGet (Ctl.TLBASE tenant)).toNat
  let a := field b 13 39 * 8192 + 128 * id
  if bitAt b 0 && a < hbmSize && !s.poisoned a 128 && !s.lostIn a 128 then BitVec.ofNat 1024 (s.natAt a 128) else 0

/-- The entry that a call at the home slice of `pa` uses, and the state with it cached: the slice's cached one or, until a TLINV, the
table's, which then takes the cached one's place, as a free choice falls (R279). A peer's table is not this module's: its entry is a
free value. -/
def State.routineEntry (s : State) (tenant id pa : Nat) : BitVec 1024 × State :=
  let key := routineKey (sliceOf pa) tenant id
  let now := s.tableEntry tenant id
  let fill : State := { s with routines := Map.put s.routines key now }
  if hbmSize ≤ pa then (BitVec.ofNat 1024 (s.freeVal 0), s.drew 1)
  else match Map.find s.routines key with
    | none => (now, fill)
    | some old => if old = now then (now, s) else if s.freeVal 0 % 2 = 0 then (old, s.drew 1) else (now, fill.drew 1)

/-! ### The hold (R280, R287, R290) -/

/-- The new value of an atomic of operation `o` on `w` bits, none where ACAS fails, and its flags (R286, R288). -/
def atomicNew (o : Nat) (f : Fmt) (w old v cmp : Nat) : Option Nat × Flags :=
  let so := signedOf w old
  let sv := signedOf w v
  match o with
  | 0x60 => (some ((old + v) % 2 ^ w), 0)
  | 0x61 => (some (old &&& v), 0)
  | 0x62 => (some (old ||| v), 0)
  | 0x63 => (some (old ^^^ v), 0)
  | 0x64 => (some (if so ≤ sv then old else v), 0)
  | 0x65 => (some (if so ≤ sv then v else old), 0)
  | 0x66 => (some v, 0)
  | 0x67 => (if old = cmp then some v else none, 0)
  | 0x68 => (some (min old v), 0)
  | 0x69 => (some (max old v), 0)
  | 0x6A => ((sumIn f old v).map some id)
  | 0x6B => ((minMaxFloat fmtn0 f false old v).map some id)
  | _ => ((minMaxFloat fmtn0 f true old v).map some id)

/-- The hold of an atomic: one read-modify-write (R287, R289). -/
def State.holdAtomic (s : State) (r : SliceReq) (o : Nat) (f : Fmt) : State :=
  let w := codeWidth fmtn0 f
  let n := w / 8
  let s := (s.coreStep r.core).endOwnedIn (r.pa / 128 * 128) 128
  if s.lostIn r.pa n || s.poisoned r.pa n then s.failUe r.core r.dst 0 false (s.lostIn r.pa n) r.va r.pc r.pa
  else
    let old := s.natAt r.pa n
    let (new, fl) := atomicNew o f w old (field r.arg0.toNat 0 w) (field r.arg1.toNat 0 w)
    let s := match new with
      | some v =>
        let s := (s.homeWrite (.core r.core r.tenant r.scope) r.pa (toBytes n v)).1
        if r.bad then s.poisonRange r.pa n else s
      | none => s
    let ret : Word64 := if f = .int32 then BitVec.ofInt 64 (signedOf 32 old) else BitVec.ofNat 64 old
    s.landPair r.core r.dst ret (fl.zeroExtend 64) fl r.bad

/-- The hold of a call begins (R275, R280), or the call fails (R284). -/
def State.holdCall (s : State) (r : SliceReq) : State :=
  let (e, s) := s.routineEntry r.tenant r.id r.pa
  let due := (s.core r.core).pairDue s.clk
  if !entryOk e then (s.landPair r.core r.dst 0 0x200 0 false).tellerFault r.core 2 r.id due r.pc r.va
  else
    let line := r.pa / 128 * 128
    let s := (s.coreStep r.core).endOwnedIn line 128
    if s.lostIn line 128 || s.poisoned line 128 then s.failUe r.core r.dst r.id true (s.lostIn line 128) r.va r.pc line
    else
      let h := ((Vector.replicate 8 (0 : Word64)).set 0 r.arg0 |>.set 1 r.arg1) |>.set 2 (BitVec.ofNat 64 (r.pa % 128))
      { s with teller := some { core := r.core, dst := r.dst, tenant := r.tenant, id := r.id, line := line, va := r.va, pc := r.pc, scope := r.scope, h := h,
                                data := BitVec.ofNat 1024 (s.natAt line 128), bad := r.bad,
                                code := (List.range (field (entryByte e 64 8) 0 5)).map (entryCode e) } }

/-- The `k`-th request of core `c` takes its hold; while a routine runs, requests wait (R280). -/
def State.sliceHold (s : State) (c k : Nat) : State :=
  match s.teller, (s.sliceReqs.filter (·.core = c))[k]? with
  | none, some r =>
    let s := { s with sliceReqs := s.sliceReqs.erase r }
    match r.op with
    | some (o, f) => s.holdAtomic r o f
    | none => s.holdCall r
  | _, _ => s

/-- The routine's next instruction runs. -/
def State.tellerStep (s : State) (t : TellerRun) : Host.Outcome State Fault Refusal :=
  match (t.code.head?).bind tellerMeaning with
  | some f => f s
  | none => .next (s.finishCall t)

end Sys2Proof.Machine
end

