-- ==== Sys2Proof/Machine/CsrOps.lean ====
section
/-! DEFINITION. CSRs as they are read and written, and what writing SPLIT, TCMP, EFCAUSE and PGREQ does (R5, R93, R123, R138, R150,
R151, R201, R202, R313, R346). -/

namespace Sys2Proof.Machine

open Sys2Proof

/-! ### Reading -/

/-- BLKST (R138). -/
def Core.blkst (k : Core) : Word64 :=
  let mask (p : Block → Bool) : Nat := k.blocks.foldl (fun m e => if p e.2 then m ||| 2 ^ e.1 else m) 0
  BitVec.ofNat 64 (mask (fun _ => true) + mask (·.done) * 2 ^ 16 + mask (·.fault) * 2 ^ 32)

/-- FFLAGS: the flags that have landed, and of those in flight a free choice (R93). -/
def Core.fflagsAt (k : Core) (clk pick : Nat) : Word64 :=
  let extra := (List.range k.windows.length).foldl (fun (f : Flags) i => match k.windows[i]? with
    | some w => if w.opens clk && !bitAt pick i then f else f ||| w.flags
    | none => f) 0
  let es := (List.range 64).flatMap fun q => vget [] k.regs.q q
  let pushed := (List.range es.length).foldl (fun (f : Flags) i => match es[i]? with
    | some e => if e.isIn clk || bitAt pick (k.windows.length + i) then f ||| e.flags else f
    | none => f) 0
  k.csrGet Csr.FFLAGS ||| (extra ||| pushed).zeroExtend 64

/-- FRAME as core `c` reads it (R14, R313, R328). -/
def State.frameOf (s : State) (c : Nat) : Nat := s.tframe (s.tenantNow c)

/-- The image of CSR `n` of core `c` that governs a bundle at issue (R201). -/
def State.csrRead (s : State) (c n pick : Nat) : Word64 :=
  let k := s.core c
  if n = Csr.FFLAGS then k.fflagsAt s.clk pick
  else if n = Csr.FMTN then k.fmtImage
  else if n = Csr.BLKST then k.blkst
  else if n = Csr.EFCAUSE then k.efcause.1
  else if n = Csr.EFADDR then k.efcause.2.1
  else if n = Csr.EFPC then k.efcause.2.2
  else if n = Csr.BERTHST then k.berthst
  else if n = Csr.PLANST then k.planst
  else if n = Csr.FRAME then BitVec.ofNat 64 (s.frameOf c)
  else if n = Csr.AGE then BitVec.ofNat 64 (s.tenantAge (s.tenantNow c))
  else if n = Csr.CRDEPTH then BitVec.ofNat 64 k.contain.regions.length
  else if n = Csr.CRCAUSE then k.contain.cause
  else if n = Csr.CRADDR then k.contain.addr
  else if n = Csr.CRPC then k.contain.pc
  else if n = Csr.LCMAP then (match s.logicalOf c with | some l => BitVec.ofNat 64 (2 ^ 63 + l) | none => 0)
  else k.csrGet n

/-! ### Writing -/

/-- Which instruction forms the image: CSRW, CSRS or CSRC. -/
inductive CsrForm where
  | w | s | c
deriving DecidableEq, Repr

/-- The image that a form presents, on the old image and s[SA] (R201). -/
def CsrForm.image (f : CsrForm) (old v : Word64) : Word64 :=
  match f with
  | .w => v
  | .s => old ||| v
  | .c => old &&& ~~~v

/-- The ones that a form presents to W1C fields: CSRC never clears one, CSRS clears those whose bit is set in s[SA]. -/
def CsrForm.ones (f : CsrForm) (v : Word64) : Word64 := match f with | .c => 0 | _ => v

/-- A stored CSR takes a presented image field by field (R5). -/
def Core.csrStore (k : Core) (n : Nat) (v ones : Word64) : Core :=
  let m := csrMask n
  let old := k.csrGet n
  k.csrPut n (((old &&& ~~~m) ||| (v &&& m)) &&& ~~~(csrW1c n &&& ones))

/-- A request that touches its core's SRAM (R123). -/
def ReqOp.touchesSram : ReqOp → Bool
  | .copy _ mode .. => mode ≠ 0
  | .ldblk .. => true
  | .wbblk .. => true
  | .evblk .. => true
  | .rpush .. => true
  | .gath sp .. => sp
  | .scat sp .. => sp
  | .scata sp .. => sp
  | .red sp .. => sp
  | .send sp .. => sp
  | .recv sp .. => sp
  | _ => false

/-- A write of SPLIT waits: an access to this core's SRAM is in flight (R123). -/
def Core.splitWaits (k : Core) : Bool := ((k.e0.reqs ++ k.e1.reqs).any fun r => r.op.touchesSram) || k.passes ≠ []

/-- SPLIT takes `v` (R123): the L1 lines go, with the ownerships they hold and the load-blocks; bytes that become scratchpad are
undefined. -/
def State.splitWrite (s : State) (c : Nat) (v : Word64) : State :=
  let s := s.endOwned fun _ o => o = c
  let k := s.core c
  let old := k.spSize
  let k := { k.csrStore Csr.SPLIT v 0 with blocks := [] }
  let new := k.spSize
  let k := (k.spForget old new (s.free + 8192))
  let k := { k with scratchPoison := k.scratchPoison.filter fun g => !(old ≤ 8 * g && 8 * g < new) }
  (s.setCore c k).drew (8192 + 4194304)

/-- The timer of core `c` fires when it is armed and FRAME has reached CMP (R313). -/
def State.timerCheck (s : State) (c : Nat) : State :=
  let k := s.core c
  let t := (k.csrGet Csr.TCMP).toNat
  let f := s.frameOf c
  if bitAt t 63 && t % 2 ^ 63 ≤ f then
    s.setCore c { k.csrPut Csr.TCMP (BitVec.ofNat 64 (t % 2 ^ 63)) with
      notice := { k.notice with timer := some (k.notice.timer.getD (BitVec.ofNat 64 f)) } }
  else s

/-- TCMP takes `v` (R313). -/
def State.tcmpWrite (s : State) (c : Nat) (v : Word64) : State := (s.onCore c fun k => k.csrStore Csr.TCMP v 0).timerCheck c

/-- A page-in is asked for with image `v` of PGREQ: the MSI goes out, and the tender waits (R346, R422). -/
def State.pageinRequest (s : State) (c : Nat) (v : Word64) : State :=
  (s.onCore c fun k => { k.csrStore Csr.PGREQ v 0 with pagein := true, pageinAns := none }).msi 1 c

/-- The answer of a page-in reaches FAIL (R346). -/
def Core.pageinTake (k : Core) : Core :=
  let f := k.pageinAns.getD false
  { k.csrPut Csr.PGREQ (BitVec.ofNat 64 (setField (k.csrGet Csr.PGREQ).toNat 1 1 (bit f))) with pagein := false, pageinAns := none }

/-- ACT of a presented EFCAUSE image (R150). -/
def State.actWrite (s : State) (c : Nat) (v : Word64) : State :=
  match field v.toNat 60 2 with
  | 1 => s.resolveRecord c false
  | 2 => s.resolveRecord c true
  | _ => s

/-- The effect of presenting image `v`, with ones `w` for W1C fields, to CSR `n` of core `c` (R5, R201). -/
def State.csrWrite (s : State) (c n : Nat) (v w : Word64) : State :=
  if n = Csr.EFCAUSE then s.actWrite c v
  else if n = Csr.SPLIT then s.splitWrite c v
  else if n = Csr.TCMP then s.tcmpWrite c v
  else if n = Csr.PGREQ then s.onCore c Core.pageinTake
  else s.onCore c fun k => k.csrStore n v w

/-- The slot of CSRR (R201). -/
def slotCsrr (g : Guard) (d : SReg) (n : BitVec 12) : Slot :=
  { pos := 0, guard := g, writes := [.s d.toNat], priv := csrPrivRead n.toNat,
    run := fun x s => s.onCore x.c fun k =>
      k.resultS x.s.clk 2 d (x.s.csrRead x.c n.toNat (x.free 193)) false 0 (x.free 192) }

/-- A CSR write: SPLIT waits for the SRAM, PGREQ for its answer. -/
def csrWriteSlot (f : CsrForm) (g : Guard) (n : BitVec 12) (a : SReg) : Slot :=
  let image (x : Ctx) : Word64 := f.image (if n = 0x001 then x.k.csrGet Csr.FFLAGS else x.s.csrRead x.c n.toNat 0) (x.sr a)
  { pos := 0, guard := g, reads := [.s a.toNat], eats := [a], priv := csrPrivWrite n.toNat || csrPrivRead n.toNat,
    wait := fun x =>
      if n.toNat = Csr.SPLIT then (if x.k.splitWaits then some x.s else none)
      else if n.toNat = Csr.PGREQ then
        if x.k.pageinAns.isSome then none else some (if x.k.pagein then x.s else x.s.pageinRequest x.c (image x))
      else none,
    run := fun x s => s.csrWrite x.c n.toNat (image x) (f.ones (x.sr a)) }

/-- The slot of CSRW (R201). -/
def slotCsrw (g : Guard) (n : BitVec 12) (a : SReg) : Slot := csrWriteSlot .w g n a
/-- The slot of CSRS (R201). -/
def slotCsrs (g : Guard) (n : BitVec 12) (a : SReg) : Slot := csrWriteSlot .s g n a
/-- The slot of CSRC (R201). -/
def slotCsrc (g : Guard) (n : BitVec 12) (a : SReg) : Slot := csrWriteSlot .c g n a

/-! ### The meaning of each instruction of this file -/
def execCsrr (g : Guard) (d : SReg) (n : BitVec 12) (s : State) : Host.Outcome State Fault Refusal :=
  issueOne (formFault (.csrr g d n)) (slotCsrr g d n) s
/-- CSRW (R201). -/
def execCsrw (g : Guard) (n : BitVec 12) (a : SReg) (s : State) : Host.Outcome State Fault Refusal :=
  issueOne (formFault (.csrw g n a)) (slotCsrw g n a) s
/-- CSRS (R201). -/
def execCsrs (g : Guard) (n : BitVec 12) (a : SReg) (s : State) : Host.Outcome State Fault Refusal :=
  issueOne (formFault (.csrs g n a)) (slotCsrs g n a) s
/-- CSRC (R201). -/
def execCsrc (g : Guard) (n : BitVec 12) (a : SReg) (s : State) : Host.Outcome State Fault Refusal :=
  issueOne (formFault (.csrc g n a)) (slotCsrc g n a) s

end Sys2Proof.Machine
end

