-- ==== Sys2Proof/Machine/Logical.lean ====
section
/-! DEFINITION. The logical instructions, FORCE, and the planner instructions (R230 to R247, R267 to R273, R438). -/

namespace Sys2Proof.Machine

open Sys2Proof

/-! ### Descriptors and records at issue (R115, R237, R240) -/

/-- The checks of a descriptor register that a logical instruction reads: R115, and a PENDING register's node is live. -/
def nodeFault (x : Ctx) (d : DReg) : Option SlotFault :=
  let v := x.dr d
  let dead := match pendingNode v with
    | some n => (Map.find x.k.berth.nodes n).isNone
    | none => false
  (dataIf (x.s.descBad v (x.k.regs.dpend.getLsbD d.toNat) || dead)).or
    (alignIf (descMisaligned x.k.fmtn v) (BitVec.ofInt 64 (descBase v)) false)

/-- The checks of `n` doublewords of a record that is read at issue on the CORE path; `m` is its alignment. -/
def recordFault (x : Ctx) (a : SReg) (m n : Nat) : Option SlotFault :=
  (alignIf ((x.sr a).toNat % m ≠ 0) (x.sr a) false).or
    ((List.range n).findSome? fun i => x.dataFault .read false (addr (x.sr a).toNat (8 * i)) 8)

/-- Doubleword `i` of a record: its value, poison, and whether it meets a POISON word, when it is a free value. -/
def Ctx.recordWord (x : Ctx) (va i : Nat) : Nat × Bool × Bool :=
  let a := addr va (8 * i)
  let r := x.readMem (x.pa .read a) 8 (200 + i)
  if r.2.2 then (x.free (210 + i) % 2 ^ 64, false, true) else r

/-- What reading a record leaves: translations, and what its doublewords met (R304, R363). -/
def touchRecord (x : Ctx) (va n : Nat) (s : State) : State :=
  (List.range n).foldl (fun s i =>
    let a := addr va (8 * i)
    let r := x.recordWord va i
    let pa := x.pa .read a
    (x.lookMem pa 8 (200 + i) (s.touch x.c x.root .read a)).report x.c (BitVec.ofNat 64 a) x.pc pa { lost := r.2.2, ue := r.2.1 }) s

/-- The 48 bytes of a region record at `va`. -/
def Ctx.regionBytes (x : Ctx) (va : Nat) : List Byte := (List.range 6).flatMap fun i => toBytes 8 (x.recordWord va i).1

/-- The region of a record for rank `r`, refused where a word at or above the rank is not zero or the region leaves `es`. -/
def Ctx.regionOf (x : Ctx) (va : Nat) (es : List Nat) : Option Region6 :=
  let (r, long) := recordRegion es.length (x.regionBytes va)
  if long || !regionIn r es then none else some r

/-! ### Index maps (R232, R233, R237) -/

def mapAffine (p o : Nat) : BitVec 32 := BitVec.ofNat 32 (1 * 2 ^ 29 + p * 2 ^ 26 + o % 2 ^ 24)
def mapFull : BitVec 32 := BitVec.ofNat 32 (2 * 2 ^ 29)
def mapData : BitVec 32 := BitVec.ofNat 32 (3 * 2 ^ 29)

/-- The 12 map words of two inputs of ranks `ra` and `rb`. -/
def mapsOf (ra rb : Nat) (fa fb : Nat → BitVec 32) : List (BitVec 32) :=
  (List.range 6).map (fun e => if e < ra then fa e else 0) ++ (List.range 6).map fun e => if e < rb then fb e else 0

/-- The identity map. -/
def mapSame (e : Nat) : BitVec 32 := mapAffine e 0

/-! ### Shapes and parameters (R237) -/

/-- What a logical instruction makes of its operands: nothing where a shape rule or a parameter is refused. -/
structure Recipe where
  maps : List (BitVec 32)
  param : Word64 := 0
  record : Word64 := 0

/-- The extents of a descriptor on this module. -/
def Ctx.ext (x : Ctx) (d : Desc) : List Nat := x.s.extents d

/-- LMUL. -/
def shapeMul (x : Ctx) (d a b : Desc) : Option Recipe :=
  let ed := x.ext d
  let ea := x.ext a
  let eb := x.ext b
  let r := ea.length
  let ok : Bool := 2 ≤ r && eb.length = r && ed.length = r && ea.getD 0 0 = eb.getD 1 0 && ed.getD 0 0 = eb.getD 0 0
    && ed.getD 1 0 = ea.getD 1 0 && ea.drop 2 = ed.drop 2 && eb.drop 2 = ed.drop 2
    && descFmtCode a = descFmtCode b && isPass (descFmt a) && isFvIwB8 (descFmt d)
  if ok then some { maps := mapsOf r r (fun e => if e = 0 then mapFull else mapAffine e 0)
                              (fun e => if e = 0 then mapAffine 0 0 else if e = 1 then mapFull else mapAffine e 0) }
  else none

/-- LADD: all shapes equal. -/
def shapeAdd (x : Ctx) (d a b : Desc) : Option Recipe :=
  let ea := x.ext a
  if ea = x.ext b && ea = x.ext d then some { maps := mapsOf ea.length ea.length mapSame mapSame } else none

/-- Equal shapes of one input. -/
def shapeSame (x : Ctx) (d a : Desc) : Option Recipe :=
  let ea := x.ext a
  if ea = x.ext d then some { maps := mapsOf ea.length 0 mapSame mapSame } else none

/-- LMAP: the function and the bits it uses. -/
def shapeMap (x : Ctx) (d a : Desc) (p : Word64) : Option Recipe :=
  let fn := field p.toNat 56 8
  let used : Nat := if fn = 7 then 8 else if fn = 8 || fn = 9 then 32 else 0
  if 9 < fn || field p.toNat 0 56 / 2 ^ used ≠ 0 || (3 ≤ fn && fn ≤ 6 && fmtIsInt (descFmt a)) then none
  else (shapeSame x d a).map fun s => { s with param := p }

/-- LFILT: doubleword 0 of its record. -/
def shapeFilt (x : Ctx) (d a : Desc) (va : Word64) : Option Recipe :=
  let w := (x.recordWord va.toNat 0).1
  let ea := x.ext a
  let ed := x.ext d
  let r := ea.length
  if field w 3 29 = 0 && field w 0 3 ≤ 5 && ed.length = r && ea.getLastD 0 ≤ ed.getLastD 0 && ea.dropLast = ed.dropLast then
    some { maps := mapsOf r 0 (fun e => if e = r - 1 then mapData else mapSame e) mapSame, param := BitVec.ofNat 64 w, record := va }
  else none

/-- LRED. -/
def shapeRed (x : Ctx) (d a : Desc) (p : Word64) : Option Recipe :=
  let ea := x.ext a
  let ed := x.ext d
  let q := field p.toNat 0 3
  let all := bitAt p.toNat 3
  let red (e : Nat) : Bool := all || e = q
  if q < ea.length && field p.toNat 4 2 ≠ 3 && p.toNat / 64 = 0 && ed.length = ea.length
      && (List.range ea.length).all fun e => ed.getD e 0 = (if red e then 1 else ea.getD e 0) then
    some { maps := mapsOf ea.length 0 (fun e => if red e then mapFull else mapSame e) mapSame, param := p }
  else none

/-- The index tensor of LGATH and LSCAT has rank 1, an accepted format and extent `n`. -/
def indexOk (x : Ctx) (i : Desc) (n : Nat) : Bool :=
  let f := descFmtCode i
  x.ext i = [n] && (f = 4 || f = 5 || f = 9)

/-- LGATH. -/
def shapeGath (x : Ctx) (d a b : Desc) : Option Recipe :=
  let ea := x.ext a
  let ed := x.ext d
  let r := ea.length
  if ed.length = r && ea.dropLast = ed.dropLast && indexOk x b (ed.getLastD 0) then
    some { maps := mapsOf r 1 (fun e => if e = r - 1 then mapData else mapSame e) fun _ => mapAffine (r - 1) 0 }
  else none

/-- LSCAT. -/
def shapeScat (x : Ctx) (d a b : Desc) : Option Recipe :=
  let ea := x.ext a
  let ed := x.ext d
  let r := ea.length
  if ed.length = r && ea.dropLast = ed.dropLast && indexOk x b (ea.getLastD 0) then
    some { maps := mapsOf r 1 (fun e => if e = r - 1 then mapData else mapSame e) fun _ => mapFull }
  else none

/-- LCVT: equal shapes, and FMT is D's. -/
def shapeCvt (x : Ctx) (f : Fmt) (d a : Desc) : Option Recipe :=
  if descFmtCode d = codeOfFmt f then shapeSame x d a else none

/-- LXPOSE. -/
def shapePose (x : Ctx) (d a : Desc) (p : Word64) : Option Recipe :=
  let ea := x.ext a
  let ed := x.ext d
  let r := ea.length
  let perm := (List.range r).map (permOf p)
  if ed.length = r && p.toNat / 2 ^ (3 * r) = 0 && ((List.range r).all fun e => e ∈ perm)
      && (List.range r).all fun i => ed.getD i 0 = ea.getD (perm.getD i 0) 0 then
    some { maps := mapsOf r 0 (fun e => mapAffine (perm.idxOf e) 0) mapSame, param := p }
  else none

/-- LSLICE: its region record. -/
def shapeSlice (x : Ctx) (d a : Desc) (va : Word64) : Option Recipe :=
  match x.regionOf va.toNat (x.ext a) with
  | none => none
  | some r =>
    if x.ext d = r.map (·.2) then some { maps := mapsOf r.length 0 (fun e => mapAffine e (r.getD e (0, 0)).1) mapSame } else none

/-! ### Logical instructions at issue (R231, R236, R237, R243, R244) -/

/-- The number of entries of the source-range table that inputs take (R244). -/
def rangeNeed (ins : List Desc) : Nat := (ins.filter fun d => pendingNode d = none).length

/-- A logical instruction finds the berth table full, or too few source-range entries free (R243, R244). -/
def Berth.short (b : Berth) (need : Nat) : Bool := 256 ≤ b.nodes.length || 32 < b.sourceUse + need

/-- The node of a logical instruction (R230). -/
def Ctx.newNode (x : Ctx) (op : Nat) (sub : RM) (f : Nat) (d a b : Desc) (sh : Recipe) : BNode :=
  { op := op, sub := sub, fmt := f, param := sh.param, dst := d, a := a, b := b, maps := sh.maps, pc := x.pc, seq := x.k.berth.seq, seed := x.seed,
    record := sh.record, fmtn := x.k.fmtImage.toNat, lateIndex := (op = 5 || op = 6) && (pendingNode b).isSome }

/-- The core with node `n` entered. -/
def Core.enterNode (k : Core) (n : Nat) (nd : BNode) : Core :=
  { k with berth := { k.berth with nodes := Map.put k.berth.nodes n nd, seq := k.berth.seq + 1 } }

/-- A logical instruction other than LSTORE: `ins` are its input descriptors, `srcs` its parameter scalar; `rec` is the alignment
and the doublewords of a record read at issue, if any, which is read once an earlier atomic or call has had its hold (R290). -/
def logicalSlot (op : Nat) (g : Guard) (r : RM) (f : Nat) (d a : DReg) (b : Option DReg) (srcs : List SReg) (rec_ : Option (Nat × Nat))
    (shape : Ctx → Desc → Desc → Desc → Option Recipe) : Slot :=
  let second (x : Ctx) : Desc := (b.map x.dr).getD 0
  let ins (x : Ctx) : List Desc := x.dr a :: (b.map x.dr).toList
  let p := srcs.headD 0
  { pos := 3, guard := g, reads := ([d, a] ++ b.toList).map (fun n => .d n.toNat) ++ srcs.map (fun n => .s n.toNat) ++ seedReads r,
    writes := [.d d.toNat], eats := srcs ++ seedEats (seedReads r), mem := rec_.isSome,
    check := fun x =>
      ((([d, a] ++ b.toList).findSome? (nodeFault x)).or ((rec_.bind fun m => recordFault x p m.1 m.2))).or
        ((dataIf (!(rec_.isSome && x.s.sliceWaits x.c) && (shape x (x.dr d) (x.dr a) (second x)).isNone)).or
          (dataIf (x.k.berth.short (rangeNeed (ins x)) && !x.k.windowOk))),
    wait := fun x => x.s.overflowWait x.c (x.k.berth.short (rangeNeed (ins x))) 8,
    run := fun x s =>
      match shape x (x.dr d) (x.dr a) (second x) with
      | none => s
      | some sh =>
        let s := match rec_ with
          | some m => touchRecord x (x.sr p).toNat m.2 s
          | none => s
        s.onCore x.c fun k =>
          let n := k.berth.freeNode
          (k.enterNode n (x.newNode op r f (x.dr d) (x.dr a) (second x) sh)).setD d (descMark (x.dr d) 1 n) true }

/-- The slot of LMUL (R237). -/
def slotLmul (g : Guard) (r : RM) (d a b : DReg) : Slot := logicalSlot 0 g r 0 d a (some b) [] none shapeMul
/-- The slot of LADD (R237). -/
def slotLadd (g : Guard) (r : RM) (d a b : DReg) : Slot := logicalSlot 1 g r 0 d a (some b) [] none shapeAdd
/-- The slot of LMAP (R237). -/
def slotLmap (g : Guard) (r : RM) (d a : DReg) (b : SReg) : Slot :=
  logicalSlot 2 g r 0 d a none [b] none fun x dv av _ => shapeMap x dv av (x.sr b)
/-- The slot of LFILT (R242). -/
def slotLfilt (g : Guard) (r : RM) (d a : DReg) (b : SReg) : Slot :=
  logicalSlot 3 g r 0 d a none [b] (some (16, 1)) fun x dv av _ => shapeFilt x dv av (x.sr b)
/-- The slot of LRED (R237). -/
def slotLred (g : Guard) (r : RM) (d a : DReg) (b : SReg) : Slot :=
  logicalSlot 4 g r 0 d a none [b] none fun x dv av _ => shapeRed x dv av (x.sr b)
/-- The slot of LGATH (R237). -/
def slotLgath (g : Guard) (r : RM) (d a b : DReg) : Slot := logicalSlot 5 g r 0 d a (some b) [] none shapeGath
/-- The slot of LSCAT (R237). -/
def slotLscat (g : Guard) (r : RM) (d a b : DReg) : Slot := logicalSlot 6 g r 0 d a (some b) [] none shapeScat
/-- The slot of LCVT (R237). -/
def slotLcvt (g : Guard) (f : Fmt) (r : RM) (d a : DReg) : Slot :=
  logicalSlot 7 g r (codeOfFmt f) d a none [] none fun x dv av _ => shapeCvt x f dv av
/-- The slot of LXPOSE (R237). -/
def slotLxpose (g : Guard) (r : RM) (d a : DReg) (b : SReg) : Slot :=
  logicalSlot 8 g r 0 d a none [b] none fun x dv av _ => shapePose x dv av (x.sr b)
/-- The slot of LSLICE (R237). -/
def slotLslice (g : Guard) (r : RM) (d a : DReg) (b : SReg) : Slot :=
  logicalSlot 9 g r 0 d a none [b] (some (8, 6)) fun x dv av _ => shapeSlice x dv av (x.sr b)

/-! ### Demands by instructions (R239 to R241, R268, R272, R438) -/

/-- The demand of kind `why` by the bundle at `pc` has completed: the handle of the plan that ran. -/
def Berth.forcedBy (b : Berth) (why : Nat) (pc : Word64) : Option (BitVec 32) :=
  (b.forced.find? fun e => e.1 = why && e.2.1 = pc).map fun e => e.2.2

/-- A FORCE or LSTORE commits (R268, R272): the handle it ran is the most recent one, and PHWORD is cleared. -/
def Core.demandCommits (k : Core) (why : Nat) (pc : Word64) : Core :=
  let h := (k.berth.forcedBy why pc).getD 0
  { k.csrPut Csr.PHWORD 0 with berth := { k.berth with last := h, forced := k.berth.forced.filter fun e => e.1 ≠ why } }

/-- LSTORE (R438): its node, its demand over the whole extent, and at the commit d[DST] MATERIAL. -/
def slotLstore (g : Guard) (r : RM) (d a : DReg) : Slot :=
  { pos := 3, guard := g, reads := [.d d.toNat, .d a.toNat] ++ seedReads r, writes := [.d d.toNat], eats := seedEats (seedReads r),
    check := fun x => ((nodeFault x d).or (nodeFault x a)).or
      (dataIf ((shapeSame x (x.dr d) (x.dr a)).isNone || ((x.k.berth.forcedBy 1 x.pc).isNone && !x.k.windowOk))),
    wait := fun x =>
      if (x.k.berth.forcedBy 1 x.pc).isSome then none
      else if x.k.berth.demand.isSome then some x.s
      else match x.s.overflowWait x.c (256 ≤ x.k.berth.nodes.length) 8 with
        | some s => some s
        | none =>
          if x.k.planWaits || x.s.sliceWaits x.c then some x.s
          else match shapeSame x (x.dr d) (x.dr a) with
            | none => some x.s
            | some sh =>
              let n := x.k.berth.freeNode
              let s := x.s.onCore x.c fun k => k.enterNode n (x.newNode 10 r 0 (x.dr d) (x.dr a) 0 sh)
              some (s.startDemand x.c n (wholeRegion (x.ext (x.dr d))) true 1 8),
    run := fun x s => s.onCore x.c fun k => (k.demandCommits 1 x.pc).setD d (descMark (x.dr d) 0 0) false }

/-- The region that a FORCE of descriptor `v` demands, by its region scalar (R240). -/
def Ctx.forceRegion (x : Ctx) (v : Desc) (a : SReg) : Option Region6 :=
  if x.sr a = 0 then some (wholeRegion (x.ext v)) else x.regionOf (x.sr a).toNat (x.ext v)

/-- FORCE (R240): a MATERIAL descriptor demands nothing. -/
def slotForce (g : Guard) (d : DReg) (a : SReg) : Slot :=
  { pos := 7, guard := g, reads := [.d d.toNat, .s a.toNat], eats := [a], tenderOk := false, mem := true,
    check := fun x => ((nodeFault x d).or (if x.sr a = 0 then none else recordFault x a 8 6)).or
      (dataIf ((!x.s.sliceWaits x.c && (x.forceRegion (x.dr d) a).isNone)
        || ((pendingNode (x.dr d)).isSome && (x.k.berth.forcedBy 0 x.pc).isNone && !x.k.windowOk))),
    wait := fun x =>
      match pendingNode (x.dr d) with
      | none => none
      | some n =>
        if (x.k.berth.forcedBy 0 x.pc).isSome then none
        else if x.k.berth.demand.isSome || x.k.planWaits || x.s.sliceWaits x.c then some x.s
        else match x.forceRegion (x.dr d) a with
          | none => some x.s
          | some r => some (x.s.startDemand x.c n r (r = wholeRegion (x.ext (x.dr d))) 0 128),
    run := fun x s =>
      let s := if x.sr a = 0 then s else touchRecord x (x.sr a).toNat 6 s
      s.onCore x.c fun k => k.demandCommits 0 x.pc }

/-! ### Plans and pins (R268, R269, R272) -/

/-- PHINT (R268). -/
def slotPhint (g : Guard) (a : SReg) : Slot :=
  { pos := 3, guard := g, reads := [.s a.toNat], eats := [a],
    check := fun x => dataIf ((x.sr a).toNat / 32 ≠ 0 || 5 ≤ field (x.sr a).toNat 1 3),
    run := fun x s => s.onCore x.c fun k => k.csrPut Csr.PHWORD (x.sr a) }

/-- The slot of PPIN (R269): the versions are read as planning reads them (R251). -/
def slotPpin (g : Guard) (a : SReg) : Slot :=
  let entry (x : Ctx) : Option (Nat × PlanEntry) := x.k.berth.current (x.sr a).toNat
  { pos := 3, guard := g, reads := [.s a.toNat], eats := [a], mem := true,
    check := fun x => dataIf (match entry x with | some e => !e.2.pin && 56 ≤ x.k.berth.pinned | none => true),
    run := fun x s => match entry x with
      | some (i, e) =>
        let e' := { e with pin := true, soundings := e.soundings.map fun p => (p.1, x.s.versionNow x.c p.1 (x.free 193)) }
        (s.soundingsLook x.c (e.soundings.map (·.1)) (x.free 193)).onCore x.c fun k => { k with berth := { k.berth with cache := Map.put k.berth.cache i e' } }
      | none => s }

/-- The slot of PUNPIN (R269). -/
def slotPunpin (g : Guard) (a : SReg) : Slot :=
  { pos := 3, guard := g, reads := [.s a.toNat], eats := [a],
    run := fun x s => match x.k.berth.current (x.sr a).toNat with
      | some (i, e) => s.onCore x.c fun k => { k with berth := { k.berth with cache := Map.put k.berth.cache i { e with pin := false } } }
      | none => s }

/-- The slot of PDROP (R269). -/
def slotPdrop (g : Guard) (a : SReg) : Slot :=
  { pos := 3, guard := g, reads := [.s a.toNat], eats := [a],
    run := fun x s => s.onCore x.c fun k =>
      let cache := if x.sr a = 0 then k.berth.cache.filter fun e => e.2.pin
        else match k.berth.current (x.sr a).toNat with
          | some (i, _) => Map.erase k.berth.cache i
          | none => k.berth.cache
      { k with berth := { k.berth with cache := cache } } }

/-- The value of a query (R272). -/
def Berth.query (b : Berth) (q : Nat) : Nat :=
  let n := field q 8 8
  match field q 0 8, b.current (field q 32 32) with
  | 0, _ => b.last.toNat
  | 1, some (_, e) => 2 ^ 63 + bit e.pin * 2 ^ 62 + bit e.reassoc * 2 ^ 61 + bit e.rpl * 2 ^ 60 + bit e.ovr * 2 ^ 59
                      + field e.choices.length 0 8 * 2 ^ 48
  | 2, some (_, e) => e.choices.getD n 0
  | _, _ => 0

/-- The slot of PQUERY (R272). -/
def slotPquery (g : Guard) (d a : SReg) : Slot :=
  { pos := 3, guard := g, reads := [.s a.toNat], writes := [.s d.toNat], eats := [a],
    check := fun x =>
      let q := (x.sr a).toNat
      let item := field q 0 8
      dataIf (field q 16 16 ≠ 0 || 2 < item || (item = 0 && (field q 32 32 ≠ 0 || field q 8 8 ≠ 0)) || (item = 1 && field q 8 8 ≠ 0)),
    run := fun x s => s.onCore x.c fun k =>
      k.resultS x.s.clk 8 d (BitVec.ofNat 64 (x.k.berth.query (x.sr a).toNat)) x.bad 0 (x.free 192) }

/-! ### Soundings (R249, R250, R270, R271) -/

/-- PSTATR. -/
def slotPstatr (g : Guard) (d : SReg) (a : DReg) (b : SReg) : Slot :=
  let va (x : Ctx) : Nat := addr (x.k.soundingVa (descSnd (x.dr a))) (8 * (x.sr b).toNat)
  let some_ (x : Ctx) : Bool := descSnd (x.dr a) ≠ 0
  { pos := 3, guard := g, reads := [.d a.toNat, .s b.toNat], writes := [.s d.toNat], eats := [b], mem := true,
    check := fun x => ((dataIf (x.s.descBad (x.dr a) (x.k.regs.dpend.getLsbD a.toNat))).or
      (alignIf (descMisaligned x.k.fmtn (x.dr a)) (BitVec.ofInt 64 (descBase (x.dr a))) false)).or
        ((dataIf (31 < (x.sr b).toNat)).or (if some_ x then x.dataFault .read false (va x) 8 else none)),
    run := fun x s =>
      if some_ x then
        let (v, bad, lost) := x.readMem (x.pa .read (va x)) 8 193
        (x.lookMem (x.pa .read (va x)) 8 193 (s.touch x.c x.root .read (va x))).onCore x.c fun k =>
          if lost then (k.addWindow x.s.clk (.s d.toNat) 8 0).raiseLost (BitVec.ofNat 64 (va x)) x.pc (x.s.clk + 8)
          else k.resultS x.s.clk 8 d (BitVec.ofNat 64 v) (x.bad || bad) 0 (x.free 192)
      else s.onCore x.c fun k => k.resultS x.s.clk 8 d 0 x.bad 0 (x.free 192) }

/-- ⌊log2|x|⌋ of a nonzero finite value. -/
def expOf : Val → Int
  | .fin _ m e => (m.log2 : Int) + e
  | _ => 0

/-- The histogram of z nonzero elements out of N by groups (R250): 16 buckets. -/
def histogram (zs : List Nat) (n : Nat) : List Nat :=
  (List.range 16).map fun b => (zs.filter fun z => min 15 (16 * z / n) = b).length

/-- A value is a NaN. -/
def nanIn (n : Fmtn) (f : Fmt) (v : Nat) : Bool := (valueOf n f v).isNan

/-- Values nondecreasing, none a NaN (R250). -/
def sortedVals : List Val → Bool
  | [] => true
  | [v] => !v.isNan
  | v :: w :: rest => !v.isNan && !ltVal w v && sortedVals (w :: rest)

/-- Bytes 8 to 255 of the sounding of a tensor's local elements, in region order (R249, R250); the histogram of groups without
an element is a free value. -/
def soundingBytes (n : Fmtn) (f : Fmt) (es : List Nat) (vs : List Nat) (free : Nat) : List Byte :=
  let vals := vs.map (valueOf n f)
  let nz := vals.map fun v => !v.isZero
  let total := vs.length
  let count := (nz.filter id).length
  let exps := (vals.filter fun v => v.isFinite && !v.isZero).map expOf
  let lo := exps.foldl min 32767
  let hi := exps.foldl max (-32768)
  let fin : Bool := fmtIsInt f || vals.all (·.isFinite)
  let rows := es.getLastD 0
  let cols := es.headD 0
  let idx := List.range total
  let reg := wholeRegion es
  let perRow := (List.range rows).map fun r => (idx.filter fun i => rowOf (regionAt reg i) = r && nz.getD i false).length
  let perCol := (List.range cols).map fun q => (idx.filter fun i => (regionAt reg i).headD 0 = q && nz.getD i false).length
  let hist (zs : List Nat) (groups : Nat) (off : Nat) : List Byte :=
    if total = 0 then toBytes 64 (if zs = [] then 0 else field free off 512)
    else (histogram zs (total / groups)).flatMap (toBytes 4)
  toBytes 4 (if total = 0 then 0 else count * 2 ^ 24 / total) ++ toBytes 2 (wrap 16 lo) ++ toBytes 2 (wrap 16 hi)
    ++ toBytes 1 (1 + bit fin * 2 + bit (sortedVals vals) * 4) ++ toBytes 3 0 ++ toBytes 4 (min 65535 vs.eraseDups.length)
    ++ toBytes 4 rows ++ toBytes 4 cols ++ hist perRow rows 0 ++ hist perCol cols 512 ++ List.replicate 96 0

/-- The checks that both forms of PSTAT make. -/
def pstatFault (x : Ctx) (a : DReg) : Option SlotFault :=
  let v := x.dr a
  ((dataIf (x.s.descBad v (x.k.regs.dpend.getLsbD a.toNat) || descState v = 1 || descSnd v = 0)).or
    (alignIf (descMisaligned x.k.fmtn v) (BitVec.ofInt 64 (descBase v)) false)).or
      (if descSnd v = 0 then none else x.dataFault .write false (x.k.soundingVa (descSnd v)) 8)

/-- The sounding takes bytes 8 to 255, and VERSION its atomic increment (R270). -/
def pstatWrite (x : Ctx) (a : DReg) (bs : List Byte) (bad : Bool) (s : State) : State :=
  let va := x.k.soundingVa (descSnd (x.dr a))
  let pa := x.pa .write va
  let s := (s.touch x.c x.root .write va)
  let s := (List.range 31).foldl (fun s i => x.writeMem (addr va (8 + 8 * i)) (pa + 8 + 8 * i) ((bs.drop (8 * i)).take 8) bad s) s
  let s := (s.coreStep x.c).endOwnedIn (pa / 128 * 128) 128
  let (s, met) := s.homeWrite (.core x.c (x.s.tenantNow x.c) .job) pa (toBytes 8 (s.natAt pa 8 + 1))
  s.report x.c (BitVec.ofNat 64 va) x.pc pa met

/-- The tensor's elements as PSTAT.scan reads them on the PLAN path, in region order. -/
def Ctx.scanElements (x : Ctx) (v : Desc) : List Elt :=
  let es := x.ext v
  let p : Plan := { c := x.c, root := x.root, pick := x.free 194 }
  (List.range (regionSize (wholeRegion es))).map fun i =>
    x.s.readElement x.c x.root x.k.fmtn v (regionAt (wholeRegion es) i) 0 (x.s.planBytes p)

/-- The first address at which the reading of elements fails. -/
def firstFail (es : List Elt) : Option Nat := (es.findSome? fun e => e.fails.head?).map fun f => f.2.2

/-- The slot of PSTAT_SCAN (R270). -/
def slotPstatScan (g : Guard) (a : DReg) : Slot :=
  let va (x : Ctx) : Nat := x.k.soundingVa (descSnd (x.dr a))
  { pos := 3, guard := g, reads := [.d a.toNat], mem := true,
    check := fun x => (pstatFault x a).or ((firstFail (x.scanElements (x.dr a))).map fun f =>
      { code := .dataFault, addr := BitVec.ofNat 64 f, detail := 2, pageable := true }),
    bytes := fun x => [byteRange (va x) 256],
    store := fun x s =>
      let es := x.scanElements (x.dr a)
      let met := Elt.of (x.scanElements (x.dr a)) 0 0
      let bs := soundingBytes x.k.fmtn (descFmt (x.dr a)) (x.ext (x.dr a)) (es.map (·.v)) (x.free 195)
      let s := pstatWrite x a bs met.bad (s.planRead { c := x.c, root := x.root, pick := x.free 194 } met.pages)
      let s := match met.lostAt with
        | some l => s.onCore x.c fun k => k.raiseLost (BitVec.ofNat 64 l) x.pc
        | none => s
      match met.ate with
      | some h => s.consumed x.c (s.memHolder h.1 (BitVec.ofNat 64 h.2)) x.pc
      | none => s }

/-- The 248 bytes that PSTAT.set reads from its record. -/
def Ctx.setBytes (x : Ctx) (b : SReg) : List Byte :=
  (List.range 31).flatMap fun i =>
    let a := addr (x.sr b).toNat (8 + 8 * i)
    toBytes 8 (x.readMem (x.pa .read a) 8 (193 + i)).1

/-- The record of PSTAT.set has a nonzero reserved bit, or a DENSITY above 2^24 (R270). -/
def setBad (bs : List Byte) : Bool :=
  2 ^ 24 < ofBytes (bs.take 4) || 8 ≤ ofBytes ((bs.drop 8).take 1) || ofBytes ((bs.drop 9).take 3) ≠ 0 || ofBytes (bs.drop 152) ≠ 0

/-- The slot of PSTAT_SET (R270). -/
def slotPstatSet (g : Guard) (a : DReg) (b : SReg) : Slot :=
  let va (x : Ctx) : Nat := x.k.soundingVa (descSnd (x.dr a))
  { pos := 3, guard := g, reads := [.d a.toNat, .s b.toNat], eats := [b], mem := true,
    check := fun x => ((pstatFault x a).or (alignIf ((x.sr b).toNat % 8 ≠ 0) (x.sr b) false)).or
      (((List.range 31).findSome? fun i => x.dataFault .read false (addr (x.sr b).toNat (8 + 8 * i)) 8).or (dataIf (!x.s.sliceWaits x.c && setBad (x.setBytes b)))),
    bytes := fun x => [byteRange (va x) 256],
    store := fun x s =>
      let words := (List.range 31).map fun i => x.readMem (x.pa .read (addr (x.sr b).toNat (8 + 8 * i))) 8 (193 + i)
      let bad := words.any (·.2.1)
      let lost := words.any (·.2.2)
      let at_ (i : Nat) : Nat := addr (x.sr b).toNat (8 + 8 * i)
      let s := (List.range 31).foldl (fun s i => x.lookMem (x.pa .read (at_ i)) 8 (193 + i) (s.touch x.c x.root .read (at_ i))) s
      let s := if lost then s else pstatWrite x a (x.setBytes b) (bad || x.bad) s
      match words.findIdx? fun w => w.2.1 || w.2.2 with
      | some i => s.report x.c (BitVec.ofNat 64 (at_ i)) x.pc (x.pa .read (at_ i)) { lost := lost, ue := bad }
      | none => s }

/-! ### The meaning of each instruction of this file -/
def execLmul (g : Guard) (r : RM) (d : DReg) (a : DReg) (b : DReg) (s : State) : Host.Outcome State Fault Refusal :=
  issueOne (formFault (.lmul g r d a b)) (slotLmul g r d a b) s
/-- LADD (R237). -/
def execLadd (g : Guard) (r : RM) (d : DReg) (a : DReg) (b : DReg) (s : State) : Host.Outcome State Fault Refusal :=
  issueOne (formFault (.ladd g r d a b)) (slotLadd g r d a b) s
/-- LMAP (R237). -/
def execLmap (g : Guard) (r : RM) (d : DReg) (a : DReg) (b : SReg) (s : State) : Host.Outcome State Fault Refusal :=
  issueOne (formFault (.lmap g r d a b)) (slotLmap g r d a b) s
/-- LFILT (R242). -/
def execLfilt (g : Guard) (r : RM) (d : DReg) (a : DReg) (b : SReg) (s : State) : Host.Outcome State Fault Refusal :=
  issueOne (formFault (.lfilt g r d a b)) (slotLfilt g r d a b) s
/-- LRED (R237). -/
def execLred (g : Guard) (r : RM) (d : DReg) (a : DReg) (b : SReg) (s : State) : Host.Outcome State Fault Refusal :=
  issueOne (formFault (.lred g r d a b)) (slotLred g r d a b) s
/-- LGATH (R237). -/
def execLgath (g : Guard) (r : RM) (d : DReg) (a : DReg) (b : DReg) (s : State) : Host.Outcome State Fault Refusal :=
  issueOne (formFault (.lgath g r d a b)) (slotLgath g r d a b) s
/-- LSCAT (R237). -/
def execLscat (g : Guard) (r : RM) (d : DReg) (a : DReg) (b : DReg) (s : State) : Host.Outcome State Fault Refusal :=
  issueOne (formFault (.lscat g r d a b)) (slotLscat g r d a b) s
/-- LCVT (R237). -/
def execLcvt (g : Guard) (f : Fmt) (r : RM) (d : DReg) (a : DReg) (s : State) : Host.Outcome State Fault Refusal :=
  issueOne (formFault (.lcvt g f r d a)) (slotLcvt g f r d a) s
/-- LXPOSE (R237). -/
def execLxpose (g : Guard) (r : RM) (d : DReg) (a : DReg) (b : SReg) (s : State) : Host.Outcome State Fault Refusal :=
  issueOne (formFault (.lxpose g r d a b)) (slotLxpose g r d a b) s
/-- LSLICE (R237). -/
def execLslice (g : Guard) (r : RM) (d : DReg) (a : DReg) (b : SReg) (s : State) : Host.Outcome State Fault Refusal :=
  issueOne (formFault (.lslice g r d a b)) (slotLslice g r d a b) s
/-- LSTORE (R438). -/
def execLstore (g : Guard) (r : RM) (d : DReg) (a : DReg) (s : State) : Host.Outcome State Fault Refusal :=
  issueOne (formFault (.lstore g r d a)) (slotLstore g r d a) s
/-- PHINT (R268). -/
def execPhint (g : Guard) (a : SReg) (s : State) : Host.Outcome State Fault Refusal :=
  issueOne (formFault (.phint g a)) (slotPhint g a) s
/-- PPIN (R269). -/
def execPpin (g : Guard) (a : SReg) (s : State) : Host.Outcome State Fault Refusal :=
  issueOne (formFault (.ppin g a)) (slotPpin g a) s
/-- PUNPIN (R269). -/
def execPunpin (g : Guard) (a : SReg) (s : State) : Host.Outcome State Fault Refusal :=
  issueOne (formFault (.punpin g a)) (slotPunpin g a) s
/-- PSTAT_SCAN (R270). -/
def execPstatScan (g : Guard) (a : DReg) (s : State) : Host.Outcome State Fault Refusal :=
  issueOne (formFault (.pstatScan g a)) (slotPstatScan g a) s
/-- PSTAT_SET (R270). -/
def execPstatSet (g : Guard) (a : DReg) (b : SReg) (s : State) : Host.Outcome State Fault Refusal :=
  issueOne (formFault (.pstatSet g a b)) (slotPstatSet g a b) s
/-- PSTATR (R271). -/
def execPstatr (g : Guard) (d : SReg) (a : DReg) (b : SReg) (s : State) : Host.Outcome State Fault Refusal :=
  issueOne (formFault (.pstatr g d a b)) (slotPstatr g d a b) s
/-- PQUERY (R272). -/
def execPquery (g : Guard) (d : SReg) (a : SReg) (s : State) : Host.Outcome State Fault Refusal :=
  issueOne (formFault (.pquery g d a)) (slotPquery g d a) s
/-- PDROP (R269). -/
def execPdrop (g : Guard) (a : SReg) (s : State) : Host.Outcome State Fault Refusal :=
  issueOne (formFault (.pdrop g a)) (slotPdrop g a) s
/-- FORCE (R240). -/
def execForce (g : Guard) (d : DReg) (a : SReg) (s : State) : Host.Outcome State Fault Refusal :=
  issueOne (formFault (.force g d a)) (slotForce g d a) s

end Sys2Proof.Machine
end

