-- ==== Sys2Proof/Machine/Matrix.lean ====
section
/-! DEFINITION. The matrix unit: passes, MPASSD, accumulator moves and MSTOREC (R218 to R229). -/

namespace Sys2Proof.Machine

open Sys2Proof

/-! ### Formats and timing (R219) -/

/-- The interval of a pass in cycles. -/
def passInterval (n : Fmtn) (f : Fmt) : Nat :=
  match f with
  | .f64 => 128
  | .f32 => 64
  | .bf16 | .f16 => 32
  | .nfmt => if fmtWidth n f = 2 then 32 else 16
  | _ => 16

/-- The latency bound of a pass from its start. -/
def passBound (n : Fmtn) (f : Fmt) : Nat := passInterval n f + 24

/-! ### What a pass computes (R96 to R101, R222) -/

/-- Row `r` of an accumulator pair (e, e + 1) after pass `p` with B tile `b`, and the flags of its 64 elements; `junk` numbers the
free values of rows that the pass leaves undefined. -/
def Pass.applyRow (p : Pass) (b : List (BitVec 1024)) (e r junk : Nat) (st : Vec × Vec) : (Vec × Vec) × Flags :=
  let n := fmtnOf p.fmtn
  let a := (p.a.getD r 0).toNat
  let elt (c j : Nat) : Nat × Flags := passElement n p.fmt p.seq.toNat p.sat c a (b.getD j 0).toNat
  let undef (acc : Nat) (v : Vec) : Vec := if 64 * acc + r ∈ p.junk then BitVec.ofNat 2048 (Config.freeNat (junk + 64 * acc + r)) else v
  if p.fmt = .f64 then
    let es := (List.range 64).map fun j => elt (laneOf 32 st.1.toNat j + laneOf 32 st.2.toNat j * 2 ^ 32) j
    let fl := es.foldl (fun f x => f ||| x.2) 0
    ((undef e (BitVec.ofNat 2048 (ofLanes 32 64 fun j => (es.getD j (0, 0)).1)),
      undef (e + 1) (BitVec.ofNat 2048 (ofLanes 32 64 fun j => (es.getD j (0, 0)).1 / 2 ^ 32))), fl)
  else
    let old := if p.acc = e then st.1 else st.2
    let es := (List.range 64).map fun j => elt (laneOf 32 old.toNat j) j
    let fl := es.foldl (fun f x => f ||| x.2) 0
    let v := undef p.acc (BitVec.ofNat 2048 (ofLanes 32 64 fun j => (es.getD j (0, 0)).1))
    (if p.acc = e then (v, st.2) else (st.1, v), fl)

/-- Row `r` is poisoned by pass `p` (R224). -/
def Pass.rowBad (p : Pass) (r : Nat) : Bool := p.aPoison.getLsbD r || p.bPoison

/-- The lower accumulator of the pair that holds accumulator `a`. -/
def pairOf (a : Nat) : Nat := a / 2 * 2

/-- The commit of the pass at place `i` of the core's passes (R224): every row, the poison, the flags. -/
def State.commitAt (s : State) (c i : Nat) : State :=
  let k := s.core c
  match k.passes[i]? with
  | none => s
  | some p =>
    match p.b with
    | none => s
    | some b =>
      let e := pairOf p.acc
      let (k, fl) := (List.range 64).foldl (fun (st : Core × Flags) r =>
        let (rows, fl) := p.applyRow b e r s.free (st.1.row e r, st.1.row (e + 1) r)
        let k := (st.1.setRow e r rows.1).setRow (e + 1) r rows.2
        let mark (k : Core) (a : Nat) : Core := if p.rowBad r && passCovers p.fmt p.acc a then k.setRowBad a r true else k
        (mark (mark k e) (e + 1), st.2 ||| fl)) (k, 0)
      (s.setCore c { (k.orFlags fl) with passes := k.passes.eraseIdx i }).drew 1024

/-- The pass at place `i` may commit: it has started, and no earlier pass shares its accumulators (R100, R224). -/
def Core.mayCommit (k : Core) (i : Nat) : Bool :=
  match k.passes[i]? with
  | none => false
  | some p => p.start.isSome && p.b.isSome
      && !((k.passes.take i).any fun q => passCovers q.fmt q.acc p.acc || passCovers p.fmt p.acc q.acc)

/-- The `i`-th pass of core `c` commits, if it may. -/
def State.passCommit (s : State) (c i : Nat) : State := if (s.core c).mayCommit i then s.commitAt c i else s

/-- Passes whose bound has expired commit (R219). -/
def State.commitDue (s : State) (c : Nat) : State :=
  let due (p : Pass) : Bool := p.start.any fun t => t + passBound (fmtnOf p.fmtn) p.fmt ≤ s.clk
  ((s.core c).passes).foldl (fun s p =>
    match (s.core c).passes.findIdx? (· = p) with
    | some i => if due p then s.passCommit c i else s
    | none => s) s

/-- The B tile of an MPASSD as it is read, each aligned 8 bytes at a moment of its own (R222): 64 rows, whether one is poisoned, and a
row that holds a POISON word (R304). -/
def State.readTile (s : State) (p : Pass) : List (BitVec 1024) × Bool × Option Nat :=
  let row (i : Nat) : BitVec 1024 :=
    let a := p.bAt.getD i 0
    if s.lostIn a 128 then BitVec.ofNat 1024 (s.freeVal (1024 + i))
    else BitVec.ofNat 1024 (ofBytes ((List.range 16).flatMap fun j => s.engineRead p.born (a + 8 * j) 8 (s.freeVal (16 * i + j))))
  ((List.range 64).map row, (List.range 64).any fun i => s.poisoned (p.bAt.getD i 0) 128,
   (List.range 64).find? fun i => s.lostIn (p.bAt.getD i 0) 128)

/-- What the reading of the tile leaves at the homes of words that others own (R296). -/
def State.lookTile (s : State) (p : Pass) : State :=
  (List.range 1024).foldl (fun t n => t.engineLook (p.bAt.getD (n / 16) 0 + 8 * (n % 16)) 8 (s.freeVal n)) s

/-- The waiting MPASSD of core `c` takes its B tile and starts, once the unit is free (R223). -/
def State.mpassdStart (s : State) (c : Nat) : State :=
  let k := s.core c
  match k.passes.findIdx? fun p => p.start.isNone with
  | none => s
  | some i =>
    if s.clk < k.matFree then s
    else match k.passes[i]? with
      | none => s
      | some p =>
        let (b, bad, lost) := s.readTile p
        let s := s.lookTile p
        let k := s.core c
        let p' : Pass := { p with b := some b, bPoison := p.bPoison || bad, start := some s.clk }
        let k := { k with passes := k.passes.set i p', matFree := s.clk + passInterval (fmtnOf p.fmtn) p.fmt }
        let k := match lost with
          | some r => k.raiseLost (p.bVa + BitVec.ofNat 64 (128 * r)) p.pc
          | none => k
        (s.setCore c k).drew 1088

/-! ### Issuing passes (R220 to R222) -/

/-- The checks of a pass's rings, in the order of R222's table; before them, in checking mode, an accumulator that a write owns. -/
def passFault (x : Ctx) (f : Fmt) (d : AReg) (rings : List GReg) : Option SlotFault :=
  let owned (a : Nat) : Bool := x.k.checking && x.k.ownedAt x.s.clk (.c a)
  if owned d.toNat || (f = .f64 && owned (d.toNat + 1)) then some { code := .ownershipBreach }
  else if rings.any fun g => x.k.ringBad (x.gr g) then some { code := .dataFault }
  else if rings.any fun g => ringFmt (x.gr g) ≠ codeOfFmt f then some { code := .dataFault }
  else if rings.any fun g => ringResv (x.gr g) = 0 then some { code := .queueUnder }
  else none

/-- The tile at HEAD of ring `n`, whose image is `g`: as it was when it became available (R154, R221); a tile that a write of the ring
register offers, or a restored context, is the scratchpad's (log 60). -/
def Core.headTile (k : Core) (n : GReg) (g : BitVec 128) : List (BitVec 1024) × BitVec 64 :=
  (Map.find k.tiles (16 * n.toNat + ringHead g)).getD (k.tileAt (ringBase g + ringHead g * 8192))

/-- A pass takes the tile at HEAD (R221). -/
def Core.takeTile (k : Core) (g : GReg) (keep : Bool) : Core :=
  if keep then k
  else
    let r := k.g g
    { k with tiles := Map.erase k.tiles (16 * g.toNat + ringHead r) }.setG g (ringState r (ringFin r) (ringResv r - 1) (ringAvail r - 1) ((ringHead r + 1) % ringCap r))

/-- The rows of an accumulator that writes in flight at cycle `clk` cover, as 64 a + r (R228 rule 3). -/
def Core.openRows (k : Core) (clk a : Nat) : NatSet :=
  (List.range 64).filterMap fun r =>
    if k.windows.any fun w => w.reg = .c a && clk < w.due && w.row.getD r = r then some (64 * a + r) else none

/-- Some MPASSD waits to start. -/
def Core.passWaits (k : Core) : Bool := k.passes.any fun p => p.start.isNone

/-- A tile is available in a ring. -/
def Ctx.hasTile (x : Ctx) (g : GReg) : Bool := 1 ≤ ringAvail (x.gr g)

/-- The rows, as 64 a + r, that a pass of format `f` into accumulator `a` leaves undefined: every row that it writes, where the bound of
a write into its accumulator has not expired (R228 rule 3). -/
def Core.earlyPass (k : Core) (clk : Nat) (f : Fmt) (a : Nat) : NatSet :=
  let accs := if f = .f64 then [a, a + 1] else [a]
  if accs.all fun b => k.openRows clk b = [] then [] else accs.flatMap fun b => (List.range 64).map (64 * b + ·)

/-- The pass that a slot issues, its B tile aside. -/
def Ctx.newPass (x : Ctx) (f : Fmt) (seq : BitVec 4) (sat : Bool) (d : AReg) (a : GReg) : Pass :=
  let t := x.k.headTile a (x.gr a)
  { fmt := f, fmtn := x.k.fmtImage.toNat, seq := vget 0 x.k.regs.cseq seq.toNat, sat := sat, acc := d.toNat, a := t.1, aPoison := t.2,
    b := none, start := none, pc := x.pc,
    junk := x.k.earlyPass x.s.clk f d.toNat }

/-- MPASS (R220, R222). -/
def slotMpass (g : Guard) (f : Fmt) (seq : BitVec 4) (sat : Bool) (d : AReg) (a b : GSrc) : Slot :=
  { pos := 3, guard := g, reads := [.g a.g.toNat, .g b.g.toNat],
    check := fun x => passFault x f d [a.g, b.g],
    wait := fun x => if x.hasTile a.g && x.hasTile b.g && x.k.matFree ≤ x.s.clk && !x.k.passWaits then none else some x.s,
    run := fun x s => s.onCore x.c fun k =>
      let t := x.k.headTile b.g (x.gr b.g)
      let p : Pass := { x.newPass f seq sat d a.g with b := some t.1, bPoison := t.2 ≠ 0, start := some x.s.clk }
      { ((k.takeTile a.g a.keep).takeTile b.g b.keep) with passes := k.passes ++ [p], matFree := x.s.clk + passInterval x.k.fmtn f } }

/-- The first byte of a range of `n` bytes at which an engine-like access of the slot fails: invalid, untranslated, or in a place
that `ok` refuses. -/
def Ctx.rangeFault (x : Ctx) (kind : Access) (ok : Nat → Bool) (va n : Nat) : Option SlotFault :=
  let f (a : Nat) (p : Bool) : SlotFault := { code := .dataFault, addr := BitVec.ofNat 64 a, detail := kind.detail, pageable := p }
  ((List.range ((va % 65536 + n + 65535) / 65536)).findSome? fun i =>
    let a := if i = 0 then va else addr (va / 65536 * 65536) (65536 * i)
    if !vaValid a then some (f a false)
    else match x.s.translate x.c x.root x.sup kind a with
      | .error e => some (f a e.pageable)
      | .ok pa => if ok pa then none else some (f a false))

/-- The first page of a range of `n` bytes whose bytes translate to a place other than local HBM (R103, R222): checked before the
translations of the other pages. -/
def Ctx.outsideHbm (x : Ctx) (kind : Access) (va n : Nat) : Option SlotFault :=
  (List.range ((va % 65536 + n + 65535) / 65536)).findSome? fun i =>
    let a := if i = 0 then va else addr (va / 65536 * 65536) (65536 * i)
    match x.s.translate x.c x.root x.sup kind a with
    | .error _ => none
    | .ok pa => if x.s.place pa = .hbm then none else some { code := .dataFault, addr := BitVec.ofNat 64 a, detail := kind.detail }

/-- MPASSD (R220, R222, R223). -/
def slotMpassd (g : Guard) (f : Fmt) (seq : BitVec 4) (sat : Bool) (d : AReg) (a : GSrc) (b : SReg) : Slot :=
  let va (x : Ctx) : Nat := (x.sr b).toNat
  { pos := 3, guard := g, reads := [.g a.g.toNat, .s b.toNat], eats := [b],
    check := fun x => (((passFault x f d [a.g]).or (alignIf (va x % 128 ≠ 0) (x.sr b) false)).or (x.outsideHbm .read (va x) 8192)).or
      (x.rangeFault .read (fun _ => true) (va x) 8192),
    wait := fun x => if x.hasTile a.g && !x.k.passWaits then none else some x.s,
    run := fun x s =>
      let at_ := (List.range 64).map fun i => x.pa .read (addr (va x) (128 * i))
      let s := (s.touch x.c x.root .read (va x)).touch x.c x.root .read (addr (va x) 8191)
      s.onCore x.c fun k =>
        let p : Pass := { x.newPass f seq sat d a.g with bAt := at_, bVa := x.sr b, bPoison := x.bad, born := s.histNext, cyc := s.clk }
        { (k.takeTile a.g a.keep) with passes := k.passes ++ [p] } }

/-! ### Moving accumulators (R226, R228) -/

/-- A write of rows of accumulator `d` with its bound. A row that a pass or a write in flight covers becomes undefined, and stays so
after the pass (R228 rules 3 and 4). -/
def Core.writeRows (k : Core) (clk bound : Nat) (d : AReg) (row : Option Nat) (val : Nat → Vec) (bad : Nat → Bool) (free : Nat) : Core :=
  let rows := match row with
    | some r => [r]
    | none => List.range 64
  let a := d.toNat
  let early := k.passOwns a
  let openR := k.openRows clk a
  let k := rows.foldl (fun (k : Core) r =>
    let v : Vec := if early || (64 * a + r) ∈ openR then BitVec.ofNat 2048 (field free (2048 * r) 2048) else val r
    (k.setRow a r v).setRowBad a r (bad r)) k
  let mark (p : Pass) : Pass := if passCovers p.fmt p.acc a then { p with junk := p.junk ++ rows.map (64 * a + ·) } else p
  { k with passes := k.passes.map mark, windows := { reg := .c a, due := clk + bound, row := row } :: k.windows }

/-- Row `r` of accumulator `a`, or with `pair` of both halves of its pair, as an MREAD or MSTOREC reads it (R228 rules 2 and 4): undefined
under a write in flight; else the state after a free number of the started passes that have issued into it. Those whose bounds have
expired have committed before (R229). -/
def Ctx.readRow (x : Ctx) (a r pick : Nat) (pair : Bool := false) : (Vec × Vec) × (Bool × Bool) :=
  let k := x.k
  let e := pairOf a
  let mine := k.passes.filter fun p => passCovers p.fmt p.acc a || (pair && (passCovers p.fmt p.acc e || passCovers p.fmt p.acc (e + 1)))
  let ready := (mine.takeWhile fun p => p.start.isSome).length
  let n := if ready = 0 then 0 else pick % (ready + 1)
  let upto := (k.passes.filter fun p => passCovers p.fmt p.acc e || passCovers p.fmt p.acc (e + 1)).takeWhile fun p =>
    !(mine.drop n).any (· = p)
  let used := if n = 0 then [] else upto.filter fun p => p.start.isSome
  let (st, bad) := used.foldl (fun (acc : (Vec × Vec) × (Bool × Bool)) p =>
    let (st, _) := p.applyRow (p.b.getD []) e r (x.s.free + 3072) acc.1
    (st, (acc.2.1 || (p.rowBad r && passCovers p.fmt p.acc e), acc.2.2 || (p.rowBad r && passCovers p.fmt p.acc (e + 1)))))
    ((k.row e r, k.row (e + 1) r), (k.rowBad e r, k.rowBad (e + 1) r))
  let undef (b : Nat) (v : Vec) : Vec :=
    if (64 * b + r) ∈ k.openRows x.s.clk b then BitVec.ofNat 2048 (field (x.free 195) (2048 * (128 * (b % 2) + r)) 2048) else v
  ((undef e st.1, undef (e + 1) st.2), bad)

/-- One accumulator's row of a pair. -/
def pickHalf {α : Type} (a : Nat) (x : α × α) : α := if a % 2 = 0 then x.1 else x.2

/-- The slot of MZERO (R226). -/
def slotMzero (g : Guard) (d : AReg) : Slot :=
  { pos := 3, guard := g, writes := [.c d.toNat],
    run := fun x s => s.onCore x.c fun k => k.writeRows x.s.clk 4 d none (fun _ => 0) (fun _ => false) (x.free 196) }

/-- MLOADC: the scratchpad contents at issue (R226). -/
def slotMloadc (g : Guard) (d : AReg) (a : SReg) : Slot :=
  { pos := 3, guard := g, reads := [.s a.toNat], writes := [.c d.toNat], eats := [a],
    check := fun x => (alignIf ((x.sr a).toNat % 256 ≠ 0) 0 false).or (scratchIf (x.k.spSize < (x.sr a).toNat + 16384) false),
    run := fun x s => s.onCore x.c fun k =>
      let o := (x.sr a).toNat
      k.writeRows x.s.clk 64 d none (fun r => BitVec.ofNat 2048 (ofBytes (x.k.spRead (o + 256 * r) 256)))
        (fun r => x.bad || x.k.spBad (o + 256 * r) 256) (x.free 196) }

/-- The slot of MREAD (R226). -/
def slotMread (g : Guard) (d : QReg) (a : AReg) (b : SReg) : Slot :=
  { pos := 3, guard := g, reads := [.s b.toNat, .c a.toNat], push := [d], eats := [b],
    check := fun x => dataIf (63 < (x.sr b).toNat),
    run := fun x s => s.onCore x.c fun k =>
      let r := x.readRow a.toNat (x.sr b).toNat (x.free 193)
      k.push x.s.clk 8 d (pickHalf a.toNat r.1) (x.bad || pickHalf a.toNat r.2) 0 }

/-- The slot of MWRITE (R226). -/
def slotMwrite (g : Guard) (d : AReg) (a : QSrc) (b : SReg) : Slot :=
  { pos := 3, guard := g, reads := [.s b.toNat], writes := [.c d.toNat], qs := [a], eats := [b], eatsQ := false,
    check := fun x => dataIf (63 < (x.sr b).toNat),
    run := fun x s => s.onCore x.c fun k =>
      k.writeRows x.s.clk 8 d (some (x.sr b).toNat) (fun _ => x.vec 0) (fun _ => x.bad || x.vecBad 0) (x.free 196) }

/-- MCSQ (R225). -/
def slotMcsq (g : Guard) (d : BitVec 4) (a b : SReg) : Slot :=
  { pos := 3, guard := g, reads := [.s a.toNat, .s b.toNat], eats := [a, b],
    run := fun x s => s.onCore x.c fun k =>
      let v := BitVec.ofNat 64 (field (x.sr b).toNat 0 32 * 2 ^ 32 + field (x.sr a).toNat 0 32)
      { k with regs := { k.regs with cseq := vset k.regs.cseq d.toNat v } } }

/-! ### MSTOREC (R227) -/

/-- The fields of the row-range scalar. -/
structure RowRange where
  stride : Int
  sat : Bool
  count : Nat
  first : Nat
  ok : Bool

/-- The row-range scalar read (R227). -/
def rowRange (v : Word64) : RowRange :=
  let x := v.toNat
  let n := field x 6 7
  let f := field x 0 6
  { stride := signedOf 32 (field x 32 32), sat := bitAt x 31, count := n, first := f,
    ok := field x 13 18 = 0 && 1 ≤ n && n ≤ 64 && f + n ≤ 64 }

/-- One element of a stored row: the source element converted, and its flags. -/
def storeElt (n : Fmtn) (f : Fmt) (r : RM) (sat : Bool) (seed : Word64) (row j lo hi : Nat) : Nat × Flags :=
  let src : Fmt := if f = .f64 then .f64 else if fmtIsInt f then .int32 else .f32
  let x := if f = .f64 then lo + hi * 2 ^ 32 else lo
  convert n f r sat (src = .int32) ⟨seed.toNat, j, row⟩ (valueOf n src x)

/-- MSTOREC: the checks, and the rows as read at issue, to be written on the MATRIX path. -/
def slotMstorec (g : Guard) (f : Fmt) (r : RM) (d : SReg) (a : AReg) (b : SReg) : Slot :=
  let w := fmtWidth fmtn0 f
  let va (x : Ctx) (n : Nat) : Nat := addAddr (x.sr d).toNat (n * (rowRange (x.sr b)).stride)
  { pos := 3, guard := g,
    reads := [.s d.toNat, .s b.toNat, .c a.toNat] ++ (if f = .f64 then [.c (a.toNat + 1)] else []) ++ seedReads r, eats := [d, b] ++ seedEats (seedReads r),
    check := fun x =>
      let rr := rowRange (x.sr b)
      ((dataIf (!rr.ok)).or (alignIf ((x.sr d).toNat % 64 ≠ 0 || rr.stride % 64 ≠ 0) (x.sr d) true)).or
        ((List.range rr.count).findSome? fun n => x.rangeFault .write x.s.homed (va x n) (8 * w)),
    run := fun x s =>
      let rr := rowRange (x.sr b)
      let rows := (List.range rr.count).map fun n =>
        let i := rr.first + n
        let v := x.readRow a.toNat i (x.free 193 / 2 ^ (8 * n)) (f = .f64)
        let own := if f = .f64 then v.1 else (pickHalf a.toNat v.1, 0)
        let es := (List.range 64).map fun j => storeElt x.k.fmtn f r rr.sat x.seed i j (laneOf 32 own.1.toNat j) (laneOf 32 own.2.toNat j)
        let bad := x.bad || (if f = .f64 then v.2.1 || v.2.2 else pickHalf a.toNat v.2)
        let cut := 65536 - va x n % 65536
        let bs := toBytes (8 * w) (ofLanes w 64 fun j => (es.getD j (0, 0)).1)
        let piece (off : Nat) (p : List Byte) : List (Nat × List Byte × Bool) :=
          if p = [] then [] else [(x.pa .write (addr (va x n) off), p, bad)]
        (piece 0 (bs.take cut) ++ piece cut (bs.drop cut), es.foldl (fun (fl : Flags) e => fl ||| e.2) 0)
      let vas := (List.range rr.count).flatMap fun n =>
        let cut := 65536 - va x n % 65536
        BitVec.ofNat 64 (va x n) :: if cut < 8 * w then [BitVec.ofNat 64 (addr (va x n) cut)] else []
      let m : MStore := { writes := rows.flatMap (·.1), flags := rows.foldl (fun fl e => fl ||| e.2) 0, va := x.sr d, pc := x.pc, vas := vas,
                          cyc := x.s.clk }
      let s := (List.range rr.count).foldl (fun s n =>
        (s.touch x.c x.root .write (va x n)).touch x.c x.root .write (addr (va x n) (8 * w - 1))) s
      s.onCore x.c fun k => { k with mstores := k.mstores ++ [m] } }

/-- The writes of the oldest MSTOREC of core `c` are performed, in order, and its flags reach FFLAGS; while a teller holds one of
its lines they wait (R227). -/
def State.mstorecWritten (s : State) (c : Nat) : State :=
  match (s.core c).mstores with
  | [] => s
  | m :: ms =>
    if m.writes.any fun w => s.teller.any fun t => t.line < w.1 + w.2.1.length && w.1 < t.line + 128 then s
    else
      let s := m.writes.zipIdx.foldl (fun s (w, i) =>
        let (s, met) := s.engineWrite (.engine .matrix c none) w.1 w.2.1
        let s := if w.2.2 then s.poisonRange w.1 w.2.1.length else s
        s.report c (m.vas.getD i m.va) m.pc w.1 met) s
      s.onCore c fun k => { (k.orFlags m.flags) with mstores := ms }

/-! ### The meaning of each instruction of this file -/
def execMpass (g : Guard) (f : Fmt) (seq : BitVec 4) (sat : Bool) (d : AReg) (a : GSrc) (b : GSrc) (s : State) : Host.Outcome State Fault Refusal :=
  issueOne (formFault (.mpass g f seq sat d a b)) (slotMpass g f seq sat d a b) s
/-- MPASSD (R222). -/
def execMpassd (g : Guard) (f : Fmt) (seq : BitVec 4) (sat : Bool) (d : AReg) (a : GSrc) (b : SReg) (s : State) : Host.Outcome State Fault Refusal :=
  issueOne (formFault (.mpassd g f seq sat d a b)) (slotMpassd g f seq sat d a b) s
/-- MZERO (R226). -/
def execMzero (g : Guard) (d : AReg) (s : State) : Host.Outcome State Fault Refusal :=
  issueOne (formFault (.mzero g d)) (slotMzero g d) s
/-- MLOADC (R226). -/
def execMloadc (g : Guard) (d : AReg) (a : SReg) (s : State) : Host.Outcome State Fault Refusal :=
  issueOne (formFault (.mloadc g d a)) (slotMloadc g d a) s
/-- MSTOREC (R227). -/
def execMstorec (g : Guard) (f : Fmt) (r : RM) (d : SReg) (a : AReg) (b : SReg) (s : State) : Host.Outcome State Fault Refusal :=
  issueOne (formFault (.mstorec g f r d a b)) (slotMstorec g f r d a b) s
/-- MREAD (R226). -/
def execMread (g : Guard) (d : QReg) (a : AReg) (b : SReg) (s : State) : Host.Outcome State Fault Refusal :=
  issueOne (formFault (.mread g d a b)) (slotMread g d a b) s
/-- MWRITE (R226). -/
def execMwrite (g : Guard) (d : AReg) (a : QSrc) (b : SReg) (s : State) : Host.Outcome State Fault Refusal :=
  issueOne (formFault (.mwrite g d a b)) (slotMwrite g d a b) s
/-- MCSQ (R225). -/
def execMcsq (g : Guard) (d : BitVec 4) (a : SReg) (b : SReg) (s : State) : Host.Outcome State Fault Refusal :=
  issueOne (formFault (.mcsq g d a b)) (slotMcsq g d a b) s

end Sys2Proof.Machine
end

