-- ==== Sys2Proof/Machine/Sequencer.lean ====
section
/-! DEFINITION. The W slot of the main pipeline: control flow, waits, fences, system calls, ends of tasks, containment regions, spawning
and hardware queues (R171, R298 to R301, R307 to R319, R335 to R337, R366, R383). -/

namespace Sys2Proof.Machine

open Sys2Proof

/-! ### Control flow (R307, R308) -/

/-- The target of form BRA: the bundle's address plus the signed offset, with L from bit 0 (R307). -/
def branchTarget (cp : Word64) (i : BitVec 17) : Word64 :=
  let l := i.toNat % 2
  BitVec.ofNat 64 (addAddr (cp.toNat / 2 * 2) (i.toInt - (l : Int)) + l)

/-- The slot of BR (R307). -/
def slotBr (g : Guard) (i : BitVec 17) : Slot :=
  { pos := 7, guard := g, flow := fun x => some (branchTarget x.pc i) }
/-- The slot of BRP (R307). -/
def slotBrp (g : Guard) (a : PReg) (i : BitVec 17) : Slot :=
  { pos := 7, guard := g, reads := [.p a.toNat], flow := fun x => if x.pr a then some (branchTarget x.pc i) else none }

/-- A transfer to the code pointer in a scalar. -/
def jumpSlot (g : Guard) (a : SReg) : Slot :=
  { pos := 7, guard := g, reads := [.s a.toNat], eats := [a], flow := fun x => some (x.sr a) }

/-- The slot of BRI (R307). -/
def slotBri (g : Guard) (a : SReg) : Slot := jumpSlot g a
/-- RET is BRI but for the return predictor, which is timing (R307). -/
def slotRet (g : Guard) (a : SReg) : Slot := jumpSlot g a
/-- CALL (R308): the return pointer is that of the bundle that follows in the stream. -/
def slotCall (g : Guard) (d : SReg) (i : BitVec 17) : Slot :=
  { pos := 7, guard := g, writes := [.s d.toNat], flow := fun x => some (branchTarget x.pc i),
    run := fun x s => s.onCore x.c fun k => k.resultS x.s.clk 1 d x.k.ir.next false 0 (x.free 192) }
/-- LOOP (R307). -/
def slotLoop (g : Guard) (a : SReg) (i : BitVec 17) : Slot :=
  { pos := 7, guard := g, reads := [.s a.toNat], writes := [.s a.toNat], eats := [a],
    flow := fun x => if x.sr a - 1 = 0 then none else some (branchTarget x.pc i),
    run := fun x s => s.onCore x.c fun k => k.resultS x.s.clk 1 a (x.sr a - 1) x.bad 0 (x.free 192) }

/-! ### Waits, NRET, TRAP (R309, R315, R317) -/

/-- A WAIT's threshold: bits 31:0 of its scalar. -/
def Ctx.threshold (x : Ctx) (a : SReg) : BitVec 32 := (x.sr a).truncate 32

/-- The signals of semaphore `w` that a completed WAIT counts (R300, item 2): of requests, of spawned tasks (R336), and of agents outside
the job with what they have made known (item 4). -/
def State.countSignals (s : State) (c : Nat) (w : WReg) : State :=
  let outside := (s.published.filter fun x => x.1 = none).map (·.2)
  s.onCore c fun k =>
    let o := k.ord
    let here := (o.signalled.filter fun x => x.1 = w.toNat).map (·.2)
    let back := (o.returned.filter fun x => x.1 = w.toNat).map (·.2)
    { k with ord := { o with signalled := o.signalled.filter fun x => x.1 ≠ w.toNat, counted := addOrd o.counted here,
                             returned := o.returned.filter fun x => x.1 ≠ w.toNat, known := addOrd (addOrd o.known back) outside } }

/-- WAIT and WAIT.con (R309): the bundle waits while the semaphore is below the threshold. -/
def waitSlot (con : Bool) (g : Guard) (w : WReg) (a : SReg) : Slot :=
  { pos := 7, guard := g, reads := [.s a.toNat], eats := [a], tenderOk := false,
    wait := fun x => if (x.k.w w).toNat < (x.threshold a).toNat then some x.s else none,
    run := fun x s =>
      let s := s.countSignals x.c w
      if con then s.onCore x.c fun k => k.setW w (k.w w - x.threshold a) else s }

/-- The slot of WAIT (R309). -/
def slotWait (g : Guard) (w : WReg) (a : SReg) : Slot := waitSlot false g w a
/-- The slot of WAIT_CON (R309). -/
def slotWaitCon (g : Guard) (w : WReg) (a : SReg) : Slot := waitSlot true g w a

/-- s48 to s55 take the values that notice entry saved; where a write of one is in flight, it may stand (R68, R315). -/
def Core.noticeRegs (k : Core) (clk pick : Nat) : Core :=
  (List.range 8).foldl (fun k i =>
    let n : SReg := BitVec.ofNat 6 (48 + i)
    if k.inFlight clk (.s n.toNat) && bitAt pick i then k else (k.setS n (k.notice.shadow.getD i 0)).setSBad n (k.notice.shadowBad.getLsbD i)) k

/-- A notice handler ends (R315, R370): its registers, hold state and segment count go back to what they were. -/
def Core.noticeEnd (k : Core) (clk pick : Nat) : Core :=
  let n := k.notice
  { k.noticeRegs clk pick with
      notice := { n with running := false, shadow := [], shadowBad := 0, hold := [], saved := 0 }, main := { k.main with hold := n.hold },
      contain := { k.contain with segCount := n.segCount, segSig := n.segSig } }

/-- NRET (R315). -/
def slotNret (g : Guard) : Slot :=
  { pos := 7, guard := g, tenderOk := false,
    check := fun x => if x.k.notice.running then none else some { code := .illegalBundle },
    flow := fun x => some x.k.notice.saved,
    last := fun x s => s.onCore x.c fun k => k.noticeEnd x.s.clk (x.free 193) }

/-- TRAP (R317): BREAK follows at the boundary. -/
def slotTrap (g : Guard) (n : BitVec 8) : Slot :=
  { pos := 7, guard := g, tenderOk := false, last := fun x s => s.onCore x.c fun k => { k with pend := { k.pend with brk := some n } } }

/-- The cycles for which SPAWN, SYSC and FENCE stop issue are open (R437): a free number. -/
def Ctx.openStop (x : Ctx) (s : State) : State := s.onCore x.c fun k => { k with stall := k.stall + x.free 200 }

/-! ### System calls (R318) -/

/-- The request line of a system call (R318). -/
def Ctx.syscLine (x : Ctx) (w : WReg) (a : SReg) : List Byte :=
  toBytes 8 (x.sr a).toNat ++ (List.range 12).flatMap (fun i => toBytes 8 (x.sr (BitVec.ofNat 6 (i + 1))).toNat)
    ++ toBytes 8 x.k.ir.next.toNat ++ toBytes 2 ((x.s.logicalOf x.c).getD 0) ++ toBytes 1 w.toNat ++ toBytes 5 0
    ++ toBytes 8 (x.k.syscSeq + 1).toNat

/-- The physical address of core `c`'s request line. -/
def State.syscAt (s : State) (c : Nat) : Nat := field (s.ctlGet Ctl.SYSCBASE).toNat 16 36 * 65536 + 128 * c

/-- SYSC (R318): the line is written at its home slice, and the MSI is sent. -/
def slotSysc (g : Guard) (w : WReg) (a : SReg) : Slot :=
  { pos := 7, guard := g, reads := .s a.toNat :: (List.range 12).map fun i => .s (i + 1),
    eats := a :: (List.range 12).map fun i => BitVec.ofNat 6 (i + 1), tenderOk := false, mem := true,
    check := fun x => if bitAt (x.s.ctlGet Ctl.SYSCBASE).toNat 0 then none else some { code := .syscall },
    wait := fun x => if x.k.syscOpen then some x.s else none,
    store := fun x s =>
      let s := s.endOwned fun _ o => o = x.c
      let (s, met) := s.homeWrite (.core x.c (x.s.tenantNow x.c) .job) (x.s.syscAt x.c) (x.syscLine w a)
      let s := if (List.range 12).any fun i => x.k.sBad (BitVec.ofNat 6 (i + 1)) then s.poisonRange (x.s.syscAt x.c) 128 else s
      let s := (s.report x.c 0 x.pc (x.s.syscAt x.c) met).onCore x.c fun k =>
        { k with syscSeq := k.syscSeq + 1, syscOpen := true, syscSem := w.toNat }
      s.msi 0 x.c,
    last := fun x s => x.openStop s }

/-! ### TASKEND, HALT, YIELD (R319) -/

/-- Every register result has landed, every pass has committed and every MSTOREC is performed. -/
def Core.drained (k : Core) (clk : Nat) : Bool := (k.windows.all fun w => !w.late && w.due ≤ clk) && k.passes = [] && k.mstores = []

/-- Requests that the task of core `c` has issued, on either engine of any core. -/
def State.owesRequests (s : State) (c : Nat) : Bool := s.taskReqs c false ≠ [] || s.taskReqs c true ≠ []

/-- TASKEND (R319). -/
def slotTaskend (g : Guard) : Slot :=
  { pos := 7, guard := g, tenderOk := false,
    wait := fun x => if x.k.drained x.s.clk && !x.s.owesRequests x.c && !x.s.sliceWaits x.c then none else some x.s,
    last := fun x s =>
      let s := s.endOwned fun _ o => o = x.c
      match x.k.task with
      | some t => (s.completeTask x.c t).releaseCore x.c
      | none => s.releaseCore x.c }

/-- A request of the task is held at a resumable fault. -/
def State.holdsRequest (s : State) (c : Nat) : Bool := ((s.taskReqs c false) ++ (s.taskReqs c true)).any fun r => r.2.2.held

/-- What a save waits for (R351): results, passes, the abort of held requests, and the requests that write this core's SRAM; none
when nothing is left to wait for. -/
def State.saveWait (s : State) (c : Nat) : Option State :=
  let k := s.core c
  if !k.drained s.clk || s.sliceWaits c then some s
  else if s.holdsRequest c then some ((s.abortHeld c false).abortHeld c true)
  else if (k.e0.reqs ++ k.e1.reqs).any fun r => r.op.fillsScratch then some s
  else none

/-- The granules of the image that HALT saves: at CTXBASE, where that names an aligned place that can be written (log 19). -/
def State.haltPages (s : State) (c : Nat) : Option (List Nat) :=
  let k := s.core c
  let va := (k.csrGet Csr.CTXBASE).toNat
  if va = 0 || va % 4096 ≠ 0 then none
  else (s.imagePages c (k.csrGet Csr.VMROOT) va (imageSize (k.spSize / 262144)) .write).toOption

/-- The core halts (R319): its context is saved as a context save does, at CTXBASE, or stays in the core where that names no place for it;
the core keeps its task, halted. -/
def State.haltCore (s : State) (c : Nat) : State :=
  match s.haltPages c with
  | some pages =>
    let k := s.core c
    let va := (k.csrGet Csr.CTXBASE).toNat
    let s := (s.touchImage c (k.csrGet Csr.VMROOT) va pages.length).saveContext c pages va k.main.pc
    s.onCore c fun k => { k with task := k.savedTask.map fun y => { y.task with halted := true, header := y.image } }
  | none => (s.endOwned fun _ o => o = c).onCore c fun k => { k with blocks := [], task := k.task.map fun t => { t with halted := true } }

/-- HALT (R319): the core drains and its context is saved; it no longer issues. -/
def slotHalt (g : Guard) : Slot :=
  { pos := 7, guard := g, tenderOk := false, wait := fun x => x.s.saveWait x.c, last := fun x s => s.haltCore x.c }

/-- The effective priority of what R333 would give core `c` if it were free. -/
def State.nextPrio (s : State) (c : Nat) : Option Nat :=
  let s := s.homeWaiting
  (s.choice c).map (s.pickPrio (s.tenantOf c))

/-- YIELD asks for the boundary (R319): for a pre-emption that is pending or that a ready node wants, and for a cut that waits. -/
def State.yieldAt (s : State) (c : Nat) : State :=
  let k := s.core c
  let prio := (k.task.map (·.prio)).getD 0
  let due : Bool := k.pend.preempt.isSome || s.wantsPreempt c || (s.nextPrio c).any fun p => prio ≤ p
  let cutting : Bool := s.snap.phase = 1 && !s.snap.moduleCut && !k.cut && s.jobCore c
  let k := if due then
      let k := k.askPreempt
      { k with pend := { k.pend with preemptNow := true } }
    else k
  s.setCore c (if cutting then { k with pend := { k.pend with cutNow := true } } else k)

/-- YIELD (R319). -/
def slotYield (g : Guard) : Slot := { pos := 7, guard := g, tenderOk := false, last := fun x s => s.yieldAt x.c }

/-! ### Containment regions, queue allotment, SNAP (R171, R366, R383) -/

/-- The slot of CROPEN (R366). -/
def slotCropen (g : Guard) (i : BitVec 17) : Slot :=
  { pos := 7, guard := g, tenderOk := false,
    check := fun x => if 8 ≤ x.k.contain.regions.length then some { code := .illegalBundle } else none,
    run := fun x s => s.onCore x.c fun k =>
      let r : Region := { handler := branchTarget x.pc i, inNotice := k.notice.running }
      { k with contain := { k.contain with regions := k.contain.regions ++ [r] } } }
/-- The slot of CRCLOSE (R366). -/
def slotCrclose (g : Guard) : Slot :=
  { pos := 7, guard := g, tenderOk := false,
    check := fun x => if x.k.contain.regions = [] then some { code := .illegalBundle } else none,
    run := fun x s => s.onCore x.c fun k => { k with contain := { k.contain with regions := k.contain.regions.dropLast } } }

/-- Queues from `lo` on are emptied, and COUNT is `n`. -/
def Core.allot (k : Core) (lo n : Nat) : Core :=
  let k := (List.range (64 - lo)).foldl (fun k i => k.setQ (BitVec.ofNat 6 (lo + i)) []) k
  k.csrPut Csr.QALLOT (BitVec.ofNat 64 n)

/-- GROW (R171). Staging of the engines in released queues is timing. -/
def slotGrow (g : Guard) (i : BitVec 17) : Slot :=
  { pos := 7, guard := g, tenderOk := false,
    run := fun x s => s.onCore x.c fun k => if k.qallot < i.toNat then k.allot k.qallot i.toNat else k }
/-- SHRINK (R171): it waits for the pushes in flight into the queues that go. -/
def slotShrink (g : Guard) (i : BitVec 17) : Slot :=
  { pos := 7, guard := g, tenderOk := false,
    wait := fun x =>
      if (List.range 64).any fun q => i.toNat ≤ q && (x.k.q (BitVec.ofNat 6 q)).any fun e => !e.landed && x.s.clk < e.due then some x.s else none,
    run := fun x s => s.onCore x.c fun k => if i.toNat < k.qallot then k.allot i.toNat i.toNat else k }

/-- SNAP (R383). -/
def slotSnap (g : Guard) : Slot :=
  { pos := 7, guard := g, tenderOk := false,
    check := fun x => dataIf (!x.s.snapOn || x.s.tenantNow x.c ≠ x.s.snapTenant),
    wait := fun x => if x.s.snap.phase = 2 then some x.s else none,
    run := fun x s => if s.snap.phase = 0 then s.startEpoch ((x.k.csrGet Csr.SNAPEP).toNat + 1) else s,
    last := fun x s => s.onCore x.c fun k => { k with pend := { k.pend with cutNow := true } } }

/-! ### FENCE (R298 to R300) -/

/-- A class set names a class (R65). -/
def names (set : BitVec 7) (c : PathClass) : Bool :=
  set.getLsbD (match c with | .core => 0 | .copy => 1 | .gather => 2 | .matrix => 3 | .coll => 4 | .teller => 5 | .plan => 6)
/-- A class set names CORE or TELLER. -/
def namesCore (set : BitVec 7) : Bool := names set .core || names set .teller

/-- The range of a fence as the source-range table compares it: a length of 0 names every address (R299). -/
def fenceRange (lo len : Nat) : Int × Int := if len = 0 then (-(2 ^ 64), 2 ^ 64) else byteRange lo len

/-- The physical ranges, first and last byte, that the bytes from `lo` on translate to. -/
def State.physRanges (s : State) (c : Nat) (root : Word64) (sup : Bool) (lo len : Nat) : List (Nat × Nat) :=
  if len = 0 then [(0, 2 ^ 52)]
  else (List.range ((lo + len + 65535) / 65536 - lo / 65536)).filterMap fun i =>
    let a := lo / 65536 * 65536 + 65536 * i
    let first := max a lo
    let last := min (a + 65535) (lo + len - 1)
    match s.translate c root sup .read first with
    | .ok pa => some (pa, pa + (last - first))
    | .error _ => none

/-- A fence's range is not one of valid addresses (R299). -/
def fenceBad (lo len : Nat) : Bool := len ≠ 0 && (!vaValid lo || 2 ^ 64 ≤ lo + len - 1 || !vaValid (lo + len - 1))

/-- A class set names the class of a write; one of every class is in every set (R302). -/
def namesOf (set : BitVec 7) : Option PathClass → Bool
  | none => true
  | some .core => namesCore set
  | some .teller => namesCore set
  | some c => names set c

/-- The class of a write that items 1 and 2 of R300 order before a fence of core `c`: its own on the CORE path, its MSTOREC's and plans',
and those of requests that a WAIT has counted; none of another. -/
def Core.ownWrite (k : Core) (c : Nat) (who : WriteBy) : Option PathClass :=
  match who with
  | .core d _ _ => if d = c then some .core else none
  | .engine cls d none => if d = c then some cls else none
  | .engine cls d (some t) => if (d, t) ∈ k.ord.counted then some cls else none
  | _ => none

/-- The part of a write that lies in a range. -/
def OrdWrite.within (x : OrdWrite) (lo hi : Nat) : Option OrdWrite :=
  if x.lo ≤ hi && lo ≤ x.hi then some { x with lo := max lo x.lo, hi := min hi x.hi } else none

/-- What a fence of core `c` with class set A orders of the bytes `lo` to `hi` (R300, items 1 to 4). -/
def State.fenceOrders (s : State) (c : Nat) (ca : BitVec 7) (lo hi : Nat) : List OrdWrite :=
  let k := s.core c
  let own := (s.hist.filter fun h => h.old ≠ []).filterMap fun h =>
    (k.ownWrite c h.who).map fun cls => ({ n := h.n, cls := some cls, lo := h.addr, hi := h.addr + h.old.length - 1 } : OrdWrite)
  ((addOrd own k.ord.known).filter fun x => namesOf ca x.cls).filterMap fun x => x.within lo hi

/-- The effect of a fence once nothing is left to wait for (R299, R300): what it orders counts for later fences and is made known to the job
by the core's next CORE-path access; with CORE in B the core's later loads see it. -/
def fenceRun (x : Ctx) (ca cb : BitVec 7) (lo len : Nat) (s : State) : State :=
  let rs := x.s.physRanges x.c x.root x.sup lo len
  let s := if namesCore ca then s.endOwned fun w o => o = x.c && rs.any fun r => r.1 < 4 * w + 4 && 4 * w ≤ r.2 else s
  let per := rs.map fun r => (r, s.fenceOrders x.c ca r.1 r.2)
  let all := per.flatMap (·.2)
  let s := s.onCore x.c fun k => { k with ord := { k.ord with known := addOrd k.ord.known all }, toPublish := addOrd k.toPublish all }
  if namesCore cb then s.onCore x.c fun k =>
      let inside (m : FenceMark) (r : Nat × Nat) : Bool := r.1 ≤ m.lo && m.hi ≤ r.2
      let marks : List FenceMark := per.map fun p =>
        { lo := p.1.1, hi := p.1.2, time := s.histNext, ns := addOrd p.2 ((k.ord.fences.filter fun m => inside m p.1).flatMap (·.ns)) }
      { k with ord := { k.ord with fences := marks ++ k.ord.fences.filter fun m => !rs.any (inside m) }, ltime := k.ltime + 1 }
  else s

/-- FENCE (R298, R299). -/
def slotFence (g : Guard) (ca cb : BitVec 7) (a d : SReg) : Slot :=
  let lo (x : Ctx) : Nat := (x.sr a).toNat
  let len (x : Ctx) : Nat := (x.sr d).toNat
  let nodes (x : Ctx) : List Nat :=
    if names ca .plan || names cb .plan then x.s.aliasNodes x.k.berth [fenceRange (lo x) (len x)] else []
  { pos := 7, guard := g, reads := [.s a.toNat, .s d.toNat], eats := [a, d],
    check := fun x => (if fenceBad (lo x) (len x) then some { code := .dataFault, addr := x.sr a, detail := 2 } else none).or
      (dataIf (nodes x ≠ [] && !x.k.windowOk)),
    wait := fun x =>
      if x.k.berth.demand.isSome then some x.s
      else match nodes x with
        | n :: _ =>
          if x.k.planWaits || x.s.sliceWaits x.c then some x.s
          else some (x.s.startDemand x.c n (wholeRegion (((Map.find x.k.berth.nodes n).map fun nd => x.s.extents nd.dst).getD [])) true 4 128)
        | [] =>
          if namesCore ca && x.s.sliceWaits x.c then some x.s
          else if names ca .matrix && x.k.mstores ≠ [] then some x.s
          else none,
    run := fun x s => fenceRun x ca cb (lo x) (len x) s,
    last := fun x s => x.openStop s }

/-! ### Spawning and hardware queues (R335 to R337) -/

/-- The node record at a virtual address, as SPAWN reads it: value, poison, and whether a POISON word was met. -/
def Ctx.spawnRecord (x : Ctx) (a : SReg) : Nat × Bool × Bool := x.readMem (x.pa .read (x.sr a).toNat) 256 193

/-- A record that SPAWN accepts (R336). -/
def spawnOk (r : BitVec 2048) : Bool := nodeOk r && !nodeTimed r && nodeField r 128 4 = 0 && nodeField r 132 4 = 0

/-- The node joins the spawning task's graph and is made ready (R336); what the spawner has written, and what is ordered before its own
accesses, is ordered before those of the spawned task. -/
def State.spawnNode (s : State) (c : Nat) (r : BitVec 2048) (signal : Option (Nat × Nat)) : State :=
  match (s.core c).task with
  | none => s
  | some t => match s.graph t.graph with
    | none => s
    | some x =>
      let i := x.count + x.spawned
      let o := (s.core c).ord
      let n : TNode := { record := r, counter := 0, cap := t.prio, signal := signal, after := addOrd o.known (s.taskWrites c) }
      (s.putGraph t.graph { x with spawned := x.spawned + 1, nodes := Map.put x.nodes i n }).makeReady t.graph i

/-- SPAWN (R336). -/
def slotSpawn (g : Guard) (sig : Bool) (w : WReg) (a : SReg) : Slot :=
  { pos := 7, guard := g, reads := [.s a.toNat], eats := [a], tenderOk := false, mem := true,
    check := fun x => ((alignIf ((x.sr a).toNat % 256 ≠ 0) (x.sr a) false).or (x.dataFault .read false (x.sr a).toNat 256)).or
      (dataIf (!x.s.sliceWaits x.c && !(x.spawnRecord a).2.2 && !spawnOk (BitVec.ofNat 2048 (x.spawnRecord a).1))),
    wait := fun x => if x.k.mstores = [] && x.k.passes.all (·.b.isSome) then none else some x.s,
    run := fun x s =>
      let pa := x.pa .read (x.sr a).toNat
      let s := ((s.endOwned fun _ o => o = x.c).touch x.c x.root .read (x.sr a).toNat).coreLook x.c pa 256 (x.free 193)
      let (v, bad, lost) := x.spawnRecord a
      let s := s.report x.c (x.sr a) x.pc pa { lost := lost, ue := bad }
      if lost then s else s.spawnNode x.c (BitVec.ofNat 2048 v) (if sig then some (x.c, w.toNat) else none),
    last := fun x s => x.openStop s }

/-- The queue number scalar names a VALID queue of this core's tenant (R337). -/
def Ctx.hwOk (x : Ctx) (a : SReg) : Bool :=
  let n := (x.sr a).toNat
  n < 64 && bitAt (x.s.hwCfg n) 63 && field (x.s.hwCfg n) 55 8 = x.s.tenantNow x.c

/-- ENQ (R337). -/
def slotEnq (g : Guard) (a b : SReg) : Slot :=
  { pos := 7, guard := g, reads := [.s a.toNat, .s b.toNat], eats := [a, b], tenderOk := false, mem := true,
    check := fun x => dataIf (!x.hwOk a),
    wait := fun x =>
      if x.s.hwFull (x.sr a).toNat then some (x.s.onCore x.c fun k => { k with enqWaits := x.s.hwExt (x.sr a).toNat = 0 }) else none,
    run := fun x s => s.hwPush (x.sr a).toNat (x.sr b) }
/-- DEQ (R337). -/
def slotDeq (g : Guard) (d a : SReg) : Slot :=
  { pos := 7, guard := g, reads := [.s a.toNat], writes := [.s d.toNat], eats := [a], tenderOk := false, mem := true,
    check := fun x => dataIf (!x.hwOk a),
    wait := fun x => if (x.s.hwQueue (x.sr a).toNat).die = [] then some x.s else none,
    run := fun x s =>
      let (v, s) := s.hwPop (x.sr a).toNat
      s.onCore x.c fun k => k.resultS x.s.clk 8 d v x.bad 0 (x.free 192) }

/-! ### The meaning of each instruction of this file -/
def execBr (g : Guard) (i : BitVec 17) (s : State) : Host.Outcome State Fault Refusal :=
  issueOne (formFault (.br g i)) (slotBr g i) s
/-- BRP (R307). -/
def execBrp (g : Guard) (a : PReg) (i : BitVec 17) (s : State) : Host.Outcome State Fault Refusal :=
  issueOne (formFault (.brp g a i)) (slotBrp g a i) s
/-- BRI (R307). -/
def execBri (g : Guard) (a : SReg) (s : State) : Host.Outcome State Fault Refusal :=
  issueOne (formFault (.bri g a)) (slotBri g a) s
/-- CALL (R308). -/
def execCall (g : Guard) (d : SReg) (i : BitVec 17) (s : State) : Host.Outcome State Fault Refusal :=
  issueOne (formFault (.call g d i)) (slotCall g d i) s
/-- RET (R307). -/
def execRet (g : Guard) (a : SReg) (s : State) : Host.Outcome State Fault Refusal :=
  issueOne (formFault (.ret g a)) (slotRet g a) s
/-- LOOP (R307). -/
def execLoop (g : Guard) (a : SReg) (i : BitVec 17) (s : State) : Host.Outcome State Fault Refusal :=
  issueOne (formFault (.loop g a i)) (slotLoop g a i) s
/-- WAIT (R309). -/
def execWait (g : Guard) (w : WReg) (a : SReg) (s : State) : Host.Outcome State Fault Refusal :=
  issueOne (formFault (.wait g w a)) (slotWait g w a) s
/-- WAIT_CON (R309). -/
def execWaitCon (g : Guard) (w : WReg) (a : SReg) (s : State) : Host.Outcome State Fault Refusal :=
  issueOne (formFault (.waitCon g w a)) (slotWaitCon g w a) s
/-- NRET (R315). -/
def execNret (g : Guard) (s : State) : Host.Outcome State Fault Refusal :=
  issueOne (formFault (.nret g)) (slotNret g) s
/-- TRAP (R317). -/
def execTrap (g : Guard) (k : BitVec 8) (s : State) : Host.Outcome State Fault Refusal :=
  issueOne (formFault (.trap g k)) (slotTrap g k) s
/-- SYSC (R318). -/
def execSysc (g : Guard) (w : WReg) (a : SReg) (s : State) : Host.Outcome State Fault Refusal :=
  issueOne (formFault (.sysc g w a)) (slotSysc g w a) s
/-- HALT (R319). -/
def execHalt (g : Guard) (s : State) : Host.Outcome State Fault Refusal :=
  issueOne (formFault (.halt g)) (slotHalt g) s
/-- YIELD (R319). -/
def execYield (g : Guard) (s : State) : Host.Outcome State Fault Refusal :=
  issueOne (formFault (.yield g)) (slotYield g) s
/-- CROPEN (R366). -/
def execCropen (g : Guard) (i : BitVec 17) (s : State) : Host.Outcome State Fault Refusal :=
  issueOne (formFault (.cropen g i)) (slotCropen g i) s
/-- CRCLOSE (R366). -/
def execCrclose (g : Guard) (s : State) : Host.Outcome State Fault Refusal :=
  issueOne (formFault (.crclose g)) (slotCrclose g) s
/-- FENCE (R299). -/
def execFence (g : Guard) (ca : BitVec 7) (cb : BitVec 7) (a : SReg) (d : SReg) (s : State) : Host.Outcome State Fault Refusal :=
  issueOne (formFault (.fence g ca cb a d)) (slotFence g ca cb a d) s
/-- SNAP (R383). -/
def execSnap (g : Guard) (s : State) : Host.Outcome State Fault Refusal :=
  issueOne (formFault (.snap g)) (slotSnap g) s
/-- GROW (R171). -/
def execGrow (g : Guard) (i : BitVec 17) (s : State) : Host.Outcome State Fault Refusal :=
  issueOne (formFault (.grow g i)) (slotGrow g i) s
/-- SHRINK (R171). -/
def execShrink (g : Guard) (i : BitVec 17) (s : State) : Host.Outcome State Fault Refusal :=
  issueOne (formFault (.shrink g i)) (slotShrink g i) s
/-- TASKEND (R319). -/
def execTaskend (g : Guard) (s : State) : Host.Outcome State Fault Refusal :=
  issueOne (formFault (.taskend g)) (slotTaskend g) s
/-- SPAWN (R336). -/
def execSpawn (g : Guard) (sig : Bool) (w : WReg) (a : SReg) (s : State) : Host.Outcome State Fault Refusal :=
  issueOne (formFault (.spawn g sig w a)) (slotSpawn g sig w a) s
/-- ENQ (R337). -/
def execEnq (g : Guard) (a : SReg) (b : SReg) (s : State) : Host.Outcome State Fault Refusal :=
  issueOne (formFault (.enq g a b)) (slotEnq g a b) s
/-- DEQ (R337). -/
def execDeq (g : Guard) (d : SReg) (a : SReg) (s : State) : Host.Outcome State Fault Refusal :=
  issueOne (formFault (.deq g d a)) (slotDeq g d a) s

end Sys2Proof.Machine
end

