-- ==== Sys2Proof/Machine/Tender.lean ====
section
/-! DEFINITION. The W slot's instructions of the tender alone: ERET, CTXSV, CTXLD, SCAN, LCMAPW (R347, R351 to R354, R373, R374, R435). -/

namespace Sys2Proof.Machine

open Sys2Proof

/-! ### ERET (R347, R435) -/

/-- The core goes back to the dispatcher, which holds the task that it saved (R347, R435). -/
def State.handOver (s : State) (c : Nat) : State :=
  let saved := (s.core c).savedTask
  { (s.releaseCore c) with saved := s.saved ++ saved.toList }

/-- The effect of ERET: down one level, or the release of a core that holds no context. -/
def State.eret (s : State) (c : Nat) : State :=
  let k := s.core c
  if k.level = 1 && k.task.isNone then s.handOver c else s.setCore c k.returnFrom

/-- The slot of ERET (R347). -/
def slotEret (g : Guard) : Slot := { pos := 7, guard := g, priv := true, last := fun x s => s.eret x.c }

/-! ### Saving and restoring (R351 to R354) -/

/-- The image address of CTXSV and CTXLD: the scalar, or CTXBASE where it is 0 (R351). -/
def Ctx.imageVa (x : Ctx) (a : SReg) : Nat := (if x.sr a = 0 then x.k.csrGet Csr.CTXBASE else x.sr a).toNat

/-- A fault of translation of an image (R351). -/
def imageFault (e : XFault) : SlotFault := { code := .dataFault, addr := e.va, detail := 3, pageable := e.pageable }

/-- The granules of the image that CTXSV writes. -/
def Ctx.savePages (x : Ctx) (va : Nat) : Except XFault (List Nat) :=
  x.s.imagePages x.c x.root va (imageSize (x.k.spSize / 262144)) .write

/-- The granules of the image that CTXLD restores, by the SPAD of the image. -/
def Ctx.loadPages (x : Ctx) (va : Nat) : Except XFault (List Nat) :=
  (x.s.imagePages x.c x.root va 0x66000 .write).bind fun p =>
    x.s.imagePages x.c x.root va (imageSize (x.s.imageWord p va 0x400 % 16)) .write

/-- CTXSV (R351, R352). -/
def slotCtxsv (g : Guard) (a : SReg) : Slot :=
  { pos := 7, guard := g, reads := [.s a.toNat], eats := [a], priv := true,
    check := fun x =>
      if x.k.task.isNone then some { code := .illegalBundle }
      else (alignIf (x.imageVa a % 4096 ≠ 0) (BitVec.ofNat 64 (x.imageVa a)) true).or
        (match x.savePages (x.imageVa a) with | .error e => some (imageFault e) | .ok _ => none),
    wait := fun x =>
      match x.savePages (x.imageVa a) with
      | .error _ => none
      | .ok pages =>
        let s := x.s.onCore x.c fun k => { k with saving := some (imageAt pages (x.imageVa a) 0) }
        s.saveWait x.c,
    run := fun x s =>
      match x.savePages (x.imageVa a) with
      | .error _ => s
      | .ok pages =>
        let s := (s.touchImage x.c x.root (x.imageVa a) pages.length).saveContext x.c pages (x.imageVa a) (x.k.csrGet Csr.TPC)
        s.onCore x.c fun k => { k with saving := none } }

/-- The task whose image has its header at `h`, wherever the dispatcher or a core that saved it holds it, and the state in which
it is held no more (R435). -/
def State.claimSaved (s : State) (h : Nat) : Option Task × State :=
  let here := (s.saved.find? fun x => x.image = h).map (·.task)
  let there := s.cores.findSome? fun e => (e.2.savedTask.filter fun x => x.image = h).map (·.task)
  let drop (k : Core) : Core :=
    if k.savedTask.any fun x => x.image = h then { k with savedTask := none, task := k.task.filter fun t => !t.halted } else k
  (here.or there, { s with saved := s.saved.filter fun x => x.image ≠ h, cores := s.cores.map fun e => (e.1, drop e.2) })

/-- CTXLD (R354): an image that the dispatcher does not know restores a task of no graph. -/
def slotCtxld (g : Guard) (a : SReg) : Slot :=
  { pos := 7, guard := g, reads := [.s a.toNat], eats := [a], priv := true,
    check := fun x =>
      if x.k.task.isSome then some { code := .illegalBundle }
      else (alignIf (x.imageVa a % 4096 ≠ 0) (BitVec.ofNat 64 (x.imageVa a)) true).or
        (match x.loadPages (x.imageVa a) with
          | .error e => some (imageFault e)
          | .ok pages => if x.s.imageOk pages (x.imageVa a) then none
            else some { code := .dataFault, addr := BitVec.ofNat 64 (x.imageVa a), detail := 2 }),
    wait := fun x => if x.s.sliceWaits x.c then some x.s else none,
    run := fun x s =>
      match x.loadPages (x.imageVa a) with
      | .error _ => s
      | .ok pages =>
        let s := s.touchImage x.c x.root (x.imageVa a) pages.length
        let (t, s) := s.claimSaved (imageAt pages (x.imageVa a) 0)
        s.restoreContext x.c pages (x.imageVa a) (t.getD { tenant := x.s.tenantOf x.c, graph := 2 ^ 64, node := 0, prio := 0 }) }

/-! ### SCAN and LCMAPW (R373, R374) -/

/-- SCAN (R374). -/
def slotScan (g : Guard) (w : WReg) (a b : SReg) : Slot :=
  { pos := 7, guard := g, reads := [.s a.toNat, .s b.toNat], eats := [a, b], priv := true,
    check := fun x => ((dataIf (319 < (x.sr a).toNat || (x.sr a).toNat = x.c)).or
      (alignIf ((x.sr b).toNat % 32 ≠ 0) (x.sr b) true)).or (x.dataFault .write false (x.sr b).toNat 32),
    run := fun x s =>
      let t := (s.core x.c).tickets
      let r : Scan := { target := (x.sr a).toNat, core := x.c, sem := w.toNat, record := x.pa .write (x.sr b).toNat, started := x.s.clk,
                        ticket := t, va := x.sr b, pc := x.pc }
      ((s.touch x.c x.root .write (x.sr b).toNat).onCore x.c fun k => { k with tickets := t + 1 }).scanStart r }

/-- LCMAPW (R373). -/
def slotLcmapw (g : Guard) (a b : SReg) : Slot :=
  { pos := 7, guard := g, reads := [.s a.toNat, .s b.toNat], eats := [a, b], priv := true,
    check := fun x => dataIf (319 < (x.sr a).toNat || x.s.lcmapBad (x.sr a).toNat (x.sr b)),
    run := fun x s => s.lcmapPut (x.sr a).toNat (x.sr b) }

/-! ### The meaning of each instruction of this file -/
def execScan (g : Guard) (w : WReg) (a : SReg) (b : SReg) (s : State) : Host.Outcome State Fault Refusal :=
  issueOne (formFault (.scan g w a b)) (slotScan g w a b) s
/-- LCMAPW (R373). -/
def execLcmapw (g : Guard) (a : SReg) (b : SReg) (s : State) : Host.Outcome State Fault Refusal :=
  issueOne (formFault (.lcmapw g a b)) (slotLcmapw g a b) s
/-- ERET (R347). -/
def execEret (g : Guard) (s : State) : Host.Outcome State Fault Refusal :=
  issueOne (formFault (.eret g)) (slotEret g) s
/-- CTXSV (R351). -/
def execCtxsv (g : Guard) (a : SReg) (s : State) : Host.Outcome State Fault Refusal :=
  issueOne (formFault (.ctxsv g a)) (slotCtxsv g a) s
/-- CTXLD (R354). -/
def execCtxld (g : Guard) (a : SReg) (s : State) : Host.Outcome State Fault Refusal :=
  issueOne (formFault (.ctxld g a)) (slotCtxld g a) s

end Sys2Proof.Machine
end

