-- ==== Sys2Proof/Machine/Boundary.lean ====
section
/-! DEFINITION. What happens between bundles: events in the order of R340, containment unwinding, cuts, notices, and the frames' counts
(R143, R313, R314, R338 to R340, R350, R355 to R357, R365, R367, R368, R384, R391). -/

namespace Sys2Proof.Machine

open Sys2Proof

/-! ### Containment (R365, R367, R368) -/

/-- The events of MEM-LOST or MEM-UE that a boundary at cycle `clk` takes. -/
def dueAt (clk : Nat) (l : List MemEvent) : List MemEvent := l.filter (·.due ≤ clk)

/-- The number of MEM-UE, MEM-LOST and SEGMENT-CHECK events due. -/
def Core.memEvents (k : Core) (clk : Nat) : Nat :=
  k.pend.segCheck.toList.length + (dueAt clk k.pend.memLost).length + (dueAt clk k.pend.memUe).length

/-- CODE, KIND, address and code pointer of the event that an unwinding reports (R365, R368). -/
def Core.unwindWhy (k : Core) (clk : Nat) : Nat × Nat × Word64 × Word64 :=
  match k.pend.segCheck, dueAt clk k.pend.memLost, dueAt clk k.pend.memUe with
  | some n, _, _ => (0x1A, n, 0, k.pend.segPc)
  | none, e :: _, _ => (0x19, 0, e.addr, e.pc)
  | none, [], e :: _ => (0x18, e.kind, e.addr, e.pc)
  | none, [], [] => (0, 0, 0, 0)

/-- The events that the unwinding merges are gone. -/
def Pending.dropMem (p : Pending) (clk : Nat) : Pending :=
  { p with segCheck := none, memLost := p.memLost.filter fun e => clk < e.due, memUe := p.memUe.filter fun e => clk < e.due }

/-- Unwinding to the innermost open region (R367). -/
def Core.unwind (k : Core) (clk pick : Nat) : Core :=
  match k.contain.regions.getLast? with
  | none => k
  | some r =>
    let (code, kind, a, pc) := k.unwindWhy clk
    let d := k.contain.regions.length
    let mult := bit (1 < k.memEvents clk)
    let k := if !r.inNotice && k.notice.running then k.noticeEnd clk pick else k
    let ct : Contain := { regions := k.contain.regions.dropLast, addr := a, pc := pc,
                          cause := BitVec.ofNat 64 (mult * 2 ^ 24 + d * 2 ^ 16 + kind * 2 ^ 8 + code) }
    { k with contain := ct, pend := k.pend.dropMem clk, main := { pc := r.handler, hold := [] }, oldCode := [],
             berth := k.berth.abandon, skip := 0 }

/-! ### Events that enter the tender (R339, R340) -/

/-- An event taken between bundles: TPC is the code pointer of the bundle that would have issued next, SFMASK 0. -/
def Core.between (k : Core) (code : Code) (detail : Nat := 0) (forced : Bool := false) : TrapInfo :=
  { code := code, tpc := k.main.pc, detail := detail, forced := forced }

/-- The record that EFCAUSE presents, if ENGINE-FAULT has not been raised for it: the core with it raised (R149, R151). -/
def Core.engineEvent (k : Core) : Option Core :=
  match k.presents with
  | none => none
  | some e => match (k.eng e).record with
    | some r => if r.taken then none else some (k.setEng e { k.eng e with record := some { r with taken := true } })
    | none => none

/-- The watchdog count has reached FRAMES (R355). -/
def Core.dogDue (k : Core) : Bool :=
  let n := field (k.csrGet Csr.HWDOG).toNat 0 32
  n ≠ 0 && n ≤ k.idleFrames

/-- PREEMPT is due: whether FORCED (R350). -/
def Core.preemptDue (k : Core) : Option Bool :=
  match k.pend.preempt with
  | none => none
  | some n => if k.pend.preemptNow then some false else if field (k.csrGet Csr.PBOUND).toNat 0 32 ≤ n then some true else none

/-- The first event that enters the tender at this boundary, and the core with the event taken out (R340); an uncorrectable error of a call
is TELLER-FAULT here, where no region is open (R284, R368). -/
def Core.dueTrap (k : Core) (clk : Nat) : Option (TrapInfo × Core) :=
  let p := k.pend
  let lost := dueAt clk p.memLost
  let ue := dueAt clk p.memUe
  let plain := ue.filter (·.call.isNone)
  let calls := ue.filterMap fun e => e.call.map fun id => (e, id)
  if p.segCheck.isSome then some (k.between .segmentCheck, { k with pend := { p with segCheck := none } })
  else if lost ≠ [] then some (k.between .memLost, { k with pend := { p with memLost := p.memLost.erase (lost.headD ⟨0, 0, 0, 0, none⟩) } })
  else if plain ≠ [] then some (k.between .memUe, { k with pend := { p with memUe := p.memUe.erase (plain.headD ⟨0, 0, 0, 0, none⟩) } })
  else if p.teller.any (· ≤ clk) then some (k.between .tellerFault, { k with pend := { p with teller := none } })
  else match calls with
  | (e, id) :: _ => some (k.between .tellerFault, { k.tellerRecord 1 id e.pc e.addr with pend := { p with memUe := p.memUe.erase e } })
  | [] => match k.engineEvent with
    | some k' => some (k.between .engineFault, k')
    | none => match p.brk with
      | some n => some (k.between .brk n.toNat, { k with pend := { p with brk := none } })
      | none =>
        if k.dogDue then some (k.between .watchdog, { k with idleFrames := 0 })
        else match k.preemptDue with
          | some forced => some (k.between .preempt 0 forced, { k with pend := { p with preempt := none, preemptNow := false } })
          | none => if p.codeGone then some (k.between .codeGone, { k with pend := { p with codeGone := false } }) else none

/-- A core in which a task runs: events and notices reach it. -/
def Core.running (k : Core) : Bool := k.level = 0 && !k.frozen && !k.cut && k.task.any fun t => !t.halted

/-- An unwinding is due (R367). -/
def Core.unwindDue (k : Core) (clk : Nat) : Bool := k.running && k.contain.regions ≠ [] && 0 < k.memEvents clk

/-! ### Notices (R142, R143, R314, R391) -/

/-- The notice to deliver next: handler, cause, tag, detail, and the notice state without it. -/
def Core.nextNotice (k : Core) : Option (Word64 × Nat × Nat × Word64 × Notice) :=
  let n := k.notice
  let nvec := k.csrGet Csr.NVEC
  let rb := k.csrGet Csr.RBENTRY
  match n.rollback with
  | some e => if rb ≠ 0 then some (rb, 4, 0, e, { n with rollback := none }) else none
  | none =>
    if nvec = 0 then none
    else match n.ldDone, n.ldFault, n.timer with
      | t :: ts, _, _ => some (nvec, 1, t, 0, { n with ldDone := ts })
      | [], (t, a) :: r, _ => some (nvec, 2, t, a, { n with ldFault := r })
      | [], [], some f => some (nvec, 3, 0, f, { n with timer := none })
      | [], [], none => none

/-- A notice may be delivered: no handler, no tender, no plan (R143, R240). -/
def Core.noticeFree (k : Core) : Bool := k.running && !k.notice.running && k.berth.demand.isNone

/-- A write of s48 to s55 is in flight. -/
def Core.shadowBusy (k : Core) (clk : Nat) : Bool := (List.range 8).any fun i => k.inFlight clk (.s (48 + i))

/-- Delivery of a notice (R143), which costs 2 stall cycles (R305). -/
def Core.deliver (k : Core) (handler : Word64) (cause tag : Nat) (detail : Word64) (n : Notice) : Core :=
  let shadow := (List.range 8).map fun i => k.sNat (48 + i)
  let put (k : Core) (i : Nat) (v : Word64) : Core := (k.setS (BitVec.ofNat 6 i) v).setSBad (BitVec.ofNat 6 i) false
  let n' : Notice := { n with running := true, shadow := shadow, saved := k.main.pc, hold := k.main.hold, segCount := k.contain.segCount,
                              segSig := k.contain.segSig,
                              shadowBad := BitVec.ofNat 8 ((List.range 8).foldl (fun m i => m + bit (k.sBad (BitVec.ofNat 6 (48 + i))) * 2 ^ i) 0) }
  let k' := put (put (put (put k 48 (BitVec.ofNat 64 cause)) 49 (BitVec.ofNat 64 tag)) 50 k.main.pc) 51 detail
  { k' with notice := n', main := { pc := handler, hold := [] }, oldCode := [], stall := 2, berth := k.berth.abandon }

/-! ### The boundary -/

/-- A core of the job may cut now: an epoch is being cut, and no plan runs (R384). -/
def State.cutFree (s : State) (c : Nat) : Bool :=
  s.snap.phase = 1 && !s.snap.moduleCut && s.jobCore c && (s.core c).berth.demand.isNone


/-- The first thing that happens at a boundary of a core that runs a task, before a bundle issues: an unwinding, an event, a cut,
CODE-GONE, a notice; none where the next bundle may issue. The cycle in which a notice is delivered is the first of its two (R305). -/
def State.boundary (s : State) (c : Nat) : Option State :=
  let k := s.core c
  if !k.running then none
  else if k.unwindDue s.clk then some ((s.setCore c (k.unwind s.clk (s.freeVal 0))).drew 1)
  else match k.dueTrap s.clk with
    | some (t, k') => some ((s.setCore c k').takeTrap c t)
    | none =>
      if (k.pend.cutNow || s.cutOverdue c) && s.cutFree c then some (s.takeCut c)
      else if !k.noticeFree then none
      else match k.nextNotice with
        | none => none
        | some (h, cause, tag, detail, n) => if k.shadowBusy s.clk then some s else some (s.setCore c { k.deliver h cause tag detail n with stall := 1 })

/-! ### Frames and cycles of a core (R338, R350, R355, R384) -/

/-- The counts that a module frame raises in a core: the watchdog's, paused while the tender runs but not during a save; that of an
ENQ that waits; and its logical time (R295). -/
def Core.frameTick (k : Core) : Core :=
  let counts : Bool := k.running || (k.saving.isSome && !k.frozen)
  { k with idleFrames := if counts then k.idleFrames + 1 else k.idleFrames,
           enqFrames := if k.enqWaits then k.enqFrames + 1 else 0, ltime := k.ltime + 1 }

/-- The counts that a cycle raises in a core while its tender does not run: those of PBOUND. -/
def State.cycleTick (s : State) (c : Nat) : State :=
  let k := s.core c
  if k.level ≠ 0 then s
  else
    let pend := { k.pend with preempt := k.pend.preempt.map (· + 1) }
    let age := if s.snap.phase = 1 then k.cutAge + 1 else k.cutAge
    if pend = k.pend ∧ age = k.cutAge then s else s.setCore c { k with pend := pend, cutAge := age }

/-- The watchdog runs out during a save (R356): the save is abandoned, its image is INCOMPLETE, and the core escalates and is
withdrawn from dispatch. -/
def State.saveDog (s : State) (c : Nat) : State :=
  let k := s.core c
  match k.saving with
  | none => s
  | some pa =>
    if k.frozen || !k.dogDue then s
    else
      let s := (s.hardWrite pa (toBytes 8 (1 + 2 ^ 32))).onCore c fun k => { k with saving := none, level := 1, idleFrames := 0 }
      { s with quarantine := NatSet.insert s.quarantine c }.escalate c 0x1B

/-- QUEUE-DEADLOCK on a tenant whose active cores all wait in an ENQ (R338), after the events that are due at the boundary (R340). -/
def State.queueTrap (s : State) (tenant : Nat) : State :=
  match s.deadlocked tenant with
  | none => s
  | some c =>
    let k := s.core c
    if !k.running || k.unwindDue s.clk || (k.dueTrap s.clk).isSome then s
    else (s.setCore c { k with enqWaits := false, enqFrames := 0 }).takeTrap c (k.demandTrap .queueDeadlock 128)

/-- A frame begins (R14, R313, R328, R330): every count moves on, and timers that it reaches fire. -/
def State.frameBegins (s : State) : State :=
  let s := { s with frame := (s.frame + 1) % 2 ^ 64, cores := s.cores.map fun (e : Nat × Core) => (e.1, e.2.frameTick) }.tenantFrames
  s.cores.foldl (fun t e => t.timerCheck e.1) s

end Sys2Proof.Machine
end

