-- ==== Sys2Proof/Machine/Slots.lean ====
section
/-! DEFINITION. The slot of every instruction that stands in a bundle, for bundles of more than one. -/

namespace Sys2Proof.Machine

open Sys2Proof

/-- The slot of a native instruction; none for what is no slot instruction. -/
def slotOf : Instr → Option Slot
  | .nop => some (slotNop)
  | .add g d a b => some (slotAdd g d a b)
  | .sub g d a b => some (slotSub g d a b)
  | .and g d a b => some (slotAnd g d a b)
  | .or g d a b => some (slotOr g d a b)
  | .xor g d a b => some (slotXor g d a b)
  | .shl g d a b => some (slotShl g d a b)
  | .shrl g d a b => some (slotShrl g d a b)
  | .shra g d a b => some (slotShra g d a b)
  | .min g d a b => some (slotMin g d a b)
  | .max g d a b => some (slotMax g d a b)
  | .minn g d a b => some (slotMinn g d a b)
  | .maxn g d a b => some (slotMaxn g d a b)
  | .mul g d a b => some (slotMul g d a b)
  | .mulh g d a b => some (slotMulh g d a b)
  | .mulhn g d a b => some (slotMulhn g d a b)
  | .divs g d a b => some (slotDivs g d a b)
  | .divn g d a b => some (slotDivn g d a b)
  | .rems g d a b => some (slotRems g d a b)
  | .remn g d a b => some (slotRemn g d a b)
  | .clz g d a => some (slotClz g d a)
  | .ctz g d a => some (slotCtz g d a)
  | .popc g d a => some (slotPopc g d a)
  | .sext g d a n => some (slotSext g d a n)
  | .zext g d a n => some (slotZext g d a n)
  | .addi g d a i => some (slotAddi g d a i)
  | .andi g d a i => some (slotAndi g d a i)
  | .ori g d a i => some (slotOri g d a i)
  | .xori g d a i => some (slotXori g d a i)
  | .shli g d a n => some (slotShli g d a n)
  | .shrli g d a n => some (slotShrli g d a n)
  | .shrai g d a n => some (slotShrai g d a n)
  | .limm g d i => some (slotLimm g d i)
  | .limmh g d k v => some (slotLimmh g d k v)
  | .cmp g d a b nat cond => some (slotCmp g d a b nat cond)
  | .pand g d a b => some (slotPand g d a b)
  | .por g d a b => some (slotPor g d a b)
  | .pxor g d a b => some (slotPxor g d a b)
  | .pnot g d a => some (slotPnot g d a)
  | .sel g d p a b => some (slotSel g d p a b)
  | .ldb g d a i => some (slotLdb g d a i)
  | .ldbn g d a i => some (slotLdbn g d a i)
  | .ldh g d a i => some (slotLdh g d a i)
  | .ldhn g d a i => some (slotLdhn g d a i)
  | .ldw g d a i => some (slotLdw g d a i)
  | .ldwn g d a i => some (slotLdwn g d a i)
  | .ldd g d a i => some (slotLdd g d a i)
  | .stb g d a i => some (slotStb g d a i)
  | .sth g d a i => some (slotSth g d a i)
  | .stw g d a i => some (slotStw g d a i)
  | .std g d a i => some (slotStd g d a i)
  | .fadd g f r d a b => some (slotFadd g f r d a b)
  | .fsub g f r d a b => some (slotFsub g f r d a b)
  | .fmul g f r d a b => some (slotFmul g f r d a b)
  | .fma g f r d a b => some (slotFma g f r d a b)
  | .fdiv g f r d a b => some (slotFdiv g f r d a b)
  | .fsqrt g f r d a => some (slotFsqrt g f r d a)
  | .fmin g f d a b => some (slotFmin g f d a b)
  | .fmax g f d a b => some (slotFmax g f d a b)
  | .fcmp g f cond d a b => some (slotFcmp g f cond d a b)
  | .fcvt g f src r d a => some (slotFcvt g f src r d a)
  | .aadd g f sc d a b => some (slotAadd g f sc d a b)
  | .aand g f sc d a b => some (slotAand g f sc d a b)
  | .aor g f sc d a b => some (slotAor g f sc d a b)
  | .axor g f sc d a b => some (slotAxor g f sc d a b)
  | .amin g f sc d a b => some (slotAmin g f sc d a b)
  | .amax g f sc d a b => some (slotAmax g f sc d a b)
  | .aswap g f sc d a b => some (slotAswap g f sc d a b)
  | .acas g f sc d a b => some (slotAcas g f sc d a b)
  | .aminn g f sc d a b => some (slotAminn g f sc d a b)
  | .amaxn g f sc d a b => some (slotAmaxn g f sc d a b)
  | .afadd g f sc d a b => some (slotAfadd g f sc d a b)
  | .afmin g f sc d a b => some (slotAfmin g f sc d a b)
  | .afmax g f sc d a b => some (slotAfmax g f sc d a b)
  | .tcall g id sc d a b => some (slotTcall g id sc d a b)
  | .csrr g d n => some (slotCsrr g d n)
  | .csrw g n a => some (slotCsrw g n a)
  | .csrs g n a => some (slotCsrs g n a)
  | .csrc g n a => some (slotCsrc g n a)
  | .semadd g w a => some (slotSemadd g w a)
  | .vadd g f r d a b => some (slotVadd g f r d a b)
  | .vsub g f r d a b => some (slotVsub g f r d a b)
  | .vmul g f r d a b => some (slotVmul g f r d a b)
  | .vfma g f r d a b => some (slotVfma g f r d a b)
  | .vfms g f r d a b => some (slotVfms g f r d a b)
  | .vnfma g f r d a b => some (slotVnfma g f r d a b)
  | .vmin g f d a b => some (slotVmin g f d a b)
  | .vmax g f d a b => some (slotVmax g f d a b)
  | .vabs g f d a => some (slotVabs g f d a)
  | .vneg g f d a => some (slotVneg g f d a)
  | .vadif g f r d a b => some (slotVadif g f r d a b)
  | .vcmp g f cond d a b => some (slotVcmp g f cond d a b)
  | .vsel g f d a b => some (slotVsel g f d a b)
  | .vand g d a b => some (slotVand g d a b)
  | .vor g d a b => some (slotVor g d a b)
  | .vxor g d a b => some (slotVxor g d a b)
  | .vnot g d a => some (slotVnot g d a)
  | .vshl g f d a b => some (slotVshl g f d a b)
  | .vshrl g f d a b => some (slotVshrl g f d a b)
  | .vshra g f d a b => some (slotVshra g f d a b)
  | .vcvt g f src r sat d a => some (slotVcvt g f src r sat d a)
  | .vsat g f t d a => some (slotVsat g f t d a)
  | .vrcp g f r d a => some (slotVrcp g f r d a)
  | .vrsq g f r d a => some (slotVrsq g f r d a)
  | .vexp2 g f r d a => some (slotVexp2 g f r d a)
  | .vlog2 g f r d a => some (slotVlog2 g f r d a)
  | .vdot g f d a b => some (slotVdot g f d a b)
  | .vredadd g f r d a => some (slotVredadd g f r d a)
  | .vredmin g f d a => some (slotVredmin g f d a)
  | .vredmax g f d a => some (slotVredmax g f d a)
  | .vbcast g f d a => some (slotVbcast g f d a)
  | .vextr g f d a b => some (slotVextr g f d a b)
  | .viota g f d => some (slotViota g f d)
  | .vmov g d a => some (slotVmov g d a)
  | .vpop g a => some (slotVpop g a)
  | .vany g f d a => some (slotVany g f d a)
  | .vall g f d a => some (slotVall g f d a)
  | .vcnt g f d a => some (slotVcnt g f d a)
  | .vld g m d a off => some (slotVld g m d a off)
  | .vlds g m d a b off => some (slotVlds g m d a b off)
  | .vst g m d a off => some (slotVst g m d a off)
  | .vsts g m d a b off => some (slotVsts g m d a b off)
  | .mpass g f seq sat d a b => some (slotMpass g f seq sat d a b)
  | .mpassd g f seq sat d a b => some (slotMpassd g f seq sat d a b)
  | .mzero g d => some (slotMzero g d)
  | .mloadc g d a => some (slotMloadc g d a)
  | .mstorec g f r d a b => some (slotMstorec g f r d a b)
  | .mread g d a b => some (slotMread g d a b)
  | .mwrite g d a b => some (slotMwrite g d a b)
  | .mcsq g d a b => some (slotMcsq g d a b)
  | .lmul g r d a b => some (slotLmul g r d a b)
  | .ladd g r d a b => some (slotLadd g r d a b)
  | .lmap g r d a b => some (slotLmap g r d a b)
  | .lfilt g r d a b => some (slotLfilt g r d a b)
  | .lred g r d a b => some (slotLred g r d a b)
  | .lgath g r d a b => some (slotLgath g r d a b)
  | .lscat g r d a b => some (slotLscat g r d a b)
  | .lcvt g f r d a => some (slotLcvt g f r d a)
  | .lxpose g r d a b => some (slotLxpose g r d a b)
  | .lslice g r d a b => some (slotLslice g r d a b)
  | .lstore g r d a => some (slotLstore g r d a)
  | .phint g a => some (slotPhint g a)
  | .ppin g a => some (slotPpin g a)
  | .punpin g a => some (slotPunpin g a)
  | .pstatScan g a => some (slotPstatScan g a)
  | .pstatSet g a b => some (slotPstatSet g a b)
  | .pstatr g d a b => some (slotPstatr g d a b)
  | .pquery g d a => some (slotPquery g d a)
  | .pdrop g a => some (slotPdrop g a)
  | .cpy g e sg m d a b => some (slotCpy g e sg m d a b)
  | .cpyw g e sg m d a b => some (slotCpyw g e sg m d a b)
  | .cpyt g e sg r d a b => some (slotCpyt g e sg r d a b)
  | .ldblk g e sg ntc d a b => some (slotLdblk g e sg ntc d a b)
  | .wbblk g e sg d => some (slotWbblk g e sg d)
  | .evblk g e sg d => some (slotEvblk g e sg d)
  | .rpush g e sg sp d a b => some (slotRpush g e sg sp d a b)
  | .gath g e sg sp d a b => some (slotGath g e sg sp d a b)
  | .scat g e sg sp d a b => some (slotScat g e sg sp d a b)
  | .scata g e sg sc op sp d a b => some (slotScata g e sg sc op sp d a b)
  | .red g e sg sc op sp d a b => some (slotRed g e sg sc op sp d a b)
  | .collAg g e sg d a b => some (slotCollAg g e sg d a b)
  | .collRs g e sg d a b => some (slotCollRs g e sg d a b)
  | .collAr g e sg d a b => some (slotCollAr g e sg d a b)
  | .collBc g e sg d a b => some (slotCollBc g e sg d a b)
  | .collA2a g e sg d a b => some (slotCollA2a g e sg d a b)
  | .send g e sg sp d a b => some (slotSend g e sg sp d a b)
  | .recv g e sg sp d a b => some (slotRecv g e sg sp d a b)
  | .slotq g e d a => some (slotSlotq g e d a)
  | .pack g f n d a => some (slotPack g f n d a)
  | .unpk g f n d a => some (slotUnpk g f n d a)
  | .scal g f r d a b => some (slotScal g f r d a b)
  | .scld g d a => some (slotScld g d a)
  | .shuf g f d a b => some (slotShuf g f d a b)
  | .xpose g f d a => some (slotXpose g f d a)
  | .rotl g f d a b => some (slotRotl g f d a b)
  | .bplx g f d a b => some (slotBplx g f d a b)
  | .bplm g f d a b => some (slotBplm g f d a b)
  | .xmv g d a => some (slotXmv g d a)
  | .intl g f h d a b => some (slotIntl g f h d a b)
  | .dintl g f h d a b => some (slotDintl g f h d a b)
  | .setfmt g i => some (slotSetfmt g i)
  | .lselLdd g d a b => some (slotLselLdd g d a b)
  | .lselStd g d a b => some (slotLselStd g d a b)
  | .lselLdg g d a b => some (slotLselLdg g d a b)
  | .lselStg g d a b => some (slotLselStg g d a b)
  | .ntreq g => some (slotNtreq g)
  | .br g i => some (slotBr g i)
  | .brp g a i => some (slotBrp g a i)
  | .bri g a => some (slotBri g a)
  | .call g d i => some (slotCall g d i)
  | .ret g a => some (slotRet g a)
  | .loop g a i => some (slotLoop g a i)
  | .wait g w a => some (slotWait g w a)
  | .waitCon g w a => some (slotWaitCon g w a)
  | .nret g => some (slotNret g)
  | .trap g k => some (slotTrap g k)
  | .sysc g w a => some (slotSysc g w a)
  | .halt g => some (slotHalt g)
  | .yield g => some (slotYield g)
  | .cropen g i => some (slotCropen g i)
  | .crclose g => some (slotCrclose g)
  | .fence g ca cb a d => some (slotFence g ca cb a d)
  | .snap g => some (slotSnap g)
  | .force g d a => some (slotForce g d a)
  | .grow g i => some (slotGrow g i)
  | .shrink g i => some (slotShrink g i)
  | .taskend g => some (slotTaskend g)
  | .spawn g sig w a => some (slotSpawn g sig w a)
  | .enq g a b => some (slotEnq g a b)
  | .deq g d a => some (slotDeq g d a)
  | .scan g w a b => some (slotScan g w a b)
  | .lcmapw g a b => some (slotLcmapw g a b)
  | .eret g => some (slotEret g)
  | .ctxsv g a => some (slotCtxsv g a)
  | .ctxld g a => some (slotCtxld g a)
  | _ => none

end Sys2Proof.Machine
end

