-- ==== Sys2Proof/Machine/Ovnath.lean ====
section
/-! DEFINITION. Ovnath bundles (R402 to R412): each slot has the effect of the native entry it names, on the registers that R402 maps,
every source read before any result is applied and every result visible to the next bundle (R404). The program's next bundle is at
the main code pointer of its core (log 40). -/

namespace Sys2Proof.Machine

open Sys2Proof

/-! ### Resident registers, temporaries and spill slots (R408) -/

/-- T0: how many vector registers are resident at one time, and the first queue of the temporaries. -/
def Ovn.resident (o : Ovn) : Nat := min o.q 32 - 8

/-! ### Bundles -/

/-- One slot of an Ovnath bundle: what the native entry does, the vector registers it reads, whether their poison becomes its
result's, and those it writes. -/
structure OvnSlot where
  sl : Slot
  vs : List (BitVec 5) := []
  carries : Bool := true
  vd : List (BitVec 5) := []

/-- The queue of a resident vector register (R408). -/
def State.ovnQueue (s : State) (n : BitVec 5) : QReg := BitVec.ofNat 6 ((Map.find s.ovn.place n.toNat).getD 0)
/-- The entry of resident vector register `n`, the single one of its queue. -/
def State.ovEntry (s : State) (n : BitVec 5) : QEntry := ((s.core s.ovn.core).q (s.ovnQueue n)).headD { v := 0, due := 0 }
/-- Resident vector register `n`: a peek of its queue. -/
def State.ov (s : State) (n : BitVec 5) : Vec := (s.ovEntry n).v
/-- Its poison (R362). -/
def State.ovBad (s : State) (n : BitVec 5) : Bool := (s.ovEntry n).poison
/-- A write of resident vector register `n`, which pops the old entry, with the flags of the operation that made it. -/
def State.setOv (s : State) (n : BitVec 5) (v : Vec) (bad : Bool) (fl : Flags) : State :=
  s.onCore s.ovn.core fun k =>
    let k := k.setQ (s.ovnQueue n) [{ v := v, due := 0, landed := true, poison := bad }]
    if fl = 0 then k else k.orFlags fl
/-- Scalar register x`n`. -/
def xs (n : BitVec 5) : SReg := n.zeroExtend 6
/-- The format of an F field, one that the row's rules accept. -/
def ovnF (f : BitVec 4) : Fmt := (ovnFmt f).getD .f32
/-- The rounding mode of an X field. -/
def ovnRm (r : BitVec 3) : RM := (rmOfBits r).getD .rne

/-- The core as an Ovnath bundle reads it: no result is in flight (R404). -/
def State.ovnView (s : State) : Core :=
  let k := s.core s.ovn.core
  { k with windows := [], level := 0, ir := { cp := k.main.pc, next := k.main.pc + 16 } }

/-- What a slot of the bundle sees. -/
def State.ovnCtx (s : State) (o : OvnSlot) : Ctx :=
  let k := s.ovnView
  { s := s, c := s.ovn.core, k := k, pos := o.sl.pos,
    bad := (o.sl.eats.any fun n => k.sBad n) || o.carries && o.vs.any s.ovBad }

/-- A slot's fault, with the address of its Ovnath bundle as TPC (R411). -/
def State.ovnTrap (s : State) (f : SlotFault) (pos : Nat) : State :=
  s.takeTrap s.ovn.core { code := f.code, tpc := (s.core s.ovn.core).main.pc, taddr := f.addr, detail := f.detail,
                          order := if f.code = .regRange then 8 else 9, sfmask := 2 ^ pos, pageable := f.pageable }

/-- The results of the bundle land at once: their flags are in FFLAGS, and what was in flight before stays so (R404). -/
def Core.ovnLand (k : Core) (before : List Window) : Core :=
  let f := k.windows.foldl (fun (f : Flags) w => f ||| w.flags) 0
  let k := { k with windows := before }
  if f = 0 then k else k.orFlags f

/-! ### The scalar and control slots (R405) -/

/-- The guard of every Ovnath slot: always active. -/
def always : Guard := ⟨false, 0⟩

/-- LIS: fourteen more bits shifted in. -/
def ovnShiftIn (x : Word64) (i : BitVec 14) : Word64 := BitVec.ofNat 64 (x.toNat * 2 ^ 14 + i.toNat)

def ovnInt (o : IntOp) (d a b : BitVec 5) : OvnSlot := { sl := intSlot o always (xs d) (xs a) (xs b) }
def ovnSlotAddi (d a : BitVec 5) (i : BitVec 14) : OvnSlot := { sl := immSlot .add always (xs d) (xs a) (i.signExtend 64) }
def ovnSlotLi (d : BitVec 5) (i : BitVec 14) : OvnSlot := { sl := scalarSlot always (xs d) [] 1 [] fun _ => (i.signExtend 64, 0) }
def ovnSlotLis (d : BitVec 5) (i : BitVec 14) : OvnSlot :=
  { sl := scalarSlot always (xs d) [xs d] 1 [] fun x => (ovnShiftIn (x.sr (xs d)) i, 0) }
def ovnSlotCmp (d : BitVec 4) (a b : BitVec 5) (n : BitVec 1) (c : BitVec 3) : OvnSlot :=
  { sl := slotCmp always (d.zeroExtend 6) (xs a) (xs b) (n = 1) (condOfBits c) }
def ovnSlotLd (d a : BitVec 5) (i : BitVec 14) : OvnSlot := { sl := loadSlot 8 false always (xs d) (xs a) (i.signExtend 17) }
def ovnSlotSt (d a : BitVec 5) (i : BitVec 14) : OvnSlot := { sl := storeSlot 8 always (xs d) (xs a) (i.signExtend 17) }

/-- The bundle `i` bundles away. -/
def ovnTarget (pc : Word64) (i : Int) : Word64 := BitVec.ofNat 64 (addAddr pc.toNat (16 * i))
def ovnSlotJ (i : BitVec 19) : OvnSlot := { sl := { pos := 7, flow := fun x => some (ovnTarget x.pc i.toInt) } }
def ovnSlotJk (k : BitVec 4) (i : BitVec 14) : OvnSlot :=
  { sl := { pos := 7, flow := fun x => if x.pr (k.zeroExtend 6) then some (ovnTarget x.pc i.toInt) else none } }
def ovnSlotCall (d : BitVec 5) (i : BitVec 19) : OvnSlot :=
  { sl := { pos := 7, writes := [.s (xs d).toNat], run := fun x s => s.onCore x.c fun k => (k.setS (xs d) x.k.ir.next).setSBad (xs d) false,
            flow := fun x => some (ovnTarget x.pc i.toInt) } }
def ovnSlotRet (a : BitVec 5) : OvnSlot := { sl := { pos := 7, eats := [xs a], flow := fun x => some (x.sr (xs a)) } }
/-- END (R319): the program runs no more. -/
def ovnSlotEnd : OvnSlot :=
  { sl := { slotTaskend always with
      last := fun x s => { (slotTaskend always).last x s with ovn := { s.ovn with running := false, calling := false } } } }
def ovnSlotTrap (i : BitVec 8) : OvnSlot := { sl := slotTrap always i }

/-- SYS: SYSC with semaphore w31, then WAIT.con of it and a FENCE CORE, CORE of the line, whose first doubleword is the result (R318,
R405, R409). The bundle issues twice, once to send and once, when the reply has come, to take it. -/
def ovnSlotSys (d a : BitVec 5) : OvnSlot :=
  let send := slotSysc always 31 (xs a)
  let line (x : Ctx) : Nat := x.s.syscAt x.c
  { sl := { pos := 7, writes := [.s (xs d).toNat], eats := [xs a],
            check := fun x => if x.s.ovn.calling then none else send.check x,
            wait := fun x => if x.s.ovn.calling then (if x.k.w 31 = 0 then some x.s else none) else send.wait x,
            run := fun x s =>
              if x.s.ovn.calling then
                let s := s.onCore x.c fun k =>
                  { k.setW 31 (k.w 31 - 1) with ord := { k.ord with fences := { lo := line x, hi := line x + 127, time := s.histNext } :: k.ord.fences }, ltime := k.ltime + 1 }
                let s := { s with ovn := { s.ovn with calling := false } }
                s.onCore x.c fun k =>
                  if s.lostIn (line x) 8 then k.raiseLost 0 x.pc
                  else (k.setS (xs d) (BitVec.ofNat 64 (ofBytes ((List.range 8).map fun i => s.coreByte (line x + i))))).setSBad (xs d)
                    (s.poisoned (line x) 8)
              else { s with ovn := { s.ovn with calling := true } },
            store := fun x s => if x.s.ovn.calling then s else send.store x s,
            flow := fun x => if x.s.ovn.calling then none else some x.pc } }

/-! ### The vector slot (R406) -/

/-- A slot that rounds by stochastic rounding consumes s59 (R92, R362). -/
def ovnSeed (r : BitVec 3) : List SReg := if ovnRm r = .sr then [59] else []

/-- A slot that computes a vector register from vector registers, in rounding mode `r`. -/
def ovnVec (d : BitVec 5) (vs : List (BitVec 5)) (r : BitVec 3) (f : Ctx → Vec × Flags) : OvnSlot :=
  { sl := { pos := 1, eats := ovnSeed r, run := fun x s => s.setOv d (f x).1 x.bad (f x).2 }, vs := vs, vd := [d] }

/-- An operation that rounds, its third operand the old v[D] (R204, R205). -/
def ovnArith (o : VecOp) (d a b : BitVec 5) (f : BitVec 4) (r : BitVec 3) : OvnSlot :=
  ovnVec d (if o = .fma then [a, b, d] else [a, b]) r fun x => vecArith o (ovnF f) (ovnRm r) x.seed (x.s.ov a) (x.s.ov b) (x.s.ov d)
def ovnMinMax (mx : Bool) (d a b : BitVec 5) (f : BitVec 4) : OvnSlot :=
  ovnVec d [a, b] 0 fun x => vecMinMax mx (ovnF f) (x.s.ov a) (x.s.ov b)
def ovnSlotVcmp (d a b : BitVec 5) (f : BitVec 4) (c : BitVec 3) : OvnSlot :=
  ovnVec d [a, b] 0 fun x => vecCmp (condOfBits c) (ovnF f) (x.s.ov a) (x.s.ov b)
def ovnSlotVsel (d a b : BitVec 5) (f : BitVec 4) : OvnSlot :=
  ovnVec d [a, b, d] 0 fun x => (vecSel (ovnF f) (x.s.ov a) (x.s.ov b) (x.s.ov d), 0)
def ovnSlotVcvt (d a : BitVec 5) (c : BitVec 3) (f : BitVec 4) (r : BitVec 3) : OvnSlot :=
  ovnVec d [a] r fun x => vecConvert x.k.fmtn (ovnF f) (ovnF (c.zeroExtend 4)) (ovnRm r) false x.seed (x.s.ov a)
def ovnSlotVbc (d a : BitVec 5) (f : BitVec 4) : OvnSlot :=
  { sl := { pos := 1, eats := [xs a], run := fun x s => s.setOv d (vecBcast (ovnF f) (x.sr (xs a))) x.bad 0 }, vd := [d] }
def ovnSlotVred (d a : BitVec 5) (f : BitVec 4) (r : BitVec 3) : OvnSlot :=
  ovnVec d [a] r fun x => vecRedAdd (ovnF f) (ovnRm r) x.seed (x.s.ov a)
/-- VDOT: the rounded products, in a temporary, then their reduction sum (R406, R408, R409). -/
def ovnSlotVdot (d a b : BitVec 5) (f : BitVec 4) (r : BitVec 3) : OvnSlot :=
  let o := ovnVec d [a, b] r fun x =>
    let p := vecArith .mul (ovnF f) (ovnRm r) x.seed (x.s.ov a) (x.s.ov b) 0
    let q := vecRedAdd (ovnF f) (ovnRm r) x.seed p.1
    (q.1, p.2 ||| q.2)
  { o with sl := { o.sl with check := fun x => if x.k.qallot ≤ x.s.ovn.resident then some { code := .regRange } else none } }
/-- The address of a VLD or VST. -/
def ovnVea (base : Word64) (i : BitVec 14) : Nat := addAddr base.toNat (8 * i.toInt)
/-- An offset outside the native VLD range goes through ADDI into s33 (R136, R409). -/
def Core.ovnVaddr (k : Core) (base : Word64) (bad : Bool) (i : BitVec 14) : Core :=
  if i.toInt % 32 = 0 && decide (-4096 ≤ i.toInt) && decide (i.toInt < 4096) then k
  else (k.setS 33 (BitVec.ofInt 64 (base.toNat + 8 * i.toInt))).setSBad 33 bad
/-- VLD (R136): 32 doublewords; a POISON word leaves the register as it was. -/
def ovnSlotVld (d a : BitVec 5) (i : BitVec 14) : OvnSlot :=
  let ea (x : Ctx) : Nat := ovnVea (x.sr (xs a)) i
  { sl := { pos := 1, eats := [xs a], check := fun x => x.vectorFault .read false (ea x) 8,
            run := fun x s =>
              let rs := (List.range 32).map fun j => x.readMem (x.pa .read (vmemAt (ea x) 8 j)) 8 (193 + j)
              let s := (List.range 32).foldl (fun s j => x.lookMem (x.pa .read (vmemAt (ea x) 8 j)) 8 (193 + j) s)
                ((touchVector x .read (ea x) 8 s).onCore x.c fun k => k.ovnVaddr (x.sr (xs a)) x.bad i)
              match rs.findIdx? fun r => r.2.2 with
              | some j => s.onCore x.c fun k => (k.setQ (s.ovnQueue d) []).raiseLost (BitVec.ofNat 64 (vmemAt (ea x) 8 j)) x.pc
              | none => s.setOv d (BitVec.ofNat 2048 (rs.foldr (fun r acc => r.1 + acc * 2 ^ 64) 0)) (x.bad || rs.any fun r => r.2.1) 0 },
    vd := [d] }
/-- VST (R136), in ascending order of its doublewords. -/
def ovnSlotVst (d a : BitVec 5) (i : BitVec 14) : OvnSlot :=
  let ea (x : Ctx) : Nat := ovnVea (x.sr (xs a)) i
  { sl := { pos := 1, eats := [xs a], check := fun x => x.vectorFault .write false (ea x) 8,
            store := fun x s => (List.range 32).foldl (fun s j =>
              let va := vmemAt (ea x) 8 j
              x.writeMem va (x.pa .write va) (toBytes 8 (field (x.s.ov d).toNat (64 * j) 64)) (x.bad || x.s.ovBad d) s)
              ((touchVector x .write (ea x) 8 s).onCore x.c fun k => k.ovnVaddr (x.sr (xs a)) x.bad i) },
    vs := [d], carries := false }
def ovnSlotVext (d a b : BitVec 5) (f : BitVec 4) : OvnSlot :=
  { sl := { pos := 1, writes := [.s (xs d).toNat], eats := [xs b],
            run := fun x s => s.onCore x.c fun k => (k.setS (xs d) (vecExtr (ovnF f) (x.s.ov a) (x.sr (xs b)))).setSBad (xs d) x.bad }, vs := [a] }

/-! ### The tile slot (R406) -/

/-- Accumulator c(2i) of a`i`. -/
def ovnA (a : BitVec 5) : AReg := BitVec.ofNat 4 (2 * a.toNat)
/-- The matrix unit is at rest: every earlier result of it is visible (R404). -/
def ovnIdle (x : Ctx) : Option State := if x.k.passes = [] && x.k.mstores = [] && x.s.teller.isNone then none else some x.s

/-- MZ: both accumulators of a`d` (R402). -/
def ovnSlotMz (d : BitVec 5) : OvnSlot :=
  { sl := { pos := 3, wait := ovnIdle, run := fun x s => (slotMzero always (ovnA d + 1)).run x ((slotMzero always (ovnA d)).run x s) } }

/-- The rows of a tile at `va` after FENCE CORE, COPY: their values, the poisoned ones, and one that meets a POISON word (R409). -/
def Ctx.ovnTile (x : Ctx) (s : State) (va pick : Nat) : List (BitVec 1024) × BitVec 64 × Option Nat :=
  let at_ (i : Nat) : Nat := x.pa .read (addr va (128 * i))
  ((List.range 64).map fun i => BitVec.ofNat 1024 (if s.lostIn (at_ i) 128 then x.free (pick + i) else s.natAt (at_ i) 128),
   (List.range 64).foldl (fun m i => if s.poisoned (at_ i) 128 then m ||| BitVec.ofNat 64 (2 ^ i) else m) 0,
   (List.range 64).find? fun i => s.lostIn (at_ i) 128)

/-- A tile operand's faults: those of an RPUSH from memory (R154). -/
def Ctx.ovnTileFault (x : Ctx) (n : BitVec 5) : Option SlotFault :=
  (alignIf ((x.sr (xs n)).toNat % 128 ≠ 0) (x.sr (xs n)) false).or (x.rangeFault .read x.s.homed (x.sr (xs n)).toNat 8192)

/-- MMA: a pass with cell sequence 0 and SAT 0 over two tiles in memory, committed at once (R222, R224, R406). -/
def ovnSlotMma (d a b : BitVec 5) (f : BitVec 4) : OvnSlot :=
  { sl := { pos := 3, eats := [xs a, xs b], wait := ovnIdle,
            check := fun x => (x.ovnTileFault a).or (x.ovnTileFault b),
            run := fun x s =>
              let s := s.endOwned fun _ o => o = x.c
              let s := [a, b].foldl (fun s n =>
                (s.touch x.c x.root .read (x.sr (xs n)).toNat).touch x.c x.root .read (addr (x.sr (xs n)).toNat 8191)) s
              let ta := x.ovnTile s (x.sr (xs a)).toNat 64
              let tb := x.ovnTile s (x.sr (xs b)).toNat 128
              let p : Pass := { fmt := ovnF f, fmtn := x.k.fmtImage.toNat, seq := vget 0 x.k.regs.cseq 0, sat := false,
                                acc := (ovnA d).toNat, a := ta.1, aPoison := if x.bad then ~~~0 else ta.2.1, b := some tb.1,
                                bPoison := tb.2.1 ≠ 0, start := some s.clk, pc := x.pc }
              let lost (k : Core) (n : BitVec 5) (r : Option Nat) : Core :=
                r.elim k fun i => k.raiseLost (x.sr (xs n) + BitVec.ofNat 64 (128 * i)) x.pc
              let s := s.onCore x.c fun k => { lost (lost k a ta.2.2) b tb.2.2 with passes := [p] }
              s.commitAt x.c 0 } }

/-- MST: MSTOREC of rows 0 to 63 with stride x[B] and SAT 0, performed at once, then FENCE MATRIX, CORE over its rows (R227, R409). -/
def ovnSlotMst (d a b : BitVec 5) (f : BitVec 4) (r : BitVec 3) : OvnSlot :=
  let inner := slotMstorec always (ovnF f) (ovnRm r) (xs d) (ovnA a) 32
  let range (x : Ctx) : Word64 := BitVec.ofNat 64 (field (x.sr (xs b)).toNat 0 32 * 2 ^ 32 + 64 * 2 ^ 6)
  let ctx (x : Ctx) : Ctx := { x with k := x.k.setS 32 (range x) }
  { sl := { pos := 3, eats := [xs d, xs b] ++ ovnSeed r, wait := ovnIdle, check := fun x => inner.check (ctx x),
            run := fun x s =>
              let s := inner.run (ctx x) (s.onCore x.c fun k => (k.setS 32 (range x)).setSBad 32 (x.k.sBad (xs b)))
              let rows := (s.core x.c).mstores.flatMap fun m => m.writes.map fun w => (w.1, w.1 + w.2.1.length - 1)
              let s := s.mstorecWritten x.c
              let marks := rows.map fun r => ({ lo := r.1, hi := r.2, time := s.histNext } : FenceMark)
              s.onCore x.c fun k => { k with ord := { k.ord with fences := marks ++ k.ord.fences }, ltime := k.ltime + 1 } } }

/-- MRD: row x[B] of c(2i) (R226). -/
def ovnSlotMrd (d a b : BitVec 5) : OvnSlot :=
  { sl := { pos := 3, eats := [xs b], wait := ovnIdle, check := fun x => dataIf (63 < (x.sr (xs b)).toNat),
            run := fun x s =>
              let r := x.readRow (ovnA a).toNat (x.sr (xs b)).toNat 0
              s.setOv d r.1.1 (x.bad || r.2.1) 0 }, vd := [d] }


/-! ### The slots of a bundle (R403) -/

/-- The scalar slot of a bundle, by its word; none where no row of R405 and R406 has it. -/
def ovnMeanS (w : BitVec 32) : Option OvnSlot :=
  if w &&& 0xff0001ff#32 = 0x01000000#32 then some (ovnInt .add (w.extractLsb' 19 5) (w.extractLsb' 14 5) (w.extractLsb' 9 5))
  else if w &&& 0xff0001ff#32 = 0x02000000#32 then some (ovnInt .sub (w.extractLsb' 19 5) (w.extractLsb' 14 5) (w.extractLsb' 9 5))
  else if w &&& 0xff0001ff#32 = 0x03000000#32 then some (ovnInt .mul (w.extractLsb' 19 5) (w.extractLsb' 14 5) (w.extractLsb' 9 5))
  else if w &&& 0xff0001ff#32 = 0x04000000#32 then some (ovnInt .divs (w.extractLsb' 19 5) (w.extractLsb' 14 5) (w.extractLsb' 9 5))
  else if w &&& 0xff0001ff#32 = 0x05000000#32 then some (ovnInt .and (w.extractLsb' 19 5) (w.extractLsb' 14 5) (w.extractLsb' 9 5))
  else if w &&& 0xff0001ff#32 = 0x06000000#32 then some (ovnInt .or (w.extractLsb' 19 5) (w.extractLsb' 14 5) (w.extractLsb' 9 5))
  else if w &&& 0xff0001ff#32 = 0x07000000#32 then some (ovnInt .xor (w.extractLsb' 19 5) (w.extractLsb' 14 5) (w.extractLsb' 9 5))
  else if w &&& 0xff0001ff#32 = 0x08000000#32 then some (ovnInt .shl (w.extractLsb' 19 5) (w.extractLsb' 14 5) (w.extractLsb' 9 5))
  else if w &&& 0xff0001ff#32 = 0x09000000#32 then some (ovnInt .shrl (w.extractLsb' 19 5) (w.extractLsb' 14 5) (w.extractLsb' 9 5))
  else if w &&& 0xff0001ff#32 = 0x0a000000#32 then some (ovnInt .shra (w.extractLsb' 19 5) (w.extractLsb' 14 5) (w.extractLsb' 9 5))
  else if w &&& 0xff000000#32 = 0x0b000000#32 then some (ovnSlotAddi (w.extractLsb' 19 5) (w.extractLsb' 14 5) (w.extractLsb' 0 14))
  else if w &&& 0xff07c000#32 = 0x0c000000#32 then some (ovnSlotLi (w.extractLsb' 19 5) (w.extractLsb' 0 14))
  else if w &&& 0xff07c000#32 = 0x0d000000#32 then some (ovnSlotLis (w.extractLsb' 19 5) (w.extractLsb' 0 14))
  else if w &&& 0xff80001f#32 = 0x0e000000#32 then (if (cmpCondOkBits (w.extractLsb' 8 1) (w.extractLsb' 5 3)) then some (ovnSlotCmp (w.extractLsb' 19 4) (w.extractLsb' 14 5) (w.extractLsb' 9 5) (w.extractLsb' 8 1) (w.extractLsb' 5 3)) else none)
  else if w &&& 0xff000000#32 = 0x0f000000#32 then some (ovnSlotLd (w.extractLsb' 19 5) (w.extractLsb' 14 5) (w.extractLsb' 0 14))
  else if w &&& 0xff000000#32 = 0x10000000#32 then some (ovnSlotSt (w.extractLsb' 19 5) (w.extractLsb' 14 5) (w.extractLsb' 0 14))
  else none

/-- The vector slot of a bundle, by its word; none where no row of R405 and R406 has it. -/
def ovnMeanV (w : BitVec 32) : Option OvnSlot :=
  if w &&& 0xff000018#32 = 0x01000000#32 then (if (ovnFmtIn isFvIw (w.extractLsb' 5 4) && ovnRmOk (w.extractLsb' 5 4) (w.extractLsb' 0 3)) then some (ovnArith .add (w.extractLsb' 19 5) (w.extractLsb' 14 5) (w.extractLsb' 9 5) (w.extractLsb' 5 4) (w.extractLsb' 0 3)) else none)
  else if w &&& 0xff000018#32 = 0x02000000#32 then (if (ovnFmtIn isFvIw (w.extractLsb' 5 4) && ovnRmOk (w.extractLsb' 5 4) (w.extractLsb' 0 3)) then some (ovnArith .sub (w.extractLsb' 19 5) (w.extractLsb' 14 5) (w.extractLsb' 9 5) (w.extractLsb' 5 4) (w.extractLsb' 0 3)) else none)
  else if w &&& 0xff000018#32 = 0x03000000#32 then (if (ovnFmtIn isFvIw (w.extractLsb' 5 4) && ovnRmOk (w.extractLsb' 5 4) (w.extractLsb' 0 3)) then some (ovnArith .mul (w.extractLsb' 19 5) (w.extractLsb' 14 5) (w.extractLsb' 9 5) (w.extractLsb' 5 4) (w.extractLsb' 0 3)) else none)
  else if w &&& 0xff000018#32 = 0x04000000#32 then (if (ovnFmtIn fmtIsIeee (w.extractLsb' 5 4) && ovnRmOk (w.extractLsb' 5 4) (w.extractLsb' 0 3)) then some (ovnArith .fma (w.extractLsb' 19 5) (w.extractLsb' 14 5) (w.extractLsb' 9 5) (w.extractLsb' 5 4) (w.extractLsb' 0 3)) else none)
  else if w &&& 0xff000018#32 = 0x05000000#32 then (if (ovnFmtIn isFvIwB8 (w.extractLsb' 5 4) && (w.extractLsb' 0 3) == 0) then some (ovnMinMax false (w.extractLsb' 19 5) (w.extractLsb' 14 5) (w.extractLsb' 9 5) (w.extractLsb' 5 4)) else none)
  else if w &&& 0xff000018#32 = 0x06000000#32 then (if (ovnFmtIn isFvIwB8 (w.extractLsb' 5 4) && (w.extractLsb' 0 3) == 0) then some (ovnMinMax true (w.extractLsb' 19 5) (w.extractLsb' 14 5) (w.extractLsb' 9 5) (w.extractLsb' 5 4)) else none)
  else if w &&& 0xff000018#32 = 0x07000000#32 then (if (ovnFmtIn isFvIwB8 (w.extractLsb' 5 4) && ovnCondOk (w.extractLsb' 5 4) (w.extractLsb' 0 3)) then some (ovnSlotVcmp (w.extractLsb' 19 5) (w.extractLsb' 14 5) (w.extractLsb' 9 5) (w.extractLsb' 5 4) (w.extractLsb' 0 3)) else none)
  else if w &&& 0xff00001f#32 = 0x08000000#32 then (if (ovnFmtIn isFvIwB8 (w.extractLsb' 5 4)) then some (ovnSlotVsel (w.extractLsb' 19 5) (w.extractLsb' 14 5) (w.extractLsb' 9 5) (w.extractLsb' 5 4)) else none)
  else if w &&& 0xff003018#32 = 0x09000000#32 then (if ((ovnFmt (w.extractLsb' 5 4)).isSome && (rmOfBits (w.extractLsb' 0 3)).isSome) then some (ovnSlotVcvt (w.extractLsb' 19 5) (w.extractLsb' 14 5) (w.extractLsb' 9 3) (w.extractLsb' 5 4) (w.extractLsb' 0 3)) else none)
  else if w &&& 0xff003e1f#32 = 0x0a000000#32 then (if (ovnFmtIn isFvIw (w.extractLsb' 5 4)) then some (ovnSlotVbc (w.extractLsb' 19 5) (w.extractLsb' 14 5) (w.extractLsb' 5 4)) else none)
  else if w &&& 0xff003e18#32 = 0x0b000000#32 then (if (ovnFmtIn isFvIw (w.extractLsb' 5 4) && ovnRmOk (w.extractLsb' 5 4) (w.extractLsb' 0 3)) then some (ovnSlotVred (w.extractLsb' 19 5) (w.extractLsb' 14 5) (w.extractLsb' 5 4) (w.extractLsb' 0 3)) else none)
  else if w &&& 0xff000018#32 = 0x0c000000#32 then (if (ovnFmtIn isFvIw (w.extractLsb' 5 4) && ovnRmOk (w.extractLsb' 5 4) (w.extractLsb' 0 3)) then some (ovnSlotVdot (w.extractLsb' 19 5) (w.extractLsb' 14 5) (w.extractLsb' 9 5) (w.extractLsb' 5 4) (w.extractLsb' 0 3)) else none)
  else if w &&& 0xff000000#32 = 0x0d000000#32 then some (ovnSlotVld (w.extractLsb' 19 5) (w.extractLsb' 14 5) (w.extractLsb' 0 14))
  else if w &&& 0xff000000#32 = 0x0e000000#32 then some (ovnSlotVst (w.extractLsb' 19 5) (w.extractLsb' 14 5) (w.extractLsb' 0 14))
  else if w &&& 0xff00001f#32 = 0x0f000000#32 then (if (ovnFmtIn isFvIw (w.extractLsb' 5 4)) then some (ovnSlotVext (w.extractLsb' 19 5) (w.extractLsb' 14 5) (w.extractLsb' 9 5) (w.extractLsb' 5 4)) else none)
  else none

/-- The tile slot of a bundle, by its word; none where no row of R405 and R406 has it. -/
def ovnMeanM (w : BitVec 32) : Option OvnSlot :=
  if w &&& 0xff07ffff#32 = 0x01000000#32 then (if (ovnAcc (w.extractLsb' 19 5)) then some (ovnSlotMz (w.extractLsb' 19 5)) else none)
  else if w &&& 0xff00001f#32 = 0x02000000#32 then (if (ovnAcc (w.extractLsb' 19 5) && ovnFmtIn isPass (w.extractLsb' 5 4)) then some (ovnSlotMma (w.extractLsb' 19 5) (w.extractLsb' 14 5) (w.extractLsb' 9 5) (w.extractLsb' 5 4)) else none)
  else if w &&& 0xff000018#32 = 0x03000000#32 then (if (ovnAcc (w.extractLsb' 14 5) && ovnFmtIn isFvIwB8 (w.extractLsb' 5 4) && (rmOfBits (w.extractLsb' 0 3)).isSome) then some (ovnSlotMst (w.extractLsb' 19 5) (w.extractLsb' 14 5) (w.extractLsb' 9 5) (w.extractLsb' 5 4) (w.extractLsb' 0 3)) else none)
  else if w &&& 0xff0001ff#32 = 0x04000000#32 then (if (ovnAcc (w.extractLsb' 14 5)) then some (ovnSlotMrd (w.extractLsb' 19 5) (w.extractLsb' 14 5) (w.extractLsb' 9 5)) else none)
  else none

/-- The control slot of a bundle, by its word; none where no row of R405 and R406 has it. -/
def ovnMeanW (w : BitVec 32) : Option OvnSlot :=
  if w &&& 0xfff80000#32 = 0x01000000#32 then some (ovnSlotJ (w.extractLsb' 0 19))
  else if w &&& 0xff87c000#32 = 0x02000000#32 then some (ovnSlotJk (w.extractLsb' 19 4) (w.extractLsb' 0 14))
  else if w &&& 0xff000000#32 = 0x03000000#32 then some (ovnSlotCall (w.extractLsb' 19 5) (w.extractLsb' 0 19))
  else if w &&& 0xfff83fff#32 = 0x04000000#32 then some (ovnSlotRet (w.extractLsb' 14 5))
  else if w &&& 0xffffffff#32 = 0x05000000#32 then some (ovnSlotEnd)
  else if w &&& 0xffffff00#32 = 0x06000000#32 then some (ovnSlotTrap (w.extractLsb' 0 8))
  else if w &&& 0xff003fff#32 = 0x07000000#32 then some (ovnSlotSys (w.extractLsb' 19 5) (w.extractLsb' 14 5))
  else none

/-- The slot `i` of a bundle: none when it is empty, refused when no row accepts it. -/
def ovnSlotAt (x : BitVec 128) (i : Nat) : Except Unit (Option OvnSlot) :=
  let w := ovnSlot x i
  if w = 0 then .ok none
  else match (match i with | 0 => ovnMeanS w | 1 => ovnMeanV w | 2 => ovnMeanM w | _ => ovnMeanW w) with
    | some o => .ok (some o)
    | none => .error ()

/-- The slots of bundle `x` that a row accepts. -/
def ovnSlots (x : BitVec 128) : List OvnSlot := (List.range 4).filterMap fun i => (ovnSlotAt x i).toOption.join

/-! ### Resident registers and spill slots (R408) -/

/-- Some instruction of the text writes x15, so that the spill base is s34. -/
def Ovn.moves (o : Ovn) : Bool := o.text.any fun x => (ovnSlots x).any fun t => RegName.s 15 ∈ t.sl.writes
/-- The scalar that holds the spill base. -/
def Ovn.base (o : Ovn) : SReg := if o.moves then 34 else 15
/-- How many bundles ahead of `pc` in the text the next read of vector register `n` lies; beyond the text where there is none (log 71). -/
def Ovn.ahead (o : Ovn) (pc : Nat) (n : BitVec 5) : Nat :=
  ((o.text.drop ((pc - o.textVa) / 16)).findIdx? fun x => (ovnSlots x).any fun t => n ∈ t.vs).getD o.text.length
/-- The resident register to spill, none of `keep`: that whose next read lies furthest ahead, the lowest number between equals. -/
def Ovn.victim (o : Ovn) (pc : Nat) (keep : List (BitVec 5)) : Option (BitVec 5) :=
  (((List.range 32).map (BitVec.ofNat 5)).filter fun n => (Map.find o.place n.toNat).isSome && n ∉ keep).foldl
    (fun best n => match best with
      | none => some n
      | some m => if o.ahead pc m < o.ahead pc n then some n else some m) none

/-- The translation's first native bundle: s34 holds s15 where the program writes x15. -/
def State.ovnBegin (s : State) : State :=
  if s.ovn.begun then s
  else
    let s := if s.ovn.moves then s.onCore s.ovn.core fun k => (k.setS 34 (k.s 15)).setSBad 34 (k.sBad 15) else s
    { s with ovn := { s.ovn with begun := true } }

/-- The VST and the VLD of vector register `n` in queue `q`, at its spill slot. -/
def Ovn.spillSlot (o : Ovn) (q : QReg) (n : BitVec 5) : OvnSlot := { sl := vstoreSlot 0 always q o.base none (n.zeroExtend 8) }
def Ovn.reloadSlot (o : Ovn) (q : QReg) (n : BitVec 5) : OvnSlot := { sl := vloadSlot 0 always q o.base none (n.zeroExtend 8) }

/-- Resident register `n` goes to its spill slot, and its queue is empty; or the state of the fault that its VST meets. -/
def State.ovnSpill (s : State) (n : BitVec 5) : Except State State :=
  let q := s.ovnQueue n
  let o := s.ovn.spillSlot q n
  let x := { s.ovnCtx o with qs := (s.ovnView.q q).take 1 }
  match o.sl.check x with
  | some f => .error (s.ovnTrap f 1)
  | none =>
    let s := (o.sl.store x s).onCore s.ovn.core fun k => k.setQ q []
    .ok { s with ovn := { s.ovn with place := Map.erase s.ovn.place n.toNat } }

/-- Register `n` becomes resident in the empty queue `q`, its value reloaded where the bundle reads it; or the state of the stop that its
VLD meets. A POISON word leaves the queue empty and raises MEM-LOST before the bundle (R304). -/
def State.ovnAdmit (s : State) (n : BitVec 5) (q : Nat) (read : Bool) : Except State State :=
  let s := s.onCore s.ovn.core fun k => k.setQ (BitVec.ofNat 6 q) []
  let resident (s : State) : State := { s with ovn := { s.ovn with place := Map.put s.ovn.place n.toNat q } }
  if s.ovnView.qallot ≤ q then .error (s.ovnTrap { code := .regRange } 1)
  else if !read then .ok (resident s)
  else
    let o := s.ovn.reloadSlot (BitVec.ofNat 6 q) n
    let x := s.ovnCtx o
    match o.sl.check x with
    | some f => .error (s.ovnTrap f 1)
    | none =>
      let before := (s.core s.ovn.core).windows
      let t := ((o.sl.run x s).onCore s.ovn.core fun k =>
        { k.setQ (BitVec.ofNat 6 q) ((k.q (BitVec.ofNat 6 q)).map fun e => { e with due := 0, landed := true }) with windows := before }).drew 512
      if (t.core s.ovn.core).q (BitVec.ofNat 6 q) = [] then .error t else .ok (resident t)

/-- Register `n` is resident for a bundle that names the registers `keep`. -/
def State.ovnResident (s : State) (keep : List (BitVec 5)) (read : Bool) (n : BitVec 5) : Except State State :=
  match Map.find s.ovn.place n.toNat with
  | some q => if s.ovnView.qallot ≤ q then .error (s.ovnTrap { code := .regRange } 1) else .ok s
  | none => match (List.range s.ovn.resident).find? fun q => s.ovn.place.all fun e => e.2 ≠ q with
    | some q => s.ovnAdmit n q read
    | none => match s.ovn.victim (s.core s.ovn.core).main.pc.toNat keep with
      | none => .error s
      | some m => match s.ovnSpill m with
        | .error t => .error t
        | .ok t => t.ovnAdmit n (s.ovnQueue m).toNat read

/-- The native bundles before that of an Ovnath bundle which reads the vector registers `rd` and writes `wr`: all of them are resident in
the state that follows; or the state in which one of these bundles stops. -/
def State.ovnPlaced (s : State) (rd wr : List (BitVec 5)) : Except State State :=
  (rd ++ wr).foldl (fun r n => match r with
    | .error t => .error t
    | .ok s => s.ovnResident (rd ++ wr) (n ∈ rd) n) (.ok s.ovnBegin)

/-! ### Bundles at issue -/

/-- The fault of a slot: a vector register whose entry a MEM-LOST has left missing (R167, R304), else that of its entry. -/
def OvnSlot.fault (o : OvnSlot) (x : Ctx) : Option SlotFault :=
  if o.vs.any fun n => x.k.q (x.s.ovnQueue n) = [] then some { code := .queueUnder } else o.sl.check x

/-- The holder of the poison that a slot consumes (R362, R364). -/
def OvnSlot.eaten (o : OvnSlot) (x : Ctx) : Option Holder :=
  (o.sl.eaten x).or (if o.carries then (o.vs.find? x.s.ovBad).map fun n => { kind := 4, unit := x.c, loc := (x.s.ovnQueue n).toNat, va := 0 } else none)

/-- One Ovnath bundle on its core, its vector registers resident: a fault of a slot is taken with nothing applied (R411); a wait
leaves the state of the wait; else loads come before stores, and the next bundle follows. -/
def ovnApply (s : State) (slots : List OvnSlot) : State :=
  let c := s.ovn.core
  let v := s.ovnView
  match slots.findSome? fun o => (o.fault (s.ovnCtx o)).map fun f => (f, o.sl.pos) with
  | some (f, pos) => s.ovnTrap f pos
  | none => match slots.findSome? fun o => o.sl.wait (s.ovnCtx o) with
    | some s' => s'
    | none =>
      let s0 := s.onCore c fun k => { k with windows := [] }
      let s1 := slots.foldl (fun t o => o.sl.run (s.ovnCtx o) t) s0
      let s2 := slots.foldl (fun t o => o.sl.store (s.ovnCtx o) t) s1
      let s3 := slots.foldl (fun t o =>
        match o.eaten (s.ovnCtx o) with
        | some h => t.consumed c h v.main.pc
        | none => t) s2
      let pc := (slots.findSome? fun o => o.sl.flow (s.ovnCtx o)).getD v.ir.next
      let s4 := s3.onCore c fun k =>
        { k.ovnLand (s.core c).windows with main := { k.main with pc := pc }, idleFrames := 0 }
      (slots.foldl (fun t o => o.sl.last (s.ovnCtx o) t) s4).drew 5120

/-- One Ovnath bundle: its vector registers become resident, then it is applied. -/
def ovnIssue (s : State) (slots : List OvnSlot) : State :=
  match s.ovnPlaced (slots.flatMap (·.vs)) (slots.flatMap (·.vd)) with
  | .error t => t.drew 5120
  | .ok t => ovnApply t slots

/-- The bundle of one slot alone; a word that its row refuses is refused at load, and nothing of the load remains (R405, R406, R412). -/
def ovnOne (ok : Bool) (o : OvnSlot) (s : State) : Host.Outcome State Fault Refusal :=
  if ok then .next (ovnIssue s [o]) else .next { s with ovn := { s.ovn with running := false } }

/-! ### The meaning of each Ovnath instruction -/

/-- OVN_ADD (R405). -/
def execOvnAdd (d : BitVec 5) (a : BitVec 5) (b : BitVec 5) (s : State) : Host.Outcome State Fault Refusal :=
  ovnOne true (ovnInt .add d a b) s
/-- OVN_SUB (R405). -/
def execOvnSub (d : BitVec 5) (a : BitVec 5) (b : BitVec 5) (s : State) : Host.Outcome State Fault Refusal :=
  ovnOne true (ovnInt .sub d a b) s
/-- OVN_MUL (R405). -/
def execOvnMul (d : BitVec 5) (a : BitVec 5) (b : BitVec 5) (s : State) : Host.Outcome State Fault Refusal :=
  ovnOne true (ovnInt .mul d a b) s
/-- OVN_DIV (R405). -/
def execOvnDiv (d : BitVec 5) (a : BitVec 5) (b : BitVec 5) (s : State) : Host.Outcome State Fault Refusal :=
  ovnOne true (ovnInt .divs d a b) s
/-- OVN_AND (R405). -/
def execOvnAnd (d : BitVec 5) (a : BitVec 5) (b : BitVec 5) (s : State) : Host.Outcome State Fault Refusal :=
  ovnOne true (ovnInt .and d a b) s
/-- OVN_OR (R405). -/
def execOvnOr (d : BitVec 5) (a : BitVec 5) (b : BitVec 5) (s : State) : Host.Outcome State Fault Refusal :=
  ovnOne true (ovnInt .or d a b) s
/-- OVN_XOR (R405). -/
def execOvnXor (d : BitVec 5) (a : BitVec 5) (b : BitVec 5) (s : State) : Host.Outcome State Fault Refusal :=
  ovnOne true (ovnInt .xor d a b) s
/-- OVN_SHL (R405). -/
def execOvnShl (d : BitVec 5) (a : BitVec 5) (b : BitVec 5) (s : State) : Host.Outcome State Fault Refusal :=
  ovnOne true (ovnInt .shl d a b) s
/-- OVN_SHR (R405). -/
def execOvnShr (d : BitVec 5) (a : BitVec 5) (b : BitVec 5) (s : State) : Host.Outcome State Fault Refusal :=
  ovnOne true (ovnInt .shrl d a b) s
/-- OVN_SHRA (R405). -/
def execOvnShra (d : BitVec 5) (a : BitVec 5) (b : BitVec 5) (s : State) : Host.Outcome State Fault Refusal :=
  ovnOne true (ovnInt .shra d a b) s
/-- OVN_ADDI (R405). -/
def execOvnAddi (d : BitVec 5) (a : BitVec 5) (i : BitVec 14) (s : State) : Host.Outcome State Fault Refusal :=
  ovnOne true (ovnSlotAddi d a i) s
/-- OVN_LI (R405). -/
def execOvnLi (d : BitVec 5) (i : BitVec 14) (s : State) : Host.Outcome State Fault Refusal :=
  ovnOne true (ovnSlotLi d i) s
/-- OVN_LIS (R405). -/
def execOvnLis (d : BitVec 5) (i : BitVec 14) (s : State) : Host.Outcome State Fault Refusal :=
  ovnOne true (ovnSlotLis d i) s
/-- OVN_CMP (R405). -/
def execOvnCmp (d : BitVec 4) (a : BitVec 5) (b : BitVec 5) (n : BitVec 1) (c : BitVec 3) (s : State) : Host.Outcome State Fault Refusal :=
  ovnOne (cmpCondOkBits n c) (ovnSlotCmp d a b n c) s
/-- OVN_LD (R405). -/
def execOvnLd (d : BitVec 5) (a : BitVec 5) (i : BitVec 14) (s : State) : Host.Outcome State Fault Refusal :=
  ovnOne true (ovnSlotLd d a i) s
/-- OVN_ST (R405). -/
def execOvnSt (d : BitVec 5) (a : BitVec 5) (i : BitVec 14) (s : State) : Host.Outcome State Fault Refusal :=
  ovnOne true (ovnSlotSt d a i) s
/-- OVN_J (R405). -/
def execOvnJ (i : BitVec 19) (s : State) : Host.Outcome State Fault Refusal :=
  ovnOne true (ovnSlotJ i) s
/-- OVN_JK (R405). -/
def execOvnJk (k : BitVec 4) (i : BitVec 14) (s : State) : Host.Outcome State Fault Refusal :=
  ovnOne true (ovnSlotJk k i) s
/-- OVN_CALL (R405). -/
def execOvnCall (d : BitVec 5) (i : BitVec 19) (s : State) : Host.Outcome State Fault Refusal :=
  ovnOne true (ovnSlotCall d i) s
/-- OVN_RET (R405). -/
def execOvnRet (a : BitVec 5) (s : State) : Host.Outcome State Fault Refusal :=
  ovnOne true (ovnSlotRet a) s
/-- OVN_END (R405). -/
def execOvnEnd (s : State) : Host.Outcome State Fault Refusal :=
  ovnOne true (ovnSlotEnd) s
/-- OVN_TRAP (R405). -/
def execOvnTrap (i : BitVec 8) (s : State) : Host.Outcome State Fault Refusal :=
  ovnOne true (ovnSlotTrap i) s
/-- OVN_SYS (R405). -/
def execOvnSys (d : BitVec 5) (a : BitVec 5) (s : State) : Host.Outcome State Fault Refusal :=
  ovnOne true (ovnSlotSys d a) s
/-- OVN_VADD (R406). -/
def execOvnVadd (d : BitVec 5) (a : BitVec 5) (b : BitVec 5) (f : BitVec 4) (r : BitVec 3) (s : State) : Host.Outcome State Fault Refusal :=
  ovnOne (ovnFmtIn isFvIw f && ovnRmOk f r) (ovnArith .add d a b f r) s
/-- OVN_VSUB (R406). -/
def execOvnVsub (d : BitVec 5) (a : BitVec 5) (b : BitVec 5) (f : BitVec 4) (r : BitVec 3) (s : State) : Host.Outcome State Fault Refusal :=
  ovnOne (ovnFmtIn isFvIw f && ovnRmOk f r) (ovnArith .sub d a b f r) s
/-- OVN_VMUL (R406). -/
def execOvnVmul (d : BitVec 5) (a : BitVec 5) (b : BitVec 5) (f : BitVec 4) (r : BitVec 3) (s : State) : Host.Outcome State Fault Refusal :=
  ovnOne (ovnFmtIn isFvIw f && ovnRmOk f r) (ovnArith .mul d a b f r) s
/-- OVN_VFMA (R406). -/
def execOvnVfma (d : BitVec 5) (a : BitVec 5) (b : BitVec 5) (f : BitVec 4) (r : BitVec 3) (s : State) : Host.Outcome State Fault Refusal :=
  ovnOne (ovnFmtIn fmtIsIeee f && ovnRmOk f r) (ovnArith .fma d a b f r) s
/-- OVN_VMIN (R406). -/
def execOvnVmin (d : BitVec 5) (a : BitVec 5) (b : BitVec 5) (f : BitVec 4) (r : BitVec 3) (s : State) : Host.Outcome State Fault Refusal :=
  ovnOne (ovnFmtIn isFvIwB8 f && r == 0) (ovnMinMax false d a b f) s
/-- OVN_VMAX (R406). -/
def execOvnVmax (d : BitVec 5) (a : BitVec 5) (b : BitVec 5) (f : BitVec 4) (r : BitVec 3) (s : State) : Host.Outcome State Fault Refusal :=
  ovnOne (ovnFmtIn isFvIwB8 f && r == 0) (ovnMinMax true d a b f) s
/-- OVN_VCMP (R406). -/
def execOvnVcmp (d : BitVec 5) (a : BitVec 5) (b : BitVec 5) (f : BitVec 4) (c : BitVec 3) (s : State) : Host.Outcome State Fault Refusal :=
  ovnOne (ovnFmtIn isFvIwB8 f && ovnCondOk f c) (ovnSlotVcmp d a b f c) s
/-- OVN_VSEL (R406). -/
def execOvnVsel (d : BitVec 5) (a : BitVec 5) (b : BitVec 5) (f : BitVec 4) (s : State) : Host.Outcome State Fault Refusal :=
  ovnOne (ovnFmtIn isFvIwB8 f) (ovnSlotVsel d a b f) s
/-- OVN_VCVT (R406). -/
def execOvnVcvt (d : BitVec 5) (a : BitVec 5) (c : BitVec 3) (f : BitVec 4) (r : BitVec 3) (s : State) : Host.Outcome State Fault Refusal :=
  ovnOne ((ovnFmt f).isSome && (rmOfBits r).isSome) (ovnSlotVcvt d a c f r) s
/-- OVN_VBC (R406). -/
def execOvnVbc (d : BitVec 5) (a : BitVec 5) (f : BitVec 4) (s : State) : Host.Outcome State Fault Refusal :=
  ovnOne (ovnFmtIn isFvIw f) (ovnSlotVbc d a f) s
/-- OVN_VRED (R406). -/
def execOvnVred (d : BitVec 5) (a : BitVec 5) (f : BitVec 4) (r : BitVec 3) (s : State) : Host.Outcome State Fault Refusal :=
  ovnOne (ovnFmtIn isFvIw f && ovnRmOk f r) (ovnSlotVred d a f r) s
/-- OVN_VDOT (R406). -/
def execOvnVdot (d : BitVec 5) (a : BitVec 5) (b : BitVec 5) (f : BitVec 4) (r : BitVec 3) (s : State) : Host.Outcome State Fault Refusal :=
  ovnOne (ovnFmtIn isFvIw f && ovnRmOk f r) (ovnSlotVdot d a b f r) s
/-- OVN_VLD (R406). -/
def execOvnVld (d : BitVec 5) (a : BitVec 5) (i : BitVec 14) (s : State) : Host.Outcome State Fault Refusal :=
  ovnOne true (ovnSlotVld d a i) s
/-- OVN_VST (R406). -/
def execOvnVst (d : BitVec 5) (a : BitVec 5) (i : BitVec 14) (s : State) : Host.Outcome State Fault Refusal :=
  ovnOne true (ovnSlotVst d a i) s
/-- OVN_VEXT (R406). -/
def execOvnVext (d : BitVec 5) (a : BitVec 5) (b : BitVec 5) (f : BitVec 4) (s : State) : Host.Outcome State Fault Refusal :=
  ovnOne (ovnFmtIn isFvIw f) (ovnSlotVext d a b f) s
/-- OVN_MZ (R406). -/
def execOvnMz (d : BitVec 5) (s : State) : Host.Outcome State Fault Refusal :=
  ovnOne (ovnAcc d) (ovnSlotMz d) s
/-- OVN_MMA (R406). -/
def execOvnMma (d : BitVec 5) (a : BitVec 5) (b : BitVec 5) (f : BitVec 4) (s : State) : Host.Outcome State Fault Refusal :=
  ovnOne (ovnAcc d && ovnFmtIn isPass f) (ovnSlotMma d a b f) s
/-- OVN_MST (R406). -/
def execOvnMst (d : BitVec 5) (a : BitVec 5) (b : BitVec 5) (f : BitVec 4) (r : BitVec 3) (s : State) : Host.Outcome State Fault Refusal :=
  ovnOne (ovnAcc a && ovnFmtIn isFvIwB8 f && (rmOfBits r).isSome) (ovnSlotMst d a b f r) s
/-- OVN_MRD (R406). -/
def execOvnMrd (d : BitVec 5) (a : BitVec 5) (b : BitVec 5) (s : State) : Host.Outcome State Fault Refusal :=
  ovnOne (ovnAcc a) (ovnSlotMrd d a b) s

/-- The next bundle of the Ovnath program, run from its 16 bytes (R403, R404). A bundle that the load would have refused ends the
program (R412). -/
def State.ovnStep (s : State) : State :=
  let c := s.ovn.core
  let pc := (s.core c).main.pc
  if pc.toNat % 16 ≠ 0 || !vaValid pc.toNat then s.takeTrap c (fetchFault pc ⟨pc, false⟩)
  else match s.textBytes c .fetch pc.toNat 16 with
    | .error e => s.takeTrap c (fetchFault pc e)
    | .ok bs =>
      let x := BitVec.ofNat 128 (ofBytes bs)
      let slots := (List.range 4).map (ovnSlotAt x)
      if slots.any fun r => r matches .error _ then { s with ovn := { s.ovn with running := false } }
      else ovnIssue s (slots.filterMap fun r => r.toOption.join)

end Sys2Proof.Machine
end

