-- ==== Sys2Proof/Machine/Cycle.lean ====
section
/-! DEFINITION. A core's turn in a cycle: what its pipeline does, what its engines and units do, and what ends a cycle (R4, R14, R66,
R67, R110, R219, R279, R305, R342, R375, R384, R436). Free values stand for the times that the spec leaves open. -/

namespace Sys2Proof.Machine

open Sys2Proof

/-! ### The bundle at issue -/

/-- The slot words of the latched bundle as they decode: those that fault, and the instructions of the others. -/
def decodeWords (ws : Map (BitVec 44)) : List BadWord × List Instr :=
  (ws.filterMap fun (e : Nat × BitVec 44) => match decodeSlot e.1 (splitSlot e.2) with
    | .error f => some { pos := e.1, err := f, dests := wordDests e.1 (splitSlot e.2) }
    | .ok _ => none,
   ws.filterMap fun (e : Nat × BitVec 44) => (decodeSlot e.1 (splitSlot e.2)).toOption)

/-- The one instruction of the latched bundle, if it has only one: NOP when no slot is present (R38). -/
def soleInstr (ws : Map (BitVec 44)) : Option Instr :=
  match decodeWords ws with
  | ([], []) => some .nop
  | ([], [i]) => some i
  | _ => none

/-- The latched bundle of the core whose turn it is, at issue (R436). -/
def State.issueLatched (s : State) : State :=
  let d := decodeWords (s.core s.turn).ir.words
  issue s d.1 (d.2.filterMap slotOf)

/-- What a pipeline's turn comes to: a state, or a bundle latched for issue. -/
inductive Turn where
  | done (s : State)
  | run (s : State)

/-- Scalar and predicate results are in flight: a tender that enters waits for them (R342). -/
def Core.entryWaits (k : Core) (clk : Nat) : Bool := k.windows.any fun w => w.opens clk && !(w.reg matches .c _)

/-- The pipeline of core `c` where nothing comes before its next bundle: the entry of the tender waits, the cycles of a taken transfer or
an open stop are spent (R305, R437), else the bundle is fetched. -/
def State.issueTurn (s : State) (c : Nat) : Turn :=
  let k := s.core c
  if k.entering then .done (if k.entryWaits s.clk then s else s.setCore c { k with entering := false })
  else if k.stall ≠ 0 then .done (s.setCore c { k with stall := k.stall - 1 })
  else if k.level = 0 && s.ovn.running && s.ovn.core = c then .done (if k.lateResult s.clk then s else s.ovnStep)
  else match s.fetch c k.pipe.pc with
    | .error t => .done (s.takeTrap c t)
    | .ok g => .run (s.latch c g)

/-- The pipeline's turn of core `c`: a core without a task is given one, a stopped one stands still, an event at the boundary comes
before the next bundle. -/
def State.pipeTurn (s : State) (c : Nat) : Turn :=
  let k := s.core c
  if k.frozen || k.cut then .done s
  else if k.level ≠ 0 then s.issueTurn c
  else match k.task with
    | none => .done (if s.graphs = [] && s.saved = [] then s else s.dispatch c)
    | some t =>
      if t.halted then .done (if s.cutOverdue c then s.takeCut c else s)
      else
        let s := s.preemptCheck c
        match s.boundary c with
        | some s' => .done s'
        | none => s.issueTurn c

/-! ### Engines and units -/

/-- One engine's move: the request that free value `i` picks, or the first thing that moves, or nothing this cycle (R437). -/
def State.engineTurn (s : State) (c : Nat) (e : Bool) (i : Nat) : State :=
  let n := ((s.core c).eng e).reqs.length
  let pick := s.freeVal i % (n + 2)
  if n = 0 || pick = n + 1 then s
  else match s.workReq c e pick with
    | some s' => s'
    | none => s.engineStep c e

/-- A replacement in L1 takes the line of the owned word that `i` picks, if any, and with it every ownership of core `c` in the line
(R125, R296). -/
def State.evict (s : State) (c i : Nat) : State :=
  let mine := s.owned.filter fun e => e.2.owner = c
  match mine[i % mine.length]? with
  | some e => s.endOwned fun w o => o = c && w / 32 = e.1 / 32
  | none => s

/-- A free choice of time: whether the thing of free value `i` happens now. -/
def State.now (s : State) (i : Nat) : Bool := s.freeVal i % 2 = 0

/-- The pipeline of the core whose turn it is has had its turn. -/
def State.pipeDone (s : State) : State := { s with units := true }

/-- What lands at core `c` as a cycle begins, before its pipeline's turn: the passes and the results whose bounds have expired (R19,
R66, R93, R201, R229). -/
def State.landTurn (s : State) (c : Nat) : State :=
  match Map.find s.cores c with
  | none => s
  | some k =>
    let s := if k.passes = [] then s else s.commitDue c
    if k.windows = [] && k.queueFlags s.clk = 0 then s else s.onCore c fun k => k.settle s.clk

/-- The units of core `c` move: engines, matrix unit, slice requests, a demand that runs, timer and counts. -/
def State.unitsTurn (s : State) (c : Nat) : State :=
  match Map.find s.cores c with
  | none => s
  | some _ =>
    let s := s.engineTurn c false 0
    let s := s.engineTurn c true 1
    let k := s.core c
    let s := if k.passes ≠ [] && s.now 2 then s.passCommit c 0 else s
    let s := if k.passes ≠ [] && s.now 3 then s.mpassdStart c else s
    let s := if k.mstores ≠ [] && s.now 4 then s.mstorecWritten c else s
    let s := if s.sliceWaits c && s.now 5 then s.sliceHold c 0 else s
    let s := if k.berth.demand.isSome && s.now 6 then s.completeDemand c else s
    let s := if s.now 7 then s.evict c (s.freeVal 7 / 2) else s
    (((s.timerCheck c).cycleTick c).saveDog c).drew 8

/-! ### The end of a cycle -/

/-- A granule that is ARMED and whose background copy has not been made (R112). -/
def State.armedGranule (s : State) : Option Nat :=
  (s.snap.arming.granules.find? fun g => g.2.1 = 0 && s.pageState g.1 = some 1).map (·.1)

/-- What a snapshot does on its own (R384, R390). -/
def State.snapTurn (s : State) : State :=
  let s := s.moduleCut
  let s := (diePaths.filter fun p => bitAt (s.freeVal 29) p).foldl State.pathMarker s
  let s := (List.range 8).foldl (fun s d => if s.mayArm d && s.now (16 + d) then s.armDie d else s) s
  let s := match s.armedGranule with
    | some g => if s.now 24 then s.copyArmed g true else s
    | none => s
  s.endManifest

/-- The scans that run (R375, R376): the pattern's cycles count once the target's engines owe no saved context anything. -/
def State.scanTurn (s : State) : State :=
  s.scans.foldl (fun s x =>
    if s.scanUnwanted x.target then s.scanCut x.target
    else if (s.core x.target).owes then
      { s with scans := s.scans.map fun (y : Scan) => if y.target = x.target then { y with started := s.clk } else y }
    else if x.started + 400000 ≤ s.clk then
      (s.scanEnd x.target (BitVec.ofNat 64 (s.freeVal 25)) (BitVec.ofNat 64 (s.freeVal 26))).drew 32
    else s) s

/-- Queues in deadlock (R338). -/
def State.deadlockTurn (s : State) : State :=
  if s.cores.any fun e => 16 ≤ e.2.enqFrames then (List.range 256).foldl (fun s n => s.queueTrap n) s else s

/-- The frame that is due begins (R14). -/
def State.beginFrame (s : State) : State := { s.frameBegins with frameDue := false }

/-- The cycle ends: the control die's own work, queues in deadlock, and at every 1,024th cycle a frame is due, which begins as the agenda's
first event before the next cycle's turns (R14). -/
def State.endCycle (s : State) : State :=
  let s := { s with clk := s.clk + 1 }
  let s := if s.ctlGet Ctl.XINVC ≠ 0 && s.now 27 then s.xinvDone else s
  let s := if s.ctlGet Ctl.TLINV ≠ 0 && s.now 28 then s.tlinvDone else s
  let s := if s.ioDue && s.now 30 then s.ioTurn else s
  let s := if s.snap.phase = 0 && s.snap.old.isNone then s else s.snapTurn
  let s := if s.scans = [] then s else s.scanTurn
  let s := s.deadlockTurn
  let s := if s.clk % 1024 = 0 then { s.bootTick with frameDue := true, agenda := .frameAdvance :: s.agenda } else s
  s.drew 32

/-- After the units of core `c` the next core's pipeline has its turn, once what falls due has landed; after the last core's the cycle
ends. -/
def State.turnOver (s : State) : State :=
  if s.turn < 319 then { s with turn := s.turn + 1, units := false }.landTurn (s.turn + 1)
  else { s.endCycle with turn := 0, units := false }.landTurn 0

end Sys2Proof.Machine
end

