-- ==== Sys2Proof/Machine/Events.lean ====
section
/-! DEFINITION. The meaning of each event of the opcode table: inputs from outside, and things that happen at a time the spec leaves
open. An event for which nothing stands ready changes nothing. -/

namespace Sys2Proof.Machine

open Sys2Proof

/-- The answer of every event: a next state. -/
abbrev Answer := Host.Outcome State Fault Refusal

/-! ### Resets, pins and boot (R428 to R432) -/

/-- POWER_ON_RESET (R432). -/
def execPowerOnReset (s : State) : Answer := .next s.powerOn
/-- WARM_RESET (R432). -/
def execWarmReset (s : State) : Answer := .next s.warm
/-- THERMAL_ALERT (R432): THERMALERT_N falls, and APLIC source 1 with it. -/
def execThermalAlert (s : State) : Answer := .next { s with control := { s.control with thermalAlert := true } }
/-- THERMAL_ALERT_END (R432). -/
def execThermalAlertEnd (s : State) : Answer := .next { s with control := { s.control with thermalAlert := false } }
/-- THERMAL_TRIP (R432): the clocks stop until PORST_N. -/
def execThermalTrip (s : State) : Answer := .next { s with control := { s.control with tripped := true } }
/-- BOARD_INTERRUPT (R432): BRDIRQ_N reaches APLIC source 2. -/
def execBoardInterrupt (s : State) : Answer := .next { s with control := { s.control with boardIrq := true } }
/-- OS_RESTART (R431). -/
def execOsRestart (v : Word64) (s : State) : Answer := .next (s.osRestart v)
/-- RECORD_REPROVISION (R430). -/
def execRecordReprovision (r : Nat) (s : State) : Answer := .next (s.reprovision r)

/-! ### Writes of control-die registers (R5, R104, R322 to R324, R337, R345, R346, R372, R424) -/

/-- REGISTER_WRITE (R5). -/
def execRegisterWrite (src : Writer) (off size : Nat) (v : Word64) (s : State) : Answer := .next (s.registerWrite src off size v)

/-- A write of LNCTL through a port with operation `op` (R322, R323). -/
def State.portOp (s : State) (port : Bool) (op : Nat) (v : Word64) : State :=
  s.registerWrite (.cp port) (Ctl.LNCTL (bit port)) 8 (BitVec.ofNat 64 (setField v.toNat 62 2 op))

/-- LAUNCH (R323). -/
def execLaunch (port : Bool) (v : Word64) (s : State) : Answer := .next (s.portOp port 1 v)
/-- RESUME (R323). -/
def execResume (port : Bool) (v : Word64) (s : State) : Answer := .next (s.portOp port 2 v)
/-- DISCARD (R323). -/
def execDiscard (port : Bool) (v : Word64) (s : State) : Answer := .next (s.portOp port 3 v)
/-- CSEM_ACQUIRE (R322). -/
def execCsemAcquire (port : Bool) (s : State) : Answer := .next (s.csemAcquire port)
/-- CSEM_RELEASE (R322). -/
def execCsemRelease (port : Bool) (s : State) : Answer := .next (s.csemRelease port)
/-- XINV_START (R110). -/
def execXinvStart (v : Word64) (s : State) : Answer := .next (s.xinv v)
/-- XINV_COMPLETE (R110). -/
def execXinvComplete (s : State) : Answer := .next s.xinvDone
/-- TLINV_START (R279). -/
def execTlinvStart (v : Word64) (s : State) : Answer := .next (s.tlinv v)
/-- TLINV_COMPLETE (R279). -/
def execTlinvComplete (s : State) : Answer := .next s.tlinvDone
/-- ESC_DISCARD (R345). -/
def execEscDiscard (core : Nat) (s : State) : Answer := .next (s.endEscalation core false)
/-- ESC_QUARANTINE (R345). -/
def execEscQuarantine (core : Nat) (s : State) : Answer := .next (s.endEscalation core true)
/-- PAGEIN_DONE (R424). -/
def execPageinDone (core : Nat) (v : Word64) (s : State) : Answer := .next (s.pageDone core v)
/-- SEMRAISE (R424). -/
def execSemraise (v : Word64) (s : State) : Answer := .next (s.semReply v)
/-- HWQ_CONFIGURE (R337). -/
def execHwqConfigure (port : Bool) (n : Nat) (v : Word64) (s : State) : Answer :=
  .next (if n < 64 then s.registerWrite (.cp port) (Ctl.HWQCFG n) 8 v else s)
/-- LCMAP_WRITE (R372). -/
def execLcmapWrite (port : Bool) (n : Nat) (v : Word64) (s : State) : Answer :=
  .next (if n < 320 then s.registerWrite (.cp port) (Ctl.LCMAP n) 8 v else s)
/-- ROLLBACK (R391). -/
def execRollback (v : Word64) (s : State) : Answer := .next (s.rollback v)

/-! ### Frames, timers and the dispatcher (R14, R313, R328 to R333) -/

/-- FRAME_ADVANCE (R14): the module frame advances where a frame boundary has come, and at no other cycle. -/
def execFrameAdvance (s : State) : Answer := .next (if s.frameDue then s.beginFrame else s)
/-- DEADLINE_OVERRUN (R330): at a module-frame boundary the holds of late timetabled tasks begin. -/
def execDeadlineOverrun (tenant : Nat) (s : State) : Answer :=
  .next (if s.clk % 1024 = 0 && s.hasFrame tenant then s.beginHolds tenant else s)
/-- TIMER_NOTICE_PENDING (R313). -/
def execTimerNoticePending (core : Nat) (s : State) : Answer := .next (s.timerCheck core)
/-- POOL_NODE_STEALABLE (R332): that a node may be stolen follows from the frames it has waited, and nothing else changes. -/
def execPoolNodeStealable (_node : Nat) (s : State) : Answer := .next s
/-- TASK_DISPATCH (R333). -/
def execTaskDispatch (core : Nat) (s : State) : Answer := .next (s.dispatch core)

/-! ### What comes between bundles (R143, R338 to R345, R350, R355, R356, R367) -/

/-- The first event of a running core's boundary enters the tender if `p` holds of it. -/
def State.trapIf (s : State) (c : Nat) (p : TrapInfo → Bool) : State :=
  let k := s.core c
  if !k.running || k.unwindDue s.clk then s
  else match k.dueTrap s.clk with
    | some (t, k') => if p t then (s.setCore c k').takeTrap c t else s
    | none => s

/-- WATCHDOG (R355). -/
def execWatchdog (core : Nat) (s : State) : Answer := .next (s.trapIf core fun t => t.code = .watchdog)
/-- WATCHDOG_DURING_SAVE (R356). -/
def execWatchdogDuringSave (core : Nat) (s : State) : Answer := .next (s.saveDog core)
/-- QUEUE_DEADLOCK (R338). -/
def execQueueDeadlock (tenant : Nat) (s : State) : Answer := .next (s.queueTrap tenant)
/-- PREEMPT_REQUEST (R350). -/
def execPreemptRequest (core : Nat) (s : State) : Answer :=
  .next (if (s.core core).task.isSome then s.onCore core Core.askPreempt else s)
/-- PREEMPT_FORCED (R350). -/
def execPreemptForced (core : Nat) (s : State) : Answer := .next (s.trapIf core fun t => t.code = .preempt && t.forced)
/-- TRAP_ENTRY (R342). -/
def execTrapEntry (core : Nat) (s : State) : Answer := .next (s.trapIf core fun _ => true)
/-- ESCALATION (R345): the event cannot enter the tender, since its vector is 0. -/
def execEscalation (core : Nat) (s : State) : Answer :=
  .next (if (s.core core).csrGet Csr.TVEC = 0 then s.trapIf core fun _ => true else s)
/-- CONTAINMENT_UNWIND (R367). -/
def execContainmentUnwind (core : Nat) (s : State) : Answer :=
  .next (if (s.core core).unwindDue s.clk then (s.setCore core ((s.core core).unwind s.clk (s.freeVal 0))).drew 1 else s)
/-- NOTICE_DELIVERY (R143). -/
def execNoticeDelivery (core : Nat) (s : State) : Answer :=
  let k := s.core core
  .next (if k.unwindDue s.clk || (k.dueTrap s.clk).isSome || !k.noticeFree || k.shadowBusy s.clk then s
    else match k.nextNotice with
      | some (h, cause, tag, detail, n) => s.setCore core (k.deliver h cause tag detail n)
      | none => s)

/-! ### Bundles and results (R66, R185, R316, R436) -/

/-- BUNDLE_ISSUE (R15, R436): in the pipeline's turn of core `core`, and at no other time, its next bundle is fetched and reaches issue,
and that was its turn. -/
def execBundleIssue (core : Nat) (s : State) : Answer :=
  .next (if s.turn = core && !s.units then match s.pipeTurn core with
    | .run t => t.issueLatched.pipeDone
    | .done _ => s
  else s)

/-- The entries in flight of all queues: queue, place, and whether every older entry of the queue has landed. -/
def Core.flying (k : Core) (clk : Nat) : List (QReg × Nat) :=
  (List.range 64).flatMap fun q =>
    let n : QReg := BitVec.ofNat 6 q
    ((List.range (k.q n).length).find? fun i => match (k.q n)[i]? with
      | some e => !e.landed && clk < e.due
      | none => false).toList.map fun i => (n, i)

/-- RESULT_LANDING (R66): the `k`-th result in flight lands before its bound, a register's or, after these, a queue entry's, in the order
of its pushes. A result whose data has not arrived does not land. -/
def execResultLanding (core k : Nat) (s : State) : Answer :=
  let x := s.core core
  .next (match x.windows[k]? with
    | some w => if w.late then s
      else s.setCore core ({ x with windows := x.windows.set k { w with landed := true } }.settle s.clk)
    | none => match (x.flying s.clk)[k - x.windows.length]? with
      | some (n, i) => match (x.q n)[i]? with
        | some e => s.setCore core ((x.setQ n ((x.q n).set i { e with landed := true })).settle s.clk)
        | none => s
      | none => s)

/-- NTREQ_RESULT (R316). -/
def execNtreqResult (core : Nat) (s : State) : Answer := .next (s.onCore core Core.ntLand)
/-- SETFMT_EFFECT (R185): the image that governs the next bundle is in FMTN. -/
def execSetfmtEffect (core : Nat) (s : State) : Answer := .next (s.onCore core fun k => k.fmtEffect 1)
/-- SPLIT_WRITE (R123). -/
def execSplitWrite (core : Nat) (v : Word64) (s : State) : Answer :=
  .next (if (s.core core).splitWaits then s else s.splitWrite core v)
/-- TCMP_WRITE (R313). -/
def execTcmpWrite (core : Nat) (v : Word64) (s : State) : Answer := .next (s.tcmpWrite core v)
/-- PAGEIN_REQUEST (R346). -/
def execPageinRequest (core : Nat) (v : Word64) (s : State) : Answer :=
  .next (if (s.core core).pagein then s else s.pageinRequest core v)

/-! ### Engines, load-blocks and the matrix unit (R140 to R151, R154, R223, R224, R227) -/

/-- ENGINE_UNIT_WRITTEN (R144): request `k` of an engine does its next unit. -/
def execEngineUnitWritten (core : Nat) (eng : Bool) (k : Nat) (s : State) : Answer :=
  .next (match ((s.core core).eng eng).reqs[k]? with
    | none => s
    | some r => match s.nextUnit core r with
      | .fail _ _ => s
      | _ => (s.workReq core eng k).getD s)

/-- ENGINE_UNIT_FAILURE (R149): the next unit of request `k` fails; a collective of several members may fail because the members'
requests do not match (R160). -/
def execEngineUnitFailure (core : Nat) (eng : Bool) (k : Nat) (s : State) : Answer :=
  .next (match ((s.core core).eng eng).reqs[k]? with
    | none => s
    | some r =>
      if !s.mayRun core eng k r || s.behind core eng k r then s
      else match s.nextUnit core r with
        | .fail kind va => (s.failUnit core eng k r kind va).drew 4096
        | _ => match r.op with
          | .coll .. =>
            if 1 < r.mods.length && !r.ended then (s.failUnit core eng k r 4 0).drew 4096 else s
          | _ => s)

/-- ENGINE_REQUEST_COMPLETE (R147). -/
def execEngineRequestComplete (core : Nat) (eng : Bool) (s : State) : Answer := .next ((s.completeReq core eng).getD s)
/-- ENGINE_RESUME (R151). -/
def execEngineResume (core : Nat) (s : State) : Answer := .next (s.resolveRecord core false)
/-- ENGINE_ABORT (R151). -/
def execEngineAbort (core : Nat) (s : State) : Answer := .next (s.resolveRecord core true)
/-- TILE_AVAILABLE (R154). -/
def execTileAvailable (core : Nat) (g : GReg) (s : State) : Answer := .next (s.tileReady core g.toNat)
/-- LOAD_BLOCK_COMPLETE (R140). -/
def execLoadBlockComplete (core tag : Nat) (s : State) : Answer := .next (s.blockComplete core tag)
/-- MPASSD_START (R223). -/
def execMpassdStart (core : Nat) (s : State) : Answer := .next (s.mpassdStart core)
/-- PASS_COMMIT (R224). -/
def execPassCommit (core k : Nat) (s : State) : Answer := .next (s.passCommit core k)
/-- MSTOREC_WRITES_PERFORMED (R227). -/
def execMstorecWritesPerformed (core : Nat) (s : State) : Answer := .next (s.mstorecWritten core)

/-! ### Slices, memory and demands (R131, R241, R258, R280, R302, R361, R420) -/

/-- SLICE_HOLD (R280). -/
def execSliceHold (core k : Nat) (s : State) : Answer := .next (s.sliceHold core k)
/-- SCRUB_VISIT (R131): a sector without an error is read and left; an error that the visit meets is an ARRAY_ERROR. -/
def execScrubVisit (_sector : Nat) (s : State) : Answer := .next s
/-- ARRAY_ERROR (R361). -/
def execArrayError (place : ArrayPlace) (fatal : Bool) (s : State) : Answer := .next (s.arrayErr place fatal)
/-- DEVICE_REQUEST (R420, R421). -/
def execDeviceRequest (r : BusAccess) (s : State) : Answer := .next (s.deviceRequest { r with dev := max 1 r.dev })
/-- GENERAL_CORE_ACCESS (R302). -/
def execGeneralCoreAccess (r : BusAccess) (s : State) : Answer := .next (s.busAccess { r with dev := 0 })
/-- DEMAND_COMPLETE (R241). -/
def execDemandComplete (core node : Nat) (s : State) : Answer :=
  .next (if (s.core core).berth.demand.any fun d => d.node = node then s.completeDemand core else s)
/-- BREAK_EVALUATED (R258): the plan's next break, with what was observed there. -/
def execBreakEvaluated (core density : Nat) (finite : Bool) (s : State) : Answer :=
  let k := s.core core
  .next (match k.berth.demand with
    | none => s
    | some d => match d.breaks with
      | [] => s
      | b :: bs =>
        if b.1 = density && b.2.1 = finite then
          s.setCore core ({ k with berth := { k.berth with demand := some { d with breaks := bs } } }.breakCase d b)
        else s)

/-! ### Quay Links and snapshots (R158, R384 to R391, R434) -/

/-- LINK_TRAINED (R434). -/
def execLinkTrained (link peer plink : Nat) (s : State) : Answer := .next (s.trainLink link peer plink)
/-- LINK_DOWN (R158). -/
def execLinkDown (link : Nat) (s : State) : Answer :=
  .next (if (Map.get ({} : Link) s.links link).up then (s.loseLink link).csemLinks else s)
/-- DATA_FLIT_RECEIVE (R158); a flit of a reserved KIND is dropped with a link error. -/
def execDataFlitReceive (link : Nat) (f : Flit) (s : State) : Answer :=
  .next (if f.kind = 0 then s.arriveFlit link f else if 4 ≤ f.kind then s.linkError link f else s)
/-- ABORT_FLIT_RECEIVE (R158). -/
def execAbortFlitReceive (link : Nat) (f : Flit) (s : State) : Answer := .next (if f.kind = 3 then s.arriveFlit link f else s)
/-- CREDIT_FLIT_RECEIVE (R158): credits bear on when a link sends, and on nothing else. -/
def execCreditFlitReceive (_link : Nat) (_f : Flit) (s : State) : Answer := .next s
/-- MARKER_RECEIVE (R385). -/
def execMarkerReceive (link : Nat) (f : Flit) (s : State) : Answer :=
  .next (if f.kind = 2 && f.offset < 2 ^ 63 then s.takeMarker link f else s)
/-- ROLLBACK_MARKER_RECEIVE (R391). -/
def execRollbackMarkerReceive (link : Nat) (f : Flit) (s : State) : Answer :=
  .next (if f.kind = 2 && 2 ^ 63 ≤ f.offset then s.takeRollbackMarker link f else s)
/-- CORE_CUT (R384): the boundary after a PP bundle or a YIELD. -/
def execCoreCut (core : Nat) (s : State) : Answer :=
  .next (if (s.core core).pend.cutNow && (s.core core).running then s.takeCut core else s)
/-- CUT_FORCED (R384): PBOUND has passed. -/
def execCutForced (core : Nat) (s : State) : Answer :=
  .next (if s.cutOverdue core && ((s.core core).running || (s.core core).haltedTask.isSome) then s.takeCut core else s)
/-- MODULE_CUT (R384). -/
def execModuleCut (s : State) : Answer := .next s.moduleCut
/-- SNAPSHOT_ARM (R384). -/
def execSnapshotArm (die : Nat) (s : State) : Answer := .next (s.armDie die)
/-- A write of an MSTOREC that has issued waits for the copy of an ARMED granule (R113, R227). -/
def State.writeWaits (s : State) (granule : Nat) : Bool :=
  s.cores.any fun e => e.2.mstores.any fun m => m.writes.any fun w =>
    w.1 < hbmSize && w.1 / 65536 ≤ granule && granule ≤ (w.1 + w.2.1.length - 1) / 65536

/-- GRANULE_COPY (R113): the copy that a write to an ARMED granule waits for is made, and the granule is COPIED. -/
def execGranuleCopy (granule : Nat) (s : State) : Answer :=
  .next (if s.writeWaits granule && s.pageState granule = some 1 then s.copyArmed granule false else s)
/-- BACKGROUND_COPY (R112). -/
def execBackgroundCopy (granule : Nat) (s : State) : Answer :=
  .next (if s.pageState granule = some 1 then s.copyArmed granule true else s)
/-- MANIFEST_END (R390). -/
def execManifestEnd (s : State) : Answer := .next s.endManifest

/-! ### Scans (R374 to R376) -/

/-- SCAN_COMPLETE (R375): the pattern of the scan on core `core` ends with a signature. -/
def execScanComplete (core : Nat) (sig expected : Word64) (s : State) : Answer :=
  .next (if s.scans.any fun x => x.target = core && x.started + 400000 ≤ s.clk then s.scanEnd core sig expected else s)
/-- SCAN_ABORT (R376). -/
def execScanAbort (core : Nat) (s : State) : Answer := .next (s.scanCut core)

end Sys2Proof.Machine
end

