-- ==== Sys2Proof/Machine/Dispatch.lean ====
section
/-! DEFINITION. What each instruction and event does: one arm per constructor, each one call of its meaning. -/

namespace Sys2Proof.Machine

open Sys2Proof

/-- The effect of instruction or event `i`. -/
def exec (i : Instr) (s : State) : Host.Outcome State Fault Refusal :=
  match i with
  | .nop => Sys2Proof.Machine.execNop s
  | .add g d a b => Sys2Proof.Machine.execAdd g d a b s
  | .sub g d a b => Sys2Proof.Machine.execSub g d a b s
  | .and g d a b => Sys2Proof.Machine.execAnd g d a b s
  | .or g d a b => Sys2Proof.Machine.execOr g d a b s
  | .xor g d a b => Sys2Proof.Machine.execXor g d a b s
  | .shl g d a b => Sys2Proof.Machine.execShl g d a b s
  | .shrl g d a b => Sys2Proof.Machine.execShrl g d a b s
  | .shra g d a b => Sys2Proof.Machine.execShra g d a b s
  | .min g d a b => Sys2Proof.Machine.execMin g d a b s
  | .max g d a b => Sys2Proof.Machine.execMax g d a b s
  | .minn g d a b => Sys2Proof.Machine.execMinn g d a b s
  | .maxn g d a b => Sys2Proof.Machine.execMaxn g d a b s
  | .mul g d a b => Sys2Proof.Machine.execMul g d a b s
  | .mulh g d a b => Sys2Proof.Machine.execMulh g d a b s
  | .mulhn g d a b => Sys2Proof.Machine.execMulhn g d a b s
  | .divs g d a b => Sys2Proof.Machine.execDivs g d a b s
  | .divn g d a b => Sys2Proof.Machine.execDivn g d a b s
  | .rems g d a b => Sys2Proof.Machine.execRems g d a b s
  | .remn g d a b => Sys2Proof.Machine.execRemn g d a b s
  | .clz g d a => Sys2Proof.Machine.execClz g d a s
  | .ctz g d a => Sys2Proof.Machine.execCtz g d a s
  | .popc g d a => Sys2Proof.Machine.execPopc g d a s
  | .sext g d a n => Sys2Proof.Machine.execSext g d a n s
  | .zext g d a n => Sys2Proof.Machine.execZext g d a n s
  | .addi g d a imm => Sys2Proof.Machine.execAddi g d a imm s
  | .andi g d a imm => Sys2Proof.Machine.execAndi g d a imm s
  | .ori g d a imm => Sys2Proof.Machine.execOri g d a imm s
  | .xori g d a imm => Sys2Proof.Machine.execXori g d a imm s
  | .shli g d a n => Sys2Proof.Machine.execShli g d a n s
  | .shrli g d a n => Sys2Proof.Machine.execShrli g d a n s
  | .shrai g d a n => Sys2Proof.Machine.execShrai g d a n s
  | .limm g d imm => Sys2Proof.Machine.execLimm g d imm s
  | .limmh g d k v => Sys2Proof.Machine.execLimmh g d k v s
  | .cmp g d a b nat cond => Sys2Proof.Machine.execCmp g d a b nat cond s
  | .pand g d a b => Sys2Proof.Machine.execPand g d a b s
  | .por g d a b => Sys2Proof.Machine.execPor g d a b s
  | .pxor g d a b => Sys2Proof.Machine.execPxor g d a b s
  | .pnot g d a => Sys2Proof.Machine.execPnot g d a s
  | .sel g d p a b => Sys2Proof.Machine.execSel g d p a b s
  | .ldb g d a imm => Sys2Proof.Machine.execLdb g d a imm s
  | .ldbn g d a imm => Sys2Proof.Machine.execLdbn g d a imm s
  | .ldh g d a imm => Sys2Proof.Machine.execLdh g d a imm s
  | .ldhn g d a imm => Sys2Proof.Machine.execLdhn g d a imm s
  | .ldw g d a imm => Sys2Proof.Machine.execLdw g d a imm s
  | .ldwn g d a imm => Sys2Proof.Machine.execLdwn g d a imm s
  | .ldd g d a imm => Sys2Proof.Machine.execLdd g d a imm s
  | .stb g d a imm => Sys2Proof.Machine.execStb g d a imm s
  | .sth g d a imm => Sys2Proof.Machine.execSth g d a imm s
  | .stw g d a imm => Sys2Proof.Machine.execStw g d a imm s
  | .std g d a imm => Sys2Proof.Machine.execStd g d a imm s
  | .fadd g f r d a b => Sys2Proof.Machine.execFadd g f r d a b s
  | .fsub g f r d a b => Sys2Proof.Machine.execFsub g f r d a b s
  | .fmul g f r d a b => Sys2Proof.Machine.execFmul g f r d a b s
  | .fma g f r d a b => Sys2Proof.Machine.execFma g f r d a b s
  | .fdiv g f r d a b => Sys2Proof.Machine.execFdiv g f r d a b s
  | .fsqrt g f r d a => Sys2Proof.Machine.execFsqrt g f r d a s
  | .fmin g f d a b => Sys2Proof.Machine.execFmin g f d a b s
  | .fmax g f d a b => Sys2Proof.Machine.execFmax g f d a b s
  | .fcmp g f cond d a b => Sys2Proof.Machine.execFcmp g f cond d a b s
  | .fcvt g f src r d a => Sys2Proof.Machine.execFcvt g f src r d a s
  | .aadd g f sc d a b => Sys2Proof.Machine.execAadd g f sc d a b s
  | .aand g f sc d a b => Sys2Proof.Machine.execAand g f sc d a b s
  | .aor g f sc d a b => Sys2Proof.Machine.execAor g f sc d a b s
  | .axor g f sc d a b => Sys2Proof.Machine.execAxor g f sc d a b s
  | .amin g f sc d a b => Sys2Proof.Machine.execAmin g f sc d a b s
  | .amax g f sc d a b => Sys2Proof.Machine.execAmax g f sc d a b s
  | .aswap g f sc d a b => Sys2Proof.Machine.execAswap g f sc d a b s
  | .acas g f sc d a b => Sys2Proof.Machine.execAcas g f sc d a b s
  | .aminn g f sc d a b => Sys2Proof.Machine.execAminn g f sc d a b s
  | .amaxn g f sc d a b => Sys2Proof.Machine.execAmaxn g f sc d a b s
  | .afadd g f sc d a b => Sys2Proof.Machine.execAfadd g f sc d a b s
  | .afmin g f sc d a b => Sys2Proof.Machine.execAfmin g f sc d a b s
  | .afmax g f sc d a b => Sys2Proof.Machine.execAfmax g f sc d a b s
  | .tcall g id sc d a b => Sys2Proof.Machine.execTcall g id sc d a b s
  | .csrr g d n => Sys2Proof.Machine.execCsrr g d n s
  | .csrw g n a => Sys2Proof.Machine.execCsrw g n a s
  | .csrs g n a => Sys2Proof.Machine.execCsrs g n a s
  | .csrc g n a => Sys2Proof.Machine.execCsrc g n a s
  | .semadd g w a => Sys2Proof.Machine.execSemadd g w a s
  | .vadd g f r d a b => Sys2Proof.Machine.execVadd g f r d a b s
  | .vsub g f r d a b => Sys2Proof.Machine.execVsub g f r d a b s
  | .vmul g f r d a b => Sys2Proof.Machine.execVmul g f r d a b s
  | .vfma g f r d a b => Sys2Proof.Machine.execVfma g f r d a b s
  | .vfms g f r d a b => Sys2Proof.Machine.execVfms g f r d a b s
  | .vnfma g f r d a b => Sys2Proof.Machine.execVnfma g f r d a b s
  | .vmin g f d a b => Sys2Proof.Machine.execVmin g f d a b s
  | .vmax g f d a b => Sys2Proof.Machine.execVmax g f d a b s
  | .vabs g f d a => Sys2Proof.Machine.execVabs g f d a s
  | .vneg g f d a => Sys2Proof.Machine.execVneg g f d a s
  | .vadif g f r d a b => Sys2Proof.Machine.execVadif g f r d a b s
  | .vcmp g f cond d a b => Sys2Proof.Machine.execVcmp g f cond d a b s
  | .vsel g f d a b => Sys2Proof.Machine.execVsel g f d a b s
  | .vand g d a b => Sys2Proof.Machine.execVand g d a b s
  | .vor g d a b => Sys2Proof.Machine.execVor g d a b s
  | .vxor g d a b => Sys2Proof.Machine.execVxor g d a b s
  | .vnot g d a => Sys2Proof.Machine.execVnot g d a s
  | .vshl g f d a b => Sys2Proof.Machine.execVshl g f d a b s
  | .vshrl g f d a b => Sys2Proof.Machine.execVshrl g f d a b s
  | .vshra g f d a b => Sys2Proof.Machine.execVshra g f d a b s
  | .vcvt g f src r sat d a => Sys2Proof.Machine.execVcvt g f src r sat d a s
  | .vsat g f t d a => Sys2Proof.Machine.execVsat g f t d a s
  | .vrcp g f r d a => Sys2Proof.Machine.execVrcp g f r d a s
  | .vrsq g f r d a => Sys2Proof.Machine.execVrsq g f r d a s
  | .vexp2 g f r d a => Sys2Proof.Machine.execVexp2 g f r d a s
  | .vlog2 g f r d a => Sys2Proof.Machine.execVlog2 g f r d a s
  | .vdot g f d a b => Sys2Proof.Machine.execVdot g f d a b s
  | .vredadd g f r d a => Sys2Proof.Machine.execVredadd g f r d a s
  | .vredmin g f d a => Sys2Proof.Machine.execVredmin g f d a s
  | .vredmax g f d a => Sys2Proof.Machine.execVredmax g f d a s
  | .vbcast g f d a => Sys2Proof.Machine.execVbcast g f d a s
  | .vextr g f d a b => Sys2Proof.Machine.execVextr g f d a b s
  | .viota g f d => Sys2Proof.Machine.execViota g f d s
  | .vmov g d a => Sys2Proof.Machine.execVmov g d a s
  | .vpop g a => Sys2Proof.Machine.execVpop g a s
  | .vany g f d a => Sys2Proof.Machine.execVany g f d a s
  | .vall g f d a => Sys2Proof.Machine.execVall g f d a s
  | .vcnt g f d a => Sys2Proof.Machine.execVcnt g f d a s
  | .vld g m d a off => Sys2Proof.Machine.execVld g m d a off s
  | .vlds g m d a b off => Sys2Proof.Machine.execVlds g m d a b off s
  | .vst g m d a off => Sys2Proof.Machine.execVst g m d a off s
  | .vsts g m d a b off => Sys2Proof.Machine.execVsts g m d a b off s
  | .mpass g f seq sat d a b => Sys2Proof.Machine.execMpass g f seq sat d a b s
  | .mpassd g f seq sat d a b => Sys2Proof.Machine.execMpassd g f seq sat d a b s
  | .mzero g d => Sys2Proof.Machine.execMzero g d s
  | .mloadc g d a => Sys2Proof.Machine.execMloadc g d a s
  | .mstorec g f r d a b => Sys2Proof.Machine.execMstorec g f r d a b s
  | .mread g d a b => Sys2Proof.Machine.execMread g d a b s
  | .mwrite g d a b => Sys2Proof.Machine.execMwrite g d a b s
  | .mcsq g d a b => Sys2Proof.Machine.execMcsq g d a b s
  | .lmul g r d a b => Sys2Proof.Machine.execLmul g r d a b s
  | .ladd g r d a b => Sys2Proof.Machine.execLadd g r d a b s
  | .lmap g r d a b => Sys2Proof.Machine.execLmap g r d a b s
  | .lfilt g r d a b => Sys2Proof.Machine.execLfilt g r d a b s
  | .lred g r d a b => Sys2Proof.Machine.execLred g r d a b s
  | .lgath g r d a b => Sys2Proof.Machine.execLgath g r d a b s
  | .lscat g r d a b => Sys2Proof.Machine.execLscat g r d a b s
  | .lcvt g f r d a => Sys2Proof.Machine.execLcvt g f r d a s
  | .lxpose g r d a b => Sys2Proof.Machine.execLxpose g r d a b s
  | .lslice g r d a b => Sys2Proof.Machine.execLslice g r d a b s
  | .lstore g r d a => Sys2Proof.Machine.execLstore g r d a s
  | .phint g a => Sys2Proof.Machine.execPhint g a s
  | .ppin g a => Sys2Proof.Machine.execPpin g a s
  | .punpin g a => Sys2Proof.Machine.execPunpin g a s
  | .pstatScan g a => Sys2Proof.Machine.execPstatScan g a s
  | .pstatSet g a b => Sys2Proof.Machine.execPstatSet g a b s
  | .pstatr g d a b => Sys2Proof.Machine.execPstatr g d a b s
  | .pquery g d a => Sys2Proof.Machine.execPquery g d a s
  | .pdrop g a => Sys2Proof.Machine.execPdrop g a s
  | .cpy g e sg m d a b => Sys2Proof.Machine.execCpy g e sg m d a b s
  | .cpyw g e sg m d a b => Sys2Proof.Machine.execCpyw g e sg m d a b s
  | .cpyt g e sg r d a b => Sys2Proof.Machine.execCpyt g e sg r d a b s
  | .ldblk g e sg ntc d a b => Sys2Proof.Machine.execLdblk g e sg ntc d a b s
  | .wbblk g e sg d => Sys2Proof.Machine.execWbblk g e sg d s
  | .evblk g e sg d => Sys2Proof.Machine.execEvblk g e sg d s
  | .rpush g e sg sp d a b => Sys2Proof.Machine.execRpush g e sg sp d a b s
  | .gath g e sg sp d a b => Sys2Proof.Machine.execGath g e sg sp d a b s
  | .scat g e sg sp d a b => Sys2Proof.Machine.execScat g e sg sp d a b s
  | .scata g e sg sc op sp d a b => Sys2Proof.Machine.execScata g e sg sc op sp d a b s
  | .red g e sg sc op sp d a b => Sys2Proof.Machine.execRed g e sg sc op sp d a b s
  | .collAg g e sg d a b => Sys2Proof.Machine.execCollAg g e sg d a b s
  | .collRs g e sg d a b => Sys2Proof.Machine.execCollRs g e sg d a b s
  | .collAr g e sg d a b => Sys2Proof.Machine.execCollAr g e sg d a b s
  | .collBc g e sg d a b => Sys2Proof.Machine.execCollBc g e sg d a b s
  | .collA2a g e sg d a b => Sys2Proof.Machine.execCollA2a g e sg d a b s
  | .send g e sg sp d a b => Sys2Proof.Machine.execSend g e sg sp d a b s
  | .recv g e sg sp d a b => Sys2Proof.Machine.execRecv g e sg sp d a b s
  | .slotq g e d a => Sys2Proof.Machine.execSlotq g e d a s
  | .pack g f n d a => Sys2Proof.Machine.execPack g f n d a s
  | .unpk g f n d a => Sys2Proof.Machine.execUnpk g f n d a s
  | .scal g f r d a b => Sys2Proof.Machine.execScal g f r d a b s
  | .scld g d a => Sys2Proof.Machine.execScld g d a s
  | .shuf g f d a b => Sys2Proof.Machine.execShuf g f d a b s
  | .xpose g f d a => Sys2Proof.Machine.execXpose g f d a s
  | .rotl g f d a b => Sys2Proof.Machine.execRotl g f d a b s
  | .bplx g f d a b => Sys2Proof.Machine.execBplx g f d a b s
  | .bplm g f d a b => Sys2Proof.Machine.execBplm g f d a b s
  | .xmv g d a => Sys2Proof.Machine.execXmv g d a s
  | .intl g f h d a b => Sys2Proof.Machine.execIntl g f h d a b s
  | .dintl g f h d a b => Sys2Proof.Machine.execDintl g f h d a b s
  | .setfmt g imm => Sys2Proof.Machine.execSetfmt g imm s
  | .lselLdd g d a b => Sys2Proof.Machine.execLselLdd g d a b s
  | .lselStd g d a b => Sys2Proof.Machine.execLselStd g d a b s
  | .lselLdg g d a b => Sys2Proof.Machine.execLselLdg g d a b s
  | .lselStg g d a b => Sys2Proof.Machine.execLselStg g d a b s
  | .ntreq g => Sys2Proof.Machine.execNtreq g s
  | .br g imm => Sys2Proof.Machine.execBr g imm s
  | .brp g a imm => Sys2Proof.Machine.execBrp g a imm s
  | .bri g a => Sys2Proof.Machine.execBri g a s
  | .call g d imm => Sys2Proof.Machine.execCall g d imm s
  | .ret g a => Sys2Proof.Machine.execRet g a s
  | .loop g a imm => Sys2Proof.Machine.execLoop g a imm s
  | .wait g w a => Sys2Proof.Machine.execWait g w a s
  | .waitCon g w a => Sys2Proof.Machine.execWaitCon g w a s
  | .nret g => Sys2Proof.Machine.execNret g s
  | .trap g k => Sys2Proof.Machine.execTrap g k s
  | .sysc g w a => Sys2Proof.Machine.execSysc g w a s
  | .halt g => Sys2Proof.Machine.execHalt g s
  | .yield g => Sys2Proof.Machine.execYield g s
  | .cropen g imm => Sys2Proof.Machine.execCropen g imm s
  | .crclose g => Sys2Proof.Machine.execCrclose g s
  | .fence g ca cb a d => Sys2Proof.Machine.execFence g ca cb a d s
  | .snap g => Sys2Proof.Machine.execSnap g s
  | .force g d a => Sys2Proof.Machine.execForce g d a s
  | .grow g imm => Sys2Proof.Machine.execGrow g imm s
  | .shrink g imm => Sys2Proof.Machine.execShrink g imm s
  | .taskend g => Sys2Proof.Machine.execTaskend g s
  | .spawn g sig w a => Sys2Proof.Machine.execSpawn g sig w a s
  | .enq g a b => Sys2Proof.Machine.execEnq g a b s
  | .deq g d a => Sys2Proof.Machine.execDeq g d a s
  | .scan g w a b => Sys2Proof.Machine.execScan g w a b s
  | .lcmapw g a b => Sys2Proof.Machine.execLcmapw g a b s
  | .eret g => Sys2Proof.Machine.execEret g s
  | .ctxsv g a => Sys2Proof.Machine.execCtxsv g a s
  | .ctxld g a => Sys2Proof.Machine.execCtxld g a s
  | .ovnAdd d a b => Sys2Proof.Machine.execOvnAdd d a b s
  | .ovnSub d a b => Sys2Proof.Machine.execOvnSub d a b s
  | .ovnMul d a b => Sys2Proof.Machine.execOvnMul d a b s
  | .ovnDiv d a b => Sys2Proof.Machine.execOvnDiv d a b s
  | .ovnAnd d a b => Sys2Proof.Machine.execOvnAnd d a b s
  | .ovnOr d a b => Sys2Proof.Machine.execOvnOr d a b s
  | .ovnXor d a b => Sys2Proof.Machine.execOvnXor d a b s
  | .ovnShl d a b => Sys2Proof.Machine.execOvnShl d a b s
  | .ovnShr d a b => Sys2Proof.Machine.execOvnShr d a b s
  | .ovnShra d a b => Sys2Proof.Machine.execOvnShra d a b s
  | .ovnAddi d a imm => Sys2Proof.Machine.execOvnAddi d a imm s
  | .ovnLi d imm => Sys2Proof.Machine.execOvnLi d imm s
  | .ovnLis d imm => Sys2Proof.Machine.execOvnLis d imm s
  | .ovnCmp d a b n c => Sys2Proof.Machine.execOvnCmp d a b n c s
  | .ovnLd d a imm => Sys2Proof.Machine.execOvnLd d a imm s
  | .ovnSt d a imm => Sys2Proof.Machine.execOvnSt d a imm s
  | .ovnJ imm => Sys2Proof.Machine.execOvnJ imm s
  | .ovnJk k imm => Sys2Proof.Machine.execOvnJk k imm s
  | .ovnCall d imm => Sys2Proof.Machine.execOvnCall d imm s
  | .ovnRet a => Sys2Proof.Machine.execOvnRet a s
  | .ovnEnd => Sys2Proof.Machine.execOvnEnd s
  | .ovnTrap imm => Sys2Proof.Machine.execOvnTrap imm s
  | .ovnSys d a => Sys2Proof.Machine.execOvnSys d a s
  | .ovnVadd d a b f r => Sys2Proof.Machine.execOvnVadd d a b f r s
  | .ovnVsub d a b f r => Sys2Proof.Machine.execOvnVsub d a b f r s
  | .ovnVmul d a b f r => Sys2Proof.Machine.execOvnVmul d a b f r s
  | .ovnVfma d a b f r => Sys2Proof.Machine.execOvnVfma d a b f r s
  | .ovnVmin d a b f r => Sys2Proof.Machine.execOvnVmin d a b f r s
  | .ovnVmax d a b f r => Sys2Proof.Machine.execOvnVmax d a b f r s
  | .ovnVcmp d a b f c => Sys2Proof.Machine.execOvnVcmp d a b f c s
  | .ovnVsel d a b f => Sys2Proof.Machine.execOvnVsel d a b f s
  | .ovnVcvt d a c f r => Sys2Proof.Machine.execOvnVcvt d a c f r s
  | .ovnVbc d a f => Sys2Proof.Machine.execOvnVbc d a f s
  | .ovnVred d a f r => Sys2Proof.Machine.execOvnVred d a f r s
  | .ovnVdot d a b f r => Sys2Proof.Machine.execOvnVdot d a b f r s
  | .ovnVld d a imm => Sys2Proof.Machine.execOvnVld d a imm s
  | .ovnVst d a imm => Sys2Proof.Machine.execOvnVst d a imm s
  | .ovnVext d a b f => Sys2Proof.Machine.execOvnVext d a b f s
  | .ovnMz d => Sys2Proof.Machine.execOvnMz d s
  | .ovnMma d a b f => Sys2Proof.Machine.execOvnMma d a b f s
  | .ovnMst d a b f r => Sys2Proof.Machine.execOvnMst d a b f r s
  | .ovnMrd d a b => Sys2Proof.Machine.execOvnMrd d a b s
  | .tellerLdw d a imm => Sys2Proof.Machine.execTellerLdw d a imm s
  | .tellerLdd d a imm => Sys2Proof.Machine.execTellerLdd d a imm s
  | .tellerStw a b imm => Sys2Proof.Machine.execTellerStw a b imm s
  | .tellerStd a b imm => Sys2Proof.Machine.execTellerStd a b imm s
  | .tellerAdd d a b => Sys2Proof.Machine.execTellerAdd d a b s
  | .tellerAddImm d a imm => Sys2Proof.Machine.execTellerAddImm d a imm s
  | .tellerSub d a b => Sys2Proof.Machine.execTellerSub d a b s
  | .tellerSubImm d a imm => Sys2Proof.Machine.execTellerSubImm d a imm s
  | .tellerAnd d a b => Sys2Proof.Machine.execTellerAnd d a b s
  | .tellerAndImm d a imm => Sys2Proof.Machine.execTellerAndImm d a imm s
  | .tellerOr d a b => Sys2Proof.Machine.execTellerOr d a b s
  | .tellerOrImm d a imm => Sys2Proof.Machine.execTellerOrImm d a imm s
  | .tellerXor d a b => Sys2Proof.Machine.execTellerXor d a b s
  | .tellerXorImm d a imm => Sys2Proof.Machine.execTellerXorImm d a imm s
  | .tellerShl d a b => Sys2Proof.Machine.execTellerShl d a b s
  | .tellerShlImm d a imm => Sys2Proof.Machine.execTellerShlImm d a imm s
  | .tellerShrl d a b => Sys2Proof.Machine.execTellerShrl d a b s
  | .tellerShrlImm d a imm => Sys2Proof.Machine.execTellerShrlImm d a imm s
  | .tellerShra d a b => Sys2Proof.Machine.execTellerShra d a b s
  | .tellerShraImm d a imm => Sys2Proof.Machine.execTellerShraImm d a imm s
  | .tellerMin d a b => Sys2Proof.Machine.execTellerMin d a b s
  | .tellerMinImm d a imm => Sys2Proof.Machine.execTellerMinImm d a imm s
  | .tellerMax d a b => Sys2Proof.Machine.execTellerMax d a b s
  | .tellerMaxImm d a imm => Sys2Proof.Machine.execTellerMaxImm d a imm s
  | .tellerMinn d a b => Sys2Proof.Machine.execTellerMinn d a b s
  | .tellerMinnImm d a imm => Sys2Proof.Machine.execTellerMinnImm d a imm s
  | .tellerMaxn d a b => Sys2Proof.Machine.execTellerMaxn d a b s
  | .tellerMaxnImm d a imm => Sys2Proof.Machine.execTellerMaxnImm d a imm s
  | .tellerFadd d a b f => Sys2Proof.Machine.execTellerFadd d a b f s
  | .tellerFmin d a b f => Sys2Proof.Machine.execTellerFmin d a b f s
  | .tellerFmax d a b f => Sys2Proof.Machine.execTellerFmax d a b f s
  | .tellerCmp d a b c => Sys2Proof.Machine.execTellerCmp d a b c s
  | .tellerCmpImm d a c imm => Sys2Proof.Machine.execTellerCmpImm d a c imm s
  | .tellerSel d a b c => Sys2Proof.Machine.execTellerSel d a b c s
  | .tellerSat d a f => Sys2Proof.Machine.execTellerSat d a f s
  | .tellerMrg d a b => Sys2Proof.Machine.execTellerMrg d a b s
  | .tellerLimm d imm => Sys2Proof.Machine.execTellerLimm d imm s
  | .powerOnReset => Sys2Proof.Machine.execPowerOnReset s
  | .warmReset => Sys2Proof.Machine.execWarmReset s
  | .thermalAlert => Sys2Proof.Machine.execThermalAlert s
  | .thermalTrip => Sys2Proof.Machine.execThermalTrip s
  | .boardInterrupt => Sys2Proof.Machine.execBoardInterrupt s
  | .osRestart v => Sys2Proof.Machine.execOsRestart v s
  | .registerWrite src off size v => Sys2Proof.Machine.execRegisterWrite src off size v s
  | .frameAdvance => Sys2Proof.Machine.execFrameAdvance s
  | .deadlineOverrun tenant => Sys2Proof.Machine.execDeadlineOverrun tenant s
  | .timerNoticePending core => Sys2Proof.Machine.execTimerNoticePending core s
  | .poolNodeStealable node => Sys2Proof.Machine.execPoolNodeStealable node s
  | .watchdog core => Sys2Proof.Machine.execWatchdog core s
  | .watchdogDuringSave core => Sys2Proof.Machine.execWatchdogDuringSave core s
  | .queueDeadlock tenant => Sys2Proof.Machine.execQueueDeadlock tenant s
  | .preemptRequest core => Sys2Proof.Machine.execPreemptRequest core s
  | .preemptForced core => Sys2Proof.Machine.execPreemptForced core s
  | .noticeDelivery core => Sys2Proof.Machine.execNoticeDelivery core s
  | .trapEntry core => Sys2Proof.Machine.execTrapEntry core s
  | .escalation core => Sys2Proof.Machine.execEscalation core s
  | .containmentUnwind core => Sys2Proof.Machine.execContainmentUnwind core s
  | .bundleIssue core => Sys2Proof.Machine.execBundleIssue core s
  | .resultLanding core k => Sys2Proof.Machine.execResultLanding core k s
  | .ntreqResult core => Sys2Proof.Machine.execNtreqResult core s
  | .setfmtEffect core => Sys2Proof.Machine.execSetfmtEffect core s
  | .engineUnitFailure core eng k => Sys2Proof.Machine.execEngineUnitFailure core eng k s
  | .engineRequestComplete core eng => Sys2Proof.Machine.execEngineRequestComplete core eng s
  | .tileAvailable core g => Sys2Proof.Machine.execTileAvailable core g s
  | .loadBlockComplete core tag => Sys2Proof.Machine.execLoadBlockComplete core tag s
  | .mpassdStart core => Sys2Proof.Machine.execMpassdStart core s
  | .passCommit core k => Sys2Proof.Machine.execPassCommit core k s
  | .sliceHold core k => Sys2Proof.Machine.execSliceHold core k s
  | .scrubVisit sector => Sys2Proof.Machine.execScrubVisit sector s
  | .xinvStart v => Sys2Proof.Machine.execXinvStart v s
  | .xinvComplete => Sys2Proof.Machine.execXinvComplete s
  | .tlinvStart v => Sys2Proof.Machine.execTlinvStart v s
  | .tlinvComplete => Sys2Proof.Machine.execTlinvComplete s
  | .csemAcquire port => Sys2Proof.Machine.execCsemAcquire port s
  | .csemRelease port => Sys2Proof.Machine.execCsemRelease port s
  | .launch port v => Sys2Proof.Machine.execLaunch port v s
  | .resume port v => Sys2Proof.Machine.execResume port v s
  | .discard port v => Sys2Proof.Machine.execDiscard port v s
  | .taskDispatch core => Sys2Proof.Machine.execTaskDispatch core s
  | .escDiscard core => Sys2Proof.Machine.execEscDiscard core s
  | .escQuarantine core => Sys2Proof.Machine.execEscQuarantine core s
  | .pageinRequest core v => Sys2Proof.Machine.execPageinRequest core v s
  | .pageinDone core v => Sys2Proof.Machine.execPageinDone core v s
  | .semraise v => Sys2Proof.Machine.execSemraise v s
  | .hwqConfigure port n v => Sys2Proof.Machine.execHwqConfigure port n v s
  | .lcmapWrite port n v => Sys2Proof.Machine.execLcmapWrite port n v s
  | .engineResume core => Sys2Proof.Machine.execEngineResume core s
  | .engineAbort core => Sys2Proof.Machine.execEngineAbort core s
  | .splitWrite core v => Sys2Proof.Machine.execSplitWrite core v s
  | .tcmpWrite core v => Sys2Proof.Machine.execTcmpWrite core v s
  | .rollback v => Sys2Proof.Machine.execRollback v s
  | .rollbackMarkerReceive link f => Sys2Proof.Machine.execRollbackMarkerReceive link f s
  | .linkTrained link peer plink => Sys2Proof.Machine.execLinkTrained link peer plink s
  | .linkDown link => Sys2Proof.Machine.execLinkDown link s
  | .dataFlitReceive link f => Sys2Proof.Machine.execDataFlitReceive link f s
  | .creditFlitReceive link f => Sys2Proof.Machine.execCreditFlitReceive link f s
  | .abortFlitReceive link f => Sys2Proof.Machine.execAbortFlitReceive link f s
  | .markerReceive link f => Sys2Proof.Machine.execMarkerReceive link f s
  | .coreCut core => Sys2Proof.Machine.execCoreCut core s
  | .cutForced core => Sys2Proof.Machine.execCutForced core s
  | .moduleCut => Sys2Proof.Machine.execModuleCut s
  | .snapshotArm die => Sys2Proof.Machine.execSnapshotArm die s
  | .granuleCopy granule => Sys2Proof.Machine.execGranuleCopy granule s
  | .backgroundCopy granule => Sys2Proof.Machine.execBackgroundCopy granule s
  | .manifestEnd => Sys2Proof.Machine.execManifestEnd s
  | .scanComplete core sig expected => Sys2Proof.Machine.execScanComplete core sig expected s
  | .scanAbort core => Sys2Proof.Machine.execScanAbort core s
  | .deviceRequest r => Sys2Proof.Machine.execDeviceRequest r s
  | .demandComplete core node => Sys2Proof.Machine.execDemandComplete core node s
  | .breakEvaluated core density finite => Sys2Proof.Machine.execBreakEvaluated core density finite s
  | .arrayError place fatal => Sys2Proof.Machine.execArrayError place fatal s
  | .generalCoreAccess r => Sys2Proof.Machine.execGeneralCoreAccess r s
  | .engineUnitWritten core eng k => Sys2Proof.Machine.execEngineUnitWritten core eng k s
  | .mstorecWritesPerformed core => Sys2Proof.Machine.execMstorecWritesPerformed core s
  | .thermalAlertEnd => Sys2Proof.Machine.execThermalAlertEnd s
  | .recordReprovision r => Sys2Proof.Machine.execRecordReprovision r s

end Sys2Proof.Machine
end

