-- ==== Sys2Proof/Machine/Program.lean ====
section
/-! DEFINITION. How a program stands ready to run (log 41): the tables, the kernel entry and the task that a loader and a launch leave,
with one instruction as the whole text. -/

namespace Sys2Proof.Machine

open Sys2Proof

/-- Where a bare 32-bit word stands: the slot of an Ovnath bundle, 0 to 3, or 4 for a routine's word (log 5); none for a word that is
neither. The rows are those of `bareWord`. -/
def bareSlot (w : BitVec 32) : Option Nat :=
  if w &&& 0xffffffff#32 = 0x05000000#32 then some 3
  else if w &&& 0xfff83fff#32 = 0x04000000#32 then some 3
  else if w &&& 0xff07ffff#32 = 0x01000000#32 then some 2
  else if w &&& 0xffffff00#32 = 0x06000000#32 then some 3
  else if w &&& 0xfc01ffff#32 = 0x20000000#32 then some 4
  else if w &&& 0xfc01ffff#32 = 0x24000000#32 then some 4
  else if w &&& 0xfc01ffff#32 = 0x28000000#32 then some 4
  else if w &&& 0xfc01ffff#32 = 0x2c000000#32 then some 4
  else if w &&& 0xfc01ffff#32 = 0x30000000#32 then some 4
  else if w &&& 0xfc01ffff#32 = 0x34000000#32 then some 4
  else if w &&& 0xfc01ffff#32 = 0x38000000#32 then some 4
  else if w &&& 0xfc01ffff#32 = 0x3c000000#32 then some 4
  else if w &&& 0xfc01ffff#32 = 0x40000000#32 then some 4
  else if w &&& 0xfc01ffff#32 = 0x44000000#32 then some 4
  else if w &&& 0xfc01ffff#32 = 0x48000000#32 then some 4
  else if w &&& 0xfc01ffff#32 = 0x4c000000#32 then some 4
  else if w &&& 0xfc0f1fff#32 = 0x88000000#32 then some 4
  else if w &&& 0xfc01ffff#32 = 0x8c000000#32 then some 4
  else if w &&& 0xff003fff#32 = 0x07000000#32 then some 3
  else if w &&& 0xfc011fff#32 = 0x60000000#32 then some 4
  else if w &&& 0xfc011fff#32 = 0x64000000#32 then some 4
  else if w &&& 0xfc011fff#32 = 0x68000000#32 then some 4
  else if w &&& 0xfc011fff#32 = 0x80000000#32 then some 4
  else if w &&& 0xfc01fff8#32 = 0x84000000#32 then some 4
  else if w &&& 0xff003e1f#32 = 0x0a000000#32 then some 1
  else if w &&& 0xff0001ff#32 = 0x01000000#32 then some 0
  else if w &&& 0xff0001ff#32 = 0x02000000#32 then some 0
  else if w &&& 0xff0001ff#32 = 0x03000000#32 then some 0
  else if w &&& 0xff0001ff#32 = 0x04000000#32 then some 0
  else if w &&& 0xff0001ff#32 = 0x05000000#32 then some 0
  else if w &&& 0xff0001ff#32 = 0x06000000#32 then some 0
  else if w &&& 0xff0001ff#32 = 0x07000000#32 then some 0
  else if w &&& 0xff0001ff#32 = 0x08000000#32 then some 0
  else if w &&& 0xff0001ff#32 = 0x09000000#32 then some 0
  else if w &&& 0xff0001ff#32 = 0x0a000000#32 then some 0
  else if w &&& 0xff0001ff#32 = 0x04000000#32 then some 2
  else if w &&& 0xfc7fe000#32 = 0x90000000#32 then some 4
  else if w &&& 0xff003e18#32 = 0x0b000000#32 then some 1
  else if w &&& 0xff80001f#32 = 0x0e000000#32 then some 0
  else if w &&& 0xff87c000#32 = 0x02000000#32 then some 3
  else if w &&& 0xff07c000#32 = 0x0c000000#32 then some 0
  else if w &&& 0xff07c000#32 = 0x0d000000#32 then some 0
  else if w &&& 0xfff80000#32 = 0x01000000#32 then some 3
  else if w &&& 0xff00001f#32 = 0x08000000#32 then some 1
  else if w &&& 0xff00001f#32 = 0x0f000000#32 then some 1
  else if w &&& 0xff00001f#32 = 0x02000000#32 then some 2
  else if w &&& 0xfc0fe000#32 = 0x04000000#32 then some 4
  else if w &&& 0xfc0fe000#32 = 0x08000000#32 then some 4
  else if w &&& 0xff81e000#32 = 0x0c000000#32 then some 4
  else if w &&& 0xff81e000#32 = 0x10000000#32 then some 4
  else if w &&& 0xfc0fe000#32 = 0x20010000#32 then some 4
  else if w &&& 0xfc0fe000#32 = 0x24010000#32 then some 4
  else if w &&& 0xfc0fe000#32 = 0x28010000#32 then some 4
  else if w &&& 0xfc0fe000#32 = 0x2c010000#32 then some 4
  else if w &&& 0xfc0fe000#32 = 0x30010000#32 then some 4
  else if w &&& 0xfc0fe000#32 = 0x34010000#32 then some 4
  else if w &&& 0xfc0fe000#32 = 0x38010000#32 then some 4
  else if w &&& 0xfc0fe000#32 = 0x3c010000#32 then some 4
  else if w &&& 0xfc0fe000#32 = 0x40010000#32 then some 4
  else if w &&& 0xfc0fe000#32 = 0x44010000#32 then some 4
  else if w &&& 0xfc0fe000#32 = 0x48010000#32 then some 4
  else if w &&& 0xfc0fe000#32 = 0x4c010000#32 then some 4
  else if w &&& 0xff003018#32 = 0x09000000#32 then some 1
  else if w &&& 0xff000018#32 = 0x01000000#32 then some 1
  else if w &&& 0xff000018#32 = 0x02000000#32 then some 1
  else if w &&& 0xff000018#32 = 0x03000000#32 then some 1
  else if w &&& 0xff000018#32 = 0x04000000#32 then some 1
  else if w &&& 0xff000018#32 = 0x05000000#32 then some 1
  else if w &&& 0xff000018#32 = 0x06000000#32 then some 1
  else if w &&& 0xff000018#32 = 0x07000000#32 then some 1
  else if w &&& 0xff000018#32 = 0x0c000000#32 then some 1
  else if w &&& 0xff000018#32 = 0x03000000#32 then some 2
  else if w &&& 0xfc0f0000#32 = 0x80010000#32 then some 4
  else if w &&& 0xff000000#32 = 0x0b000000#32 then some 0
  else if w &&& 0xff000000#32 = 0x0f000000#32 then some 0
  else if w &&& 0xff000000#32 = 0x10000000#32 then some 0
  else if w &&& 0xff000000#32 = 0x03000000#32 then some 3
  else if w &&& 0xff000000#32 = 0x0d000000#32 then some 1
  else if w &&& 0xff000000#32 = 0x0e000000#32 then some 1
  else none

/-- Address of the program's text. -/
def textBase : Nat := 0x10000
/-- Address of the program's dictionary. -/
def dictBase : Nat := 0x20000

/-- A table pointer of R107. -/
def tablePte (a : Nat) : Nat := a / 4096 * 2 ^ 10 + 1
/-- The leaf that maps the first GiB onto itself, one of the entries of a 16 GiB page, V R W X U A D (R107). -/
def textPte : Nat := 2 ^ 63 + 0x200000 * 2 ^ 10 + 0xDF

/-- The page tables of a program that uses the first GiB, and its kernel entry (R106, R107, R399). -/
def State.programTables (s : State) : State :=
  let s := ((s.setNat 0x1000 8 (tablePte 0x2000)).setNat 0x2000 8 (tablePte 0x3000)).setNat 0x3000 8 textPte
  let s := (((s.setNat 0x4000 8 (textBase + 1)).setNat 0x4008 8 dictBase).setNat 0x4010 8 dictBase).setNat 0x4018 8 1
  (s.setNat 0x4020 8 0).ctlPut Ctl.KTBASE (BitVec.ofNat 64 (2 ^ 52 + 0x4000))

/-- Core 0 runs a task whose next bundle is at code pointer `pc`, with nothing pending, and its pipeline has the turn. -/
def State.programReady (s : State) (pc : Nat) : State :=
  let s := s.onCore 0 fun k =>
    { k.csrPut Csr.VMROOT 1 with
        main := { pc := BitVec.ofNat 64 pc }, task := some { tenant := 0, graph := 0, node := 0, prio := 0 }, level := 0, entering := false,
        frozen := false, cut := false, stall := 0, pend := {}, notice := {}, windows := [], tlb := [], e0 := {}, e1 := {}, idleFrames := 0,
        skip := 0, oldCode := [] }
  { s with turn := 0, units := false, agenda := [], teller := none, graphs := [], snap := {}, ovn := { s.ovn with running := false },
           control := { s.control with tripped := false } }

/-- A native bundle as the program: a dictionary entry of 384 bits under index word 0, or a literal bundle (R46, R51). -/
def State.placeNative (s : State) (nbits w : Nat) : State :=
  let s := s.programTables
  if nbits = 384 then ((s.setNat dictBase 48 w).setNat textBase 2 0).programReady textBase
  else (s.setNat textBase 48 (w % 2 ^ nbits)).programReady (textBase + 1)

/-- An Ovnath bundle as the program (R403). -/
def State.placeOvnath (s : State) (x : Nat) : State :=
  let s := ((s.programTables).setNat textBase 16 x).programReady textBase
  { s with ovn := { core := 0, text := [BitVec.ofNat 128 x], textVa := textBase, running := true } }

/-- A routine's word as the next of a call under its hold (R280). -/
def State.placeTeller (s : State) (w : BitVec 32) : State :=
  let s := s.programReady 0
  { s with teller := some { core := 0, dst := 0, tenant := 0, id := 0, line := 0x30000, va := 0x30000, pc := 0, code := [w] } }

/-- An instruction of `nbits` bits, numbered from its first word, placed as the next that a step runs. -/
def State.placeWord (s : State) (nbits w : Nat) : State :=
  if nbits = 32 then
    match bareSlot (BitVec.ofNat 32 w) with
    | some 4 => s.placeTeller (BitVec.ofNat 32 w)
    | some i => s.placeOvnath (w % 2 ^ 32 * 2 ^ (32 * i))
    | none => s.placeNative 32 w
  else if nbits = 128 then s.placeOvnath (w % 2 ^ 128)
  else s.placeNative nbits w

end Sys2Proof.Machine
end

