-- ==== Sys2Proof/Machine/Step.lean ====
section
/-! DEFINITION. One step of the module: the next event of the agenda, an instruction of the routine that holds a line, or the turn of a
core's pipeline or of its units. -/

namespace Sys2Proof.Machine

open Sys2Proof

/-- An answer with its next state changed. -/
def onNext (f : State → State) : Host.Outcome State Fault Refusal → Host.Outcome State Fault Refusal
  | .next s => .next (f s)
  | .fault r => .fault r
  | .refused r => .refused r

/-- The latched bundle runs: by the meaning of its instruction where it has one alone, else all its slots together (R436). -/
def runLatched (s : State) : Host.Outcome State Fault Refusal :=
  match soleInstr (s.core s.turn).ir.words with
  | some i => exec i s
  | none => .next s.issueLatched

/-- The pipeline's turn of the core whose turn it is. -/
def stepPipe (s : State) : Host.Outcome State Fault Refusal :=
  match s.pipeTurn s.turn with
  | .done t => .next t.pipeDone
  | .run t => onNext State.pipeDone (runLatched t)

/-- What happens while the clocks are stopped (R432): of the agenda only a power-on reset. -/
def stepTripped (s : State) : Host.Outcome State Fault Refusal :=
  match s.agenda with
  | [] => .fault .clocksStopped
  | .powerOnReset :: rest => exec .powerOnReset { s with agenda := rest }
  | _ :: rest => .next { s with agenda := rest }

/-- One step. -/
def step (s : State) : Host.Outcome State Fault Refusal :=
  if s.control.tripped then stepTripped s
  else match s.teller with
    | some t => s.tellerStep t
    | none => match s.agenda with
      | i :: rest => exec i { s with agenda := rest }
      | [] => if s.units then .next (s.unitsTurn s.turn).turnOver else stepPipe s

/-- The state with an instruction placed where the next step runs it (log 41). -/
def State.withFetchWord (s : State) (nbits w : Nat) : State := s.placeWord nbits w

end Sys2Proof.Machine
end

