-- ==== Sys2Proof/Safety.lean ====
section
/-! DEFINITION. The terms that claims are stated in: when a bundle of one slot issues with nothing in its way, and what an
instruction leaves as it was. -/

namespace Sys2Proof.Machine

open Sys2Proof

/-! ### A state in which nothing delays or changes the issue of a bundle -/

/-- Nothing of the core whose turn it is bears on an issue but its registers: no result, flag, format image or tile index is in
flight, no node stands in its berth table and no demand is to be reported, no scalar is poisoned, no bundle is being resumed, no break is pending, no
atomic or call is under way, and checking mode is off (R66, R174, R185, R244, R290, R316, R347, R362). -/
structure Quiet (s : State) : Prop where
  unchecked : (s.core s.turn).checking = false
  whole : (s.core s.turn).skip = 0
  landed : (s.core s.turn).windows = []
  formats : (s.core s.turn).fmtPend = []
  tiles : (s.core s.turn).nt = []
  nodes : (s.core s.turn).berth.nodes = []
  owed : (s.core s.turn).berth.owed = []
  clean : (s.core s.turn).regs.sPoison = 0
  flagless : ∀ (n : QReg), ∀ e ∈ (s.core s.turn).q n, e.flags = 0
  breaks : (s.core s.turn).csrGet Csr.BFCAUSE = 0
  slices : s.sliceWaits s.turn = false

/-- A guard proves its slot active (R61). -/
def Core.proves (k : Core) (g : Guard) : Bool := xor (k.p g.pred) g.neg

/-- The main pipeline of the core whose turn it is may issue a slot of guard `g`. -/
structure Ready (s : State) (g : Guard) : Prop extends Quiet s where
  main : (s.core s.turn).level = 0
  active : (s.core s.turn).proves g = true

/-- The tender of that core may issue a slot of guard `g` (R342). -/
structure Tending (s : State) (g : Guard) : Prop extends Quiet s where
  tender : (s.core s.turn).level ≠ 0
  active : (s.core s.turn).proves g = true

/-- The checks that the entry of a slot instruction makes at issue find no fault in it, and the resources that its slot shares with
others have room for it (R78 order 9). -/
def ChecksPass (ins : Instr) (s : State) : Prop := ∀ sl, slotOf ins = some sl →
  let x : Ctx := { s := s, c := s.turn, k := s.core s.turn, pos := sl.pos }
  sl.check x = none ∧ ∀ q ∈ sl.claims x, 1 ≤ q.2.1

/-- Queue operands `qs`, in the order SA, SB, DST, and pushes `ps` find their entries and their room (R167, R168, R170):
every queue is allotted, the entries are there, have landed and are not poisoned, and no queue would hold more than four. -/
structure QueuesReady (s : State) (qs : List QSrc) (ps : List QReg) : Prop where
  allotted : ∀ n ∈ qs.map (·.q) ++ ps, n.toNat < (s.core s.turn).qallot
  popped : ∀ n : QReg, (qs.filter fun q => q.q = n && !q.peek).length ≤ ((s.core s.turn).q n).length
  pushed : ∀ n ∈ qs.map (·.q) ++ ps, ((s.core s.turn).q n).length - (qs.filter fun q => q.q = n && !q.peek).length
    + (ps.filter (· = n)).length ≤ 4
  peeked : peekFault (s.core s.turn) [] qs = false
  landed : ∀ e ∈ resolveQ (s.core s.turn) [] qs, e.landed = true ∨ e.due ≤ s.clk
  clean : ∀ e ∈ resolveQ (s.core s.turn) [] qs, e.poison = false

/-- The vector that queue operand `i` of `qs` finds (R168). -/
def queueOperand (s : State) (qs : List QSrc) (i : Nat) : Vec := (((resolveQ (s.core s.turn) [] qs)[i]?).map QEntry.v).getD 0

/-- The entries of queue `n` after the pops of `qs` (R167). -/
def afterPops (k : Core) (qs : List QSrc) (n : QReg) : List QEntry := (k.q n).drop (qs.filter fun q => q.q = n && !q.peek).length

/-! ### What an instruction leaves as it was -/

/-- The parts of the machine beside its registers and memory: a core's engines, its passes and accumulator stores, its load-blocks,
its berth table and plan cache, its notices, its containment regions, its level, its task, and its logical time; the slice requests
and teller runs, the graphs and saved tasks, the hardware queues, the words owned away from their home, and what links and interrupt
messages have carried away. -/
inductive Part where
  | engines | matrix | blocks | berth | notice | regions | level | task | clock | slices | graphs | queues | owned | sent
deriving DecidableEq, Repr

/-- What an instruction may write. -/
structure Writes where
  regs : List RegName := []
  sems : List WReg := []
  queues : List QReg := []
  csrs : List Nat := []
  cells : List (BitVec 4) := []
  /-- Scratchpad bytes. -/
  spad : Nat → Prop := fun _ => False
  /-- Bytes of memory. -/
  mem : Nat → Prop := fun _ => False
  /-- Control-die registers. -/
  ctls : List Nat := []
  parts : List Part := []

/-- Every register, CSR, scratchpad byte and part of a core is as it was but those that `w` names. -/
structure CoreKept (k k' : Core) (w : Writes) : Prop where
  scalar : ∀ n : SReg, n = 0 ∨ .s n.toNat ∉ w.regs → k'.s n = k.s n ∧ k'.sBad n = k.sBad n
  predicate : ∀ n : PReg, n = 0 ∨ .p n.toNat ∉ w.regs → k'.p n = k.p n
  descriptor : ∀ n : DReg, .d n.toNat ∉ w.regs → k'.d n = k.d n ∧ k'.regs.dpend.getLsbD n.toNat = k.regs.dpend.getLsbD n.toNat
  ring : ∀ n : GReg, .g n.toNat ∉ w.regs → k'.g n = k.g n
  accumulator : ∀ a r : Nat, r < 64 → .c a ∉ w.regs → k'.row a r = k.row a r ∧ k'.rowBad a r = k.rowBad a r
  semaphore : ∀ n : WReg, n ∉ w.sems → k'.w n = k.w n
  queue : ∀ n : QReg, n ∉ w.queues → k'.q n = k.q n
  cell : ∀ n : BitVec 4, n ∉ w.cells → vget 0 k'.regs.cseq n.toNat = vget 0 k.regs.cseq n.toNat
  csr : ∀ n : Nat, n ∉ w.csrs → k'.csrGet n = k.csrGet n
  scratch : ∀ o : Nat, ¬ w.spad o → k'.sp o = k.sp o
  engines : .engines ∉ w.parts → k'.e0 = k.e0 ∧ k'.e1 = k.e1
  matrix : .matrix ∉ w.parts → k'.passes = k.passes ∧ k'.mstores = k.mstores
  blocks : .blocks ∉ w.parts → k'.blocks = k.blocks
  berth : .berth ∉ w.parts → k'.berth.nodes = k.berth.nodes ∧ k'.berth.cache = k.berth.cache ∧ k'.berth.demand = k.berth.demand
  notice : .notice ∉ w.parts → k'.notice = k.notice
  regions : .regions ∉ w.parts → k'.contain.regions = k.contain.regions ∧ k'.contain.cause = k.contain.cause ∧
    k'.contain.addr = k.contain.addr ∧ k'.contain.pc = k.contain.pc
  level : .level ∉ w.parts → k'.level = k.level
  task : .task ∉ w.parts → k'.task = k.task
  clock : .clock ∉ w.parts → k'.ltime = k.ltime

/-- Every byte of memory, control-die register and part of the module outside the core is as it was but those that `w` names. -/
structure ModuleKept (s t : State) (w : Writes) : Prop where
  byte : ∀ a : Nat, ¬ w.mem a → t.byte a = s.byte a
  ctl : ∀ o : Nat, o ∉ w.ctls → t.ctlGet o = s.ctlGet o
  others : ∀ c : Nat, c ≠ s.turn → t.core c = s.core c
  poison : t.sectorPoison = s.sectorPoison ∧ t.wordPoison = s.wordPoison
  owned : .owned ∉ w.parts → t.owned = s.owned
  slices : .slices ∉ w.parts → t.sliceReqs = s.sliceReqs ∧ t.teller = s.teller
  graphs : .graphs ∉ w.parts → t.graphs = s.graphs ∧ t.saved = s.saved
  queues : .queues ∉ w.parts → t.hwq = s.hwq
  sent : .sent ∉ w.parts → t.out = s.out ∧ t.control.msi = s.control.msi
  time : t.clk = s.clk ∧ t.turn = s.turn ∧ t.frame = s.frame

/-- In the pipeline that issued, control has passed to code pointer `v`. -/
def PassedTo (s t : State) (v : Word64) : Prop :=
  (if (s.core s.turn).level = 0 then (t.core s.turn).main else (t.core s.turn).tender).pc = v

/-- The bundle has committed, control has passed to code pointer `v`, and everything is as it was but what `w` names. -/
structure FrameTo (s t : State) (w : Writes) (v : Word64) : Prop where
  core : CoreKept (s.core s.turn) (t.core s.turn) w
  module : ModuleKept s t w
  next : PassedTo s t v

/-- The same with control passed to the bundle that follows in the stream (R308). -/
abbrev Frame (s t : State) (w : Writes) : Prop := FrameTo s t w (s.core s.turn).ir.next

/-- Every queue is as the pops of the queue operands `qs` leave it (R167). -/
def Popped (s t : State) (qs : List QSrc) : Prop := ∀ n : QReg, (t.core s.turn).q n = afterPops (s.core s.turn) qs n

/-- FFLAGS holds flags `fl` beside its own from cycle `c` on (R93). -/
def FlagsAt (s t : State) (c : Nat) (fl : Flags) : Prop :=
  ((t.core s.turn).settle c).csrGet Csr.FFLAGS = (s.core s.turn).csrGet Csr.FFLAGS ||| fl.zeroExtend 64

/-- The same once `bound` cycles have passed. -/
def FlagsIn (s t : State) (bound : Nat) (fl : Flags) : Prop := FlagsAt s t (s.clk + bound) fl

/-- Scalar `d` of `t` holds the result `v` of the bundle of `s`, readable after `bound` cycles (R66); nothing else is in flight. -/
structure ScalarLands (s t : State) (d : SReg) (v : Word64) (bound : Nat) : Prop where
  value : d ≠ 0 → (t.core s.turn).s d = v
  zero : d = 0 → (t.core s.turn).s d = 0
  due : ∀ (n : SReg) (c : Nat), n ≠ 0 → (t.core s.turn).inFlight c (.s n.toNat) = decide (n = d ∧ c < s.clk + bound)

/-- Bundle `t` after `s` popped the queue operands `qs` and wrote scalar `d`, the result `v` readable after `bound` cycles with
flags `fl` (R66, R93), and nothing else. -/
structure ScalarDone (s t : State) (qs : List QSrc) (d : SReg) (v : Word64) (bound : Nat) (fl : Flags) : Prop
    extends ScalarLands s t d v bound where
  flags : FlagsIn s t bound fl
  popped : Popped s t qs
  frame : Frame s t { regs := [.s d.toNat], queues := qs.map (·.q) }

/-- The same of predicate `d`. -/
structure PredicateDone (s t : State) (qs : List QSrc) (d : PReg) (v : Bool) (bound : Nat) (fl : Flags) : Prop where
  value : d ≠ 0 → (t.core s.turn).p d = v
  one : d = 0 → (t.core s.turn).p d = true
  due : ∀ (n : PReg) (c : Nat), n ≠ 0 → (t.core s.turn).inFlight c (.p n.toNat) = decide (n = d ∧ c < s.clk + bound)
  flags : FlagsIn s t bound fl
  popped : Popped s t qs
  frame : Frame s t { regs := [.p d.toNat], queues := qs.map (·.q) }

/-- Bundle `t` after `s` popped the queue operands `qs` and pushed `v` into queue `d`, the entry readable after `bound` cycles
and no earlier than the entries before it (R66, R166, R167), with flags `fl`, and did nothing else. -/
structure PushDone (s t : State) (qs : List QSrc) (d : QReg) (v : Vec) (bound : Nat) (fl : Flags) : Prop where
  pushed : (t.core s.turn).q d = afterPops (s.core s.turn) qs d ++
    [{ v := v, due := max (s.clk + bound) ((afterPops (s.core s.turn) qs d).foldl (fun m e => max m e.due) 0), flags := fl }]
  popped : ∀ n : QReg, n ≠ d → (t.core s.turn).q n = afterPops (s.core s.turn) qs n
  flags : FlagsAt s t (max (s.clk + bound) ((afterPops (s.core s.turn) qs d).foldl (fun m e => max m e.due) 0)) fl
  frame : Frame s t { queues := d :: qs.map (·.q) }

/-- The same of a vector given lane by lane: lane `j` of `w` bits is the low bits of `(r j).1`, and the flags of all lanes are
ORed (R203). -/
def LanesDone (s t : State) (qs : List QSrc) (d : QReg) (w bound : Nat) (r : Nat → Nat × Flags) : Prop :=
  ∃ v, (∀ j, j < laneCount w → lane w v j = (r j).1 % 2 ^ w) ∧
    PushDone s t qs d v bound ((List.range (laneCount w)).foldl (fun f j => f ||| (r j).2) 0)

/-! ### Accesses of memory -/

/-- A CORE-path access of kind `kind` to `n` bytes at `ea` by the core whose turn it is reaches local HBM at `pa` and meets nothing
on its way: the address is valid and aligned, the walk finds a leaf that admits the access and whose A bit, and for a write D bit,
is set (R107, R108), a translation that the core holds is the same (R110), the core may still read no older value of the bytes (R297),
no other core owns a word of them (R296), and memory holds no poison (R304, R362). -/
structure Reaches (s : State) (kind : Access) (ea n pa : Nat) : Prop where
  valid : vaValid ea = true
  aligned : ea % n = 0
  mapped : ∃ l, s.walk ((s.core s.turn).csrGet Csr.VMROOT) ea = some l ∧ l.pa = pa ∧
    permOk kind (decide ((s.core s.turn).level ≠ 0)) l.perm = true ∧ bitAt l.perm 6 = true ∧ (kind = .write → bitAt l.perm 7 = true) ∧
    ∀ e ∈ (s.core s.turn).tlb, e.granule = field ea 16 41 → e.pa + ea % 65536 = pa ∧ e.perm.toNat = l.perm
  hbm : pa + n ≤ hbmSize
  fresh : s.nearby s.turn pa n = []
  alone : ∀ e ∈ s.owned, e.2.owner = s.turn ∨ 4 * e.1 + 4 ≤ pa ∨ pa + n ≤ 4 * e.1
  whole : s.wordPoison = [] ∧ s.sectorPoison = []

/-- Hardware keeps no page-state table, and the line at `pa` holds no code (R111, R128). -/
structure Untracked (s : State) (pa : Nat) : Prop where
  page : bitAt (s.ctlGet Ctl.PSTBASE).toNat 0 = false
  code : pa / 128 ∉ s.codeLines

/-- The `n` bytes at `pa` in the CORE order, as a little-endian number (R3, R292). -/
def coreNat (s : State) (pa n : Nat) : Nat := ofBytes ((List.range n).map fun i => s.coreByte (pa + i))

/-! ### Error records (R364) -/

/-- Where the error ring takes its next record. -/
def ringNext (s : State) : Nat :=
  field (s.ctlGet Ctl.ERRBASE).toNat 12 40 * 4096
    + 32 * (field (s.ctlGet Ctl.ERRPOS).toNat 0 32 % 2 ^ field (s.ctlGet Ctl.ERRBASE).toNat 0 5)

/-- The error ring is on and has room, in memory without page states and lost words. -/
structure RingReady (s : State) : Prop where
  on : (s.ctlGet Ctl.ERRBASE).getLsbD 63 = true
  room : let n := 2 ^ field (s.ctlGet Ctl.ERRBASE).toNat 0 5
    (field (s.ctlGet Ctl.ERRPOS).toNat 0 32 + 2 ^ 32 - s.natAt (field (s.ctlGet Ctl.ERRBASE).toNat 12 40 * 4096 + 32 * n) 4) % 2 ^ 32 < n
  whole : s.wordPoison = []
  untracked : bitAt (s.ctlGet Ctl.PSTBASE).toNat 0 = false

/-- From `s` to `t` the error ring has taken one record, of these fields, and memory and ring have changed in no other place. -/
structure Logged (s t : State) (array sev unit loc : Nat) : Prop where
  frame : t.natAt (ringNext s) 8 = s.frame % 2 ^ 64
  array : t.natAt (ringNext s + 8) 1 = array
  sev : t.natAt (ringNext s + 9) 1 = sev
  unit : t.natAt (ringNext s + 10) 2 = unit % 2 ^ 16
  loc : t.natAt (ringNext s + 16) 8 = loc % 2 ^ 64
  others : ∀ y, ¬(ringNext s ≤ y ∧ y < ringNext s + 32) → t.byte y = s.byte y
  head : field (t.ctlGet Ctl.ERRPOS).toNat 0 32 = (field (s.ctlGet Ctl.ERRPOS).toNat 0 32 + 1) % 2 ^ 32

/-! ### Context images (R353) -/

/-- The lines of an image of `size` bytes at virtual address `va` stand at `pa`, each reached for writing by the tender, no two at
one place, none tracked and none of code. -/
structure ImageAt (s : State) (va size : Nat) (pa : Nat → Nat) : Prop where
  aligned : va % 4096 = 0
  reached : ∀ o, o < size → o % 128 = 0 → Reaches s .write (addr va o) 8 (pa o) ∧ Untracked s (pa o)
  apart : ∀ o o', o < size → o' < size → o % 128 = 0 → o' % 128 = 0 → pa o = pa o' → o = o'

/-- `n` bytes from offset `o` of the image whose lines stand at `pa`, within one line. -/
def imageNat (s : State) (pa : Nat → Nat) (o n : Nat) : Nat := coreNat s (pa (o / 128 * 128) + o % 128) n

/-- The image whose lines stand at `pa` in memory `s` holds the registers, queues, accumulators, descriptors, CSRs, held words,
notice state and scratchpad of core `k` where R353 lays them; of one that was `read`, a CSR and a ring hold what is assigned (R6). -/
structure ImageOf (s : State) (pa : Nat → Nat) (k : Core) (read : Bool := false) : Prop where
  root : if read then k.csrGet Csr.VMROOT = csrImage Csr.VMROOT (BitVec.ofNat 64 (imageNat s pa 0x20 8))
    else imageNat s pa 0x20 8 = (k.csrGet Csr.VMROOT).toNat
  semaphore : ∀ n : WReg, imageNat s pa (0x80 + 4 * n.toNat) 4 = (k.w n).toNat
  scalar : ∀ n : SReg, n ≠ 0 → imageNat s pa (0x100 + 8 * n.toNat) 8 = (k.s n).toNat
  predicate : ∀ n : PReg, n ≠ 0 → bitAt (imageNat s pa 0x300 8) n.toNat = k.p n
  held : ∀ i, i < 8 → bitAt (imageNat s pa 0x308 8) i = (Map.find k.main.hold i).isSome ∧
    ∀ w, Map.find k.main.hold i = some w → imageNat s pa (0x310 + 8 * i) 8 % 2 ^ 44 = w.toNat
  shadow : ∀ i, i < 8 → imageNat s pa (0x350 + 8 * i) 8 = (k.notice.shadow.getD i 0).toNat
  saved : imageNat s pa 0x390 8 = k.notice.saved.toNat
  csr : ∀ e ∈ [(Csr.SPLIT, 0), (Csr.QALLOT, 1), (Csr.FMTN, 2), (Csr.FFLAGS, 9), (Csr.CHECKMODE, 10), (Csr.NVEC, 11), (Csr.TCMP, 12),
    (Csr.PHWORD, 13), (Csr.REPLAN, 14), (Csr.PCOST, 15), (Csr.PLANWIN, 16), (Csr.SNDBASE, 17), (Csr.RBENTRY, 20), (Csr.SNAPEP, 21)],
    if read then k.csrGet e.1 = csrImage e.1 (BitVec.ofNat 64 (imageNat s pa (0x400 + 8 * e.2) 8))
    else imageNat s pa (0x400 + 8 * e.2) 8 = (k.csrGet e.1).toNat
  cell : ∀ i, i < 16 → imageNat s pa (0xA00 + 8 * i) 8 = (vget 0 k.regs.cseq i).toNat
  ring : ∀ n : GReg, let v := BitVec.ofNat 128 (imageNat s pa (0xA80 + 16 * n.toNat) 8 + imageNat s pa (0xA88 + 16 * n.toNat) 8 * 2 ^ 64)
    k.g n = if read then v &&& ringHeld else v
  descriptor : ∀ (n : DReg) (j : Nat), j < 8 → imageNat s pa (0xC00 + 64 * n.toNat + 8 * j) 8 = field (k.d n).toNat (64 * j) 64
  queue : ∀ q : QReg, min 4 (imageNat s pa (0xB80 + q.toNat) 1) = (k.q q).length ∧ ∀ (e i : Nat) (x : QEntry), e < 4 → i < 32 →
    q.toNat < k.qallot → (k.q q)[e]? = some x → imageNat s pa (0x2000 + 1024 * q.toNat + 256 * e + 8 * i) 8 = field x.v.toNat (64 * i) 64
  accumulator : ∀ a r j, a < 16 → r < 64 → j < 64 → imageNat s pa (0x12000 + 16384 * a + 256 * r + 4 * j) 4 = field (k.row a r).toNat (32 * j) 32
  scratch : ∀ o, o < k.spSize → imageNat s pa (0x66000 + o) 1 = (k.sp o).toNat

/-- A core has nothing left that a save waits for (R319, R351): no pass, no MSTOREC, no request held at a fault, and none that
writes the core's SRAM. -/
structure Drained (s : State) (c : Nat) : Prop where
  passes : (s.core c).passes = []
  stores : (s.core c).mstores = []
  held : ∀ r ∈ s.taskReqs c false ++ s.taskReqs c true, r.2.2.held = false
  sram : ∀ r ∈ (s.core c).e0.reqs ++ (s.core c).e1.reqs, r.op.fillsScratch = false

/-! ### Ovnath programs (R402 to R404) -/

/-- The core whose turn it is runs the Ovnath program, in its main pipeline, the translation's first native bundle behind it, with no poison
in what the program sees and no atomic or call under way. -/
structure OvnTurn (s : State) : Prop where
  core : s.ovn.core = s.turn
  main : (s.core s.turn).level = 0
  begun : s.ovn.begun = true
  clean : (s.core s.turn).regs.sPoison = 0
  vectors : ∀ (q : QReg), ∀ e ∈ (s.core s.turn).q q, e.poison = false
  slices : s.sliceWaits s.turn = false

/-- In `u` the vector registers `rd` that a bundle of `s` reads and those, `wr`, that it writes are resident, each with its entry (R408). -/
structure OvnPlaced (s u : State) (rd wr : List (BitVec 5)) : Prop where
  placed : s.ovnPlaced rd wr = .ok u
  turn : OvnTurn u
  entries : ∀ n ∈ rd, (u.core u.turn).q (u.ovnQueue n) ≠ []

/-- The bundle at hand is applied, the next one, 16 bytes on, follows, and everything is as it was but what `w` names and the queues of the
resident vector registers `vs`, whose entries are not poisoned. -/
structure OvnStepped (s t : State) (w : Writes) (vs : List (BitVec 5)) : Prop where
  frame : FrameTo s t { w with queues := w.queues ++ vs.map s.ovnQueue } ((s.core s.turn).main.pc + 16)
  clean : ∀ n ∈ vs, t.ovBad n = false
  kept : t.ovn = s.ovn

/-- Vector register `d` holds a vector given lane by lane, as in `LanesDone`, and FFLAGS has the flags of all lanes. -/
structure OvnLanes (s t : State) (d : BitVec 5) (w : Nat) (r : Nat → Nat × Flags) : Prop where
  value : ∀ j, j < laneCount w → lane w (t.ov d) j = (r j).1 % 2 ^ w
  flags : (t.core s.turn).csrGet Csr.FFLAGS =
    (s.core s.turn).csrGet Csr.FFLAGS ||| ((List.range (laneCount w)).foldl (fun f j => f ||| (r j).2) (0 : Flags)).zeroExtend 64
  stepped : OvnStepped s t { csrs := [Csr.FFLAGS] } [d]

/-! ### Events -/

/-- Nothing of the module has changed but the control-die registers at `os`. -/
structure CtlOnly (s t : State) (os : List Nat) : Prop where
  others : ∀ o, o ∉ os → t.ctlGet o = s.ctlGet o
  rest : t = { s with ctl := t.ctl }

/-- Register `o` holds image `v` in its writable bits and what it held in the others (R5). -/
def CtlTakes (s t : State) (o : Nat) (v : Word64) : Prop :=
  ∀ j, j < 64 → (t.ctlGet o).getLsbD j = if (ctlMask o).getLsbD j then v.getLsbD j else (s.ctlGet o).getLsbD j

/-- Core `c` alone has changed, and of it nothing but what `w` names. -/
structure CoreOnly (s t : State) (c : Nat) (w : Writes) : Prop where
  core : CoreKept (s.core c) (t.core c) w
  others : ∀ d, d ≠ c → t.core d = s.core d
  memory : t.mem = s.mem ∧ t.sectorPoison = s.sectorPoison ∧ t.wordPoison = s.wordPoison ∧ t.owned = s.owned
  module : t.ctl = s.ctl ∧ t.graphs = s.graphs ∧ t.saved = s.saved ∧ t.hwq = s.hwq ∧ t.clk = s.clk ∧ t.turn = s.turn ∧ t.frame = s.frame

/-- The level-1 records of a trap and the CSRs that its entry clears (R341, R342, R347). -/
def trapCsrs : List Nat :=
  [Csr.TCAUSE, Csr.TPC, Csr.TADDR, Csr.SFMASK, Csr.TSKIP] ++ (List.range 6).map (Csr.TBND0 + ·)

/-- Core `k'` is core `k` after a trap has entered its tender at level 1 (R342): the records hold the trap, the main pipeline stands at
`tpc`, the tender starts at `vec`, and every register is as it was. -/
structure TrapEntered (k k' : Core) (cause tpc taddr : Word64) (mask : Nat) (vec : Word64) (extra : List Part := []) : Prop where
  level : k'.level = 1
  cause : k'.csrGet Csr.TCAUSE = cause
  pc : k'.csrGet Csr.TPC = tpc
  addr : k'.csrGet Csr.TADDR = taddr
  mask : k'.csrGet Csr.SFMASK = BitVec.ofNat 64 mask
  skip : k'.csrGet Csr.TSKIP = 0
  main : k'.main = { k.main with pc := tpc }
  tender : k'.tender = { pc := vec, hold := [] }
  kept : CoreKept k k' { csrs := trapCsrs, parts := extra ++ [.berth, .level] }

/-- A core runs a task in its main pipeline and no event waits at its boundary but what `p` holds; the watchdog has not run out. -/
structure AtBoundary (k : Core) (p : Pending) : Prop where
  running : k.running = true
  regions : k.contain.regions = []
  records : k.e0.record = none ∧ k.e1.record = none
  pend : k.pend = p
  dog : field (k.csrGet Csr.HWDOG).toNat 0 32 = 0 ∨ k.idleFrames < field (k.csrGet Csr.HWDOG).toNat 0 32

/-- The pipeline of the core whose turn it is stands before its next bundle: it is not stopped, and no event waits at the boundary. -/
structure AtPipe (s : State) : Prop where
  turn : s.units = false
  core : (s.core s.turn).frozen = false ∧ (s.core s.turn).cut = false ∧ (s.core s.turn).entering = false ∧ (s.core s.turn).stall = 0
  task : (s.core s.turn).level ≠ 0 ∨ s.wantsPreempt s.turn = false ∧
    s.boundary s.turn = none ∧ ∃ t, (s.core s.turn).task = some t ∧ t.halted = false

/-- The same, the clocks run, and no routine and no event of the agenda comes first. -/
structure AtIssue (s : State) : Prop extends AtPipe s where
  clocks : s.control.tripped = false
  teller : s.teller = none
  agenda : s.agenda = []

end Sys2Proof.Machine
end

