-- ==== Sys2Proof/Certificates/Slice0/Obligations.lean ====
section
/-! DEFINITION. The statements for the provers. Those on one slot instruction say, of every state in which nothing hinders the issue
of its bundle, that the instruction completes, what it writes, and that it writes nothing else. -/

open Sys2Proof Sys2Proof.Machine

/-! ### The S slot -/

/-- R188, R189, R191, R192, R195: the integer, immediate and select instructions write the value of their entry into their
destination within the bound of R70, raise no flag, and leave everything else as it was.
R190: CLZ, CTZ, POPC, SEXT and ZEXT, bit by bit.
R193, R194: CMP and the predicate logic write their predicate within a bound of 1. -/
def Obligations.IntegerResults : Prop :=
  (∀ (s : State) (g : Guard), (Ready s g ∨ Tending s g) → ∀ (d a b : SReg) (p : PReg) (n : BitVec 6) (i : BitVec 17) (k : BitVec 2)
    (h : BitVec 16) (ins : Instr) (v : Word64) (bound : Nat),
    let c := s.core s.turn
    let x := c.s a
    let y := c.s b
    let z := y.toNat % 64
    (ins, v, bound) ∈ [
      (.add g d a b, x + y, 1), (.sub g d a b, x - y, 1), (.and g d a b, x &&& y, 1), (.or g d a b, x ||| y, 1),
      (.xor g d a b, x ^^^ y, 1), (.shl g d a b, x <<< z, 1), (.shrl g d a b, x >>> z, 1), (.shra g d a b, x.sshiftRight z, 1),
      (.min g d a b, if x.toInt ≤ y.toInt then x else y, 1), (.max g d a b, if x.toInt ≤ y.toInt then y else x, 1),
      (.minn g d a b, if x.toNat ≤ y.toNat then x else y, 1), (.maxn g d a b, if x.toNat ≤ y.toNat then y else x, 1),
      (.mul g d a b, BitVec.ofInt 64 (x.toInt * y.toInt), 3), (.mulh g d a b, BitVec.ofInt 64 (x.toInt * y.toInt / 2 ^ 64), 3),
      (.mulhn g d a b, BitVec.ofNat 64 (x.toNat * y.toNat / 2 ^ 64), 3),
      (.divs g d a b, if y = 0 then -1 else BitVec.ofInt 64 (x.toInt.tdiv y.toInt), 20),
      (.divn g d a b, if y = 0 then -1 else BitVec.ofNat 64 (x.toNat / y.toNat), 20),
      (.rems g d a b, if y = 0 then x else BitVec.ofInt 64 (x.toInt.tmod y.toInt), 20),
      (.remn g d a b, if y = 0 then x else BitVec.ofNat 64 (x.toNat % y.toNat), 20),
      (.addi g d a i, x + i.signExtend 64, 1), (.andi g d a i, x &&& i.signExtend 64, 1), (.ori g d a i, x ||| i.signExtend 64, 1),
      (.xori g d a i, x ^^^ i.signExtend 64, 1), (.shli g d a n, x <<< n.toNat, 1), (.shrli g d a n, x >>> n.toNat, 1),
      (.shrai g d a n, x.sshiftRight n.toNat, 1), (.limm g d i, i.signExtend 64, 1),
      (.limmh g d k h, BitVec.ofNat 64 (setField (c.s d).toNat (16 * k.toNat) 16 h.toNat), 1),
      (.sel g d p a b, if c.p p then x else y, 1)] →
    ∃ t, exec ins s = .next t ∧ ScalarDone s t [] d v bound 0) ∧
  (∀ (s : State) (g : Guard), (Ready s g ∨ Tending s g) → ∀ (d a : SReg) (n : BitVec 6) (ins : Instr) (r : Word64 → Prop),
    let x := (s.core s.turn).s a
    (ins, r) ∈ [
      (.clz g d a, fun v => v.toNat ≤ 64 ∧ (∀ j, 64 - v.toNat ≤ j → x.getLsbD j = false) ∧
        (v.toNat < 64 → x.getLsbD (63 - v.toNat) = true)),
      (.ctz g d a, fun v => v.toNat ≤ 64 ∧ (∀ j, j < v.toNat → x.getLsbD j = false) ∧ (v.toNat < 64 → x.getLsbD v.toNat = true)),
      (.popc g d a, fun v => v.toNat = ((List.range 64).filter fun j => x.getLsbD j).length),
      (.sext g d a n, fun v => ∀ j, j < 64 → v.getLsbD j = x.getLsbD (min j n.toNat)),
      (.zext g d a n, fun v => ∀ j, v.getLsbD j = (decide (j ≤ n.toNat) && x.getLsbD j))] →
    ∃ t v, exec ins s = .next t ∧ r v ∧ ScalarDone s t [] d v 1 0) ∧
  (∀ (s : State) (g : Guard), (Ready s g ∨ Tending s g) → ∀ (d p q : PReg) (a b : SReg) (ins : Instr) (v : Bool),
    let c := s.core s.turn
    let x := c.s a
    let y := c.s b
    (ins, v) ∈ [
      (.cmp g d a b false .eq, decide (x = y)), (.cmp g d a b false .ne, decide (x ≠ y)),
      (.cmp g d a b false .lt, decide (x.toInt < y.toInt)), (.cmp g d a b false .le, decide (x.toInt ≤ y.toInt)),
      (.cmp g d a b false .gt, decide (y.toInt < x.toInt)), (.cmp g d a b false .ge, decide (y.toInt ≤ x.toInt)),
      (.cmp g d a b true .lt, decide (x.toNat < y.toNat)), (.cmp g d a b true .le, decide (x.toNat ≤ y.toNat)),
      (.cmp g d a b true .gt, decide (y.toNat < x.toNat)), (.cmp g d a b true .ge, decide (y.toNat ≤ x.toNat)),
      (.pand g d p q, c.p p && c.p q), (.por g d p q, c.p p || c.p q), (.pxor g d p q, xor (c.p p) (c.p q)), (.pnot g d p, !c.p p)] →
    ∃ t, exec ins s = .next t ∧ PredicateDone s t [] d v 1 0)

/-- R196 to R198, R200: the scalar floating-point instructions round their exact result, raise its flags, and write it within the
bound of R70; FMA adds its destination.
R199: FCMP compares the values; a NaN makes every condition but ne and un false, raises NV for an ordering condition, and for
the others when it is signalling. -/
def Obligations.FloatResults : Prop :=
  (∀ (s : State) (g : Guard), (Ready s g ∨ Tending s g) → ∀ (f src : Fmt) (r : RM) (d a b : SReg) (ins : Instr) (v : Nat × Flags) (bound : Nat),
    let c := s.core s.turn
    let arg (n : SReg) : Val := valueOf (fmtnOf 5) f (c.s n).toNat
    let sd : Seed := ⟨(c.s 59).toNat, 0, 0⟩
    let low (n : SReg) : Nat := (c.s n).toNat % 2 ^ fmtWidth (fmtnOf 5) f
    let int32 (v : Nat × Flags) : Nat × Flags := if f = .int32 then (wrap 64 (signedOf 32 v.1), v.2) else v
    (ins, v, bound) ∈ [
      (.fadd g f r d a b, finish f r false sd (addExact r (arg a) (arg b)), 4),
      (.fsub g f r d a b, finish f r false sd (addExact r (arg a) (arg b).neg), 4),
      (.fmul g f r d a b, finish f r false sd (mulExact (arg a) (arg b)), 4),
      (.fma g f r d a b, finish f r false sd (fmaExact r (arg a) (arg b) (arg d)), 4),
      (.fdiv g f r d a b, finish f r false sd (divExact (arg a) (arg b)), 14),
      (.fsqrt g f r d a, finish f r false sd (sqrtExact (arg a)), 14),
      (.fmin g f d a b, minMaxFloat (fmtnOf 5) f false (low a) (low b), 2),
      (.fmax g f d a b, minMaxFloat (fmtnOf 5) f true (low a) (low b), 2),
      (.fcvt g f src r d a, int32 (convert (fmtnOf 5) f r false (fmtIsInt src) sd (valueOf (fmtnOf 5) src (c.s a).toNat)), 4)] →
    formFault ins = none → ∃ t, exec ins s = .next t ∧ ScalarDone s t [] d (BitVec.ofNat 64 v.1) bound v.2) ∧
  (∀ (s : State) (g : Guard), (Ready s g ∨ Tending s g) → ∀ (f : Fmt) (cond : Cond) (d : PReg) (a b : SReg),
    let x := valueOf (fmtnOf 5) f ((s.core s.turn).s a).toNat
    let y := valueOf (fmtnOf 5) f ((s.core s.turn).s b).toNat
    let un := x.isNan || y.isNan
    let snan := x.isSnan || y.isSnan
    let v : Bool := match cond with
      | .eq => !un && !ltVal x y && !ltVal y x
      | .ne => un || ltVal x y || ltVal y x
      | .lt => !un && ltVal x y
      | .le => !un && !ltVal y x
      | .gt => !un && ltVal y x
      | .ge => !un && !ltVal x y
      | .un => un
      | .ord => !un
    let ordering : Bool := match cond with | .lt | .le | .gt | .ge => true | _ => false
    formFault (.fcmp g f cond d a b) = none →
    ∃ t, exec (.fcmp g f cond d a b) s = .next t ∧ PredicateDone s t [] d v 2 (if snan || (un && ordering) then 0x10 else 0))

/-- R133: a scalar load that reaches memory writes its destination, extended as its mnemonic says, within a bound of 8.
R133: a scalar store that reaches memory stores the low bytes of its data scalar at the address that its entry computes, and
every other byte of memory and every register is as it was. -/
def Obligations.ScalarMemory : Prop :=
  (∀ (s : State) (g : Guard), (Ready s g ∨ Tending s g) → ∀ (d a : SReg) (i : BitVec 17) (ins : Instr) (n : Nat) (signed : Bool) (pa : Nat),
    (ins, n, signed) ∈ [(.ldb g d a i, 1, true), (.ldbn g d a i, 1, false), (.ldh g d a i, 2, true), (.ldhn g d a i, 2, false),
      (.ldw g d a i, 4, true), (.ldwn g d a i, 4, false), (.ldd g d a i, 8, false)] →
    Reaches s .read (memEa ((s.core s.turn).s a) i) n pa →
    ∃ t, exec ins s = .next t ∧ ScalarDone s t [] d
      (BitVec.ofInt 64 (if signed then signedOf (8 * n) (coreNat s pa n) else coreNat s pa n)) 8 0) ∧
  (∀ (s : State) (g : Guard), (Ready s g ∨ Tending s g) → ∀ (d a : SReg) (i : BitVec 17) (ins : Instr) (n pa : Nat),
    (ins, n) ∈ [(.stb g d a i, 1), (.sth g d a i, 2), (.stw g d a i, 4), (.std g d a i, 8)] →
    Reaches s .write (memEa ((s.core s.turn).s a) i) n pa → Untracked s pa →
    ∃ t, exec ins s = .next t ∧ (∀ j, j < n → t.byte (pa + j) = ((s.core s.turn).s d).extractLsb' (8 * j) 8) ∧
      Frame s t { mem := fun x => pa ≤ x ∧ x < pa + n })

/-- R274, R275, R286, R287, R290: an atomic or a call that reaches memory sends its request to the home slice at issue; the pair of
result scalars is in flight until the reply, and nothing else changes. -/
def Obligations.SliceRequests : Prop :=
  ∀ (s : State) (g : Guard), (Ready s g ∨ Tending s g) → ∀ (f : Fmt) (sc : Scope) (id : BitVec 6) (d a b : SReg) (ins : Instr)
    (op : Option (Nat × Fmt)) (n ident : Nat) (pair : Bool) (pa : Nat),
    let c := s.core s.turn
    let n8 := fmtWidth (fmtnOf 5) f / 8
    (ins, op, n, ident, pair) ∈ [
      (.aadd g f sc d a b, some (0x60, f), n8, 0, false), (.aand g f sc d a b, some (0x61, f), n8, 0, false),
      (.aor g f sc d a b, some (0x62, f), n8, 0, false), (.axor g f sc d a b, some (0x63, f), n8, 0, false),
      (.amin g f sc d a b, some (0x64, f), n8, 0, false), (.amax g f sc d a b, some (0x65, f), n8, 0, false),
      (.aswap g f sc d a b, some (0x66, f), n8, 0, false), (.acas g f sc d a b, some (0x67, f), n8, 0, true),
      (.aminn g f sc d a b, some (0x68, f), n8, 0, false), (.amaxn g f sc d a b, some (0x69, f), n8, 0, false),
      (.afadd g f sc d a b, some (0x6A, f), n8, 0, false), (.afmin g f sc d a b, some (0x6B, f), n8, 0, false),
      (.afmax g f sc d a b, some (0x6C, f), n8, 0, false), (.tcall g id sc d a b, none, 1, id.toNat, true)] →
    formFault ins = none → Reaches s .write (c.s a).toNat n pa →
    let req : SliceReq := {
      core := s.turn, dst := d.toNat, op := op, bad := false, tenant := s.tenantNow s.turn, id := ident, pa := pa, va := c.s a,
      pc := c.ir.cp, arg0 := c.s b, arg1 := if pair then c.s (b + 1) else 0, cyc := s.clk, scope := sc }
    ∃ t, exec ins s = .next t ∧ t.sliceReqs = s.sliceReqs ++ [req] ∧
      (∀ (m : SReg) (k : Nat), m ≠ 0 → (t.core s.turn).inFlight k (.s m.toNat) = decide (d ≠ 0 ∧ (m = d ∨ m = d + 1))) ∧
      Frame s t { regs := if d = 0 then [] else [.s d.toNat, .s (d + 1).toNat], parts := [.slices] } ∧ t.teller = s.teller

/-- R201: CSRR reads the image of a CSR within a bound of 2: the stored image, or what the machine keeps for the CSR.
R5, R201: CSRW, CSRS and CSRC present their image to a CSR, whose writable fields take it, whose W1C fields lose the bits
that are presented as ones by CSRW and CSRS, and whose other fields keep their value. -/
def Obligations.CsrAccess : Prop :=
  (∀ (s : State) (g : Guard) (n : BitVec 12), (Ready s g ∧ csrPrivRead n.toNat = false ∨ Tending s g) → formFault (.csrr g 0 n) = none → ∀ d : SReg,
    let c := s.core s.turn
    let v : Word64 :=
      if n = 0x131 then BitVec.ofNat 64 (s.tframe (s.tenantNow s.turn))
      else if n = 0x132 then BitVec.ofNat 64 (s.tenantAge (s.tenantNow s.turn))
      else if n = 0x170 then BitVec.ofNat 64 c.contain.regions.length
      else if n = 0x171 then c.contain.cause
      else if n = 0x172 then c.contain.addr
      else if n = 0x173 then c.contain.pc
      else if n = 0x174 then (match s.logicalOf s.turn with | some l => BitVec.ofNat 64 (2 ^ 63 + l) | none => 0)
      else if n = 0x102 then c.blkst
      else if n = 0x103 then c.efcause.1
      else if n = 0x104 then c.efcause.2.1
      else if n = 0x105 then c.efcause.2.2
      else if n = 0x110 then c.berthst
      else if n = 0x119 then c.planst
      else c.csrGet n.toNat
    ∃ t, exec (.csrr g d n) s = .next t ∧ ScalarDone s t [] d v 2 0) ∧
  (∀ (s : State) (g : Guard) (n : BitVec 12) (a : SReg), (Ready s g ∧ csrPrivWrite n.toNat = false ∧ csrPrivRead n.toNat = false ∨ Tending s g) →
    csrAssigned n = true → n ∉ ([0x102, 0x103, 0x104, 0x105, 0x110, 0x119, 0x131, 0x132, 0x170, 0x171, 0x172, 0x173, 0x174, 0x100, 0x130, 0x163] : List (BitVec 12)) →
    ∀ (ins : Instr) (image ones : Word64),
    let old := (s.core s.turn).csrGet n.toNat
    let x := (s.core s.turn).s a
    (ins, image, ones) ∈ [(.csrw g n a, x, x), (.csrs g n a, old ||| x, x), (.csrc g n a, old &&& ~~~x, 0)] →
    ∃ t, exec ins s = .next t ∧ (∀ j, j < 64 → ((t.core s.turn).csrGet n.toNat).getLsbD j =
        (if (csrMask n.toNat).getLsbD j then image.getLsbD j
         else if (csrW1c n.toNat).getLsbD j then old.getLsbD j && !ones.getLsbD j else old.getLsbD j)) ∧
      Frame s t { csrs := [n.toNat] })

/-! ### The V and X slots -/

/-- R203 to R216: the vector instructions pop their queue operands and push the vector of their entry, lane by lane, with the flags
of all lanes. -/
def Obligations.VectorResults : Prop :=
  ∀ (s : State) (g : Guard), Ready s g → ∀ (f src : Fmt) (r : RM) (cond : Cond) (sat : Bool) (t3 : BitVec 3) (d : QReg) (a b : QSrc)
    (e : SReg) (ins : Instr) (qs : List QSrc) (w bound : Nat) (res : Nat → Nat × Flags),
    let c := s.core s.turn
    let z := fmtnOf 5
    let wf := fmtWidth z f
    let seed (j : Nat) : Seed := ⟨(c.s 59).toNat, j, 0⟩
    let val (x : Nat) : Val := valueOf z f x
    let int (x : Nat) : Int := intVal z f x
    let x (j : Nat) : Nat := lane wf (queueOperand s [a] 0) j
    let x2 (j : Nat) : Nat := lane wf (queueOperand s [a, b] 0) j
    let y2 (j : Nat) : Nat := lane wf (queueOperand s [a, b] 1) j
    let x3 (j : Nat) : Nat := lane wf (queueOperand s [a, b, ⟨d, false⟩] 0) j
    let y3 (j : Nat) : Nat := lane wf (queueOperand s [a, b, ⟨d, false⟩] 1) j
    let z3 (j : Nat) : Nat := lane wf (queueOperand s [a, b, ⟨d, false⟩] 2) j
    let arith (i : Int) (v : Exactly) (j : Nat) : Nat × Flags := if fmtIsIW f then (wrap wf i, 0) else finish f r false (seed j) v
    let either (i : Nat) (v : Nat × Flags) : Nat × Flags := if fmtIsIW f then (i, 0) else v
    let across (op : Nat → Nat → Nat × Flags) : Nat × Flags :=
      (List.range (laneCount wf - 1)).foldl (fun m k => ((op m.1 (x (k + 1))).1, m.2 ||| (op m.1 (x (k + 1))).2)) (x 0, 0)
    (ins, qs, w, bound, res) ∈ [
      (.vadd g f r d a b, [a, b], wf, 4, fun j => arith (int (x2 j) + int (y2 j)) (addExact r (val (x2 j)) (val (y2 j))) j),
      (.vsub g f r d a b, [a, b], wf, 4, fun j => arith (int (x2 j) - int (y2 j)) (addExact r (val (x2 j)) (val (y2 j)).neg) j),
      (.vmul g f r d a b, [a, b], wf, 4, fun j => arith (int (x2 j) * int (y2 j)) (mulExact (val (x2 j)) (val (y2 j))) j),
      (.vadif g f r d a b, [a, b], wf, 4, fun j => arith (int (x2 j) - int (y2 j)).natAbs (absDiff (val (x2 j)) (val (y2 j))) j),
      (.vfma g f r d a b, [a, b, ⟨d, false⟩], wf, 6, fun j => finish f r false (seed j) (fmaExact r (val (x3 j)) (val (y3 j)) (val (z3 j)))),
      (.vfms g f r d a b, [a, b, ⟨d, false⟩], wf, 6, fun j => finish f r false (seed j) (fmaExact r (val (x3 j)) (val (y3 j)) (val (z3 j)).neg)),
      (.vnfma g f r d a b, [a, b, ⟨d, false⟩], wf, 6, fun j => finish f r false (seed j) (fmaExact r (val (x3 j)).neg (val (y3 j)) (val (z3 j)))),
      (.vmin g f d a b, [a, b], wf, 2, fun j => either (if int (y2 j) < int (x2 j) then y2 j else x2 j) (minMaxFloat z f false (x2 j) (y2 j))),
      (.vmax g f d a b, [a, b], wf, 2, fun j => either (if int (x2 j) ≤ int (y2 j) then y2 j else x2 j) (minMaxFloat z f true (x2 j) (y2 j))),
      (.vabs g f d a, [a], wf, 2, fun j => either (int (x j)).natAbs (x j % 2 ^ (wf - 1), 0)),
      (.vneg g f d a, [a], wf, 2, fun j => either (wrap wf (-int (x j))) (x j ^^^ 2 ^ (wf - 1), 0)),
      (.vcmp g f cond d a b, [a, b], wf, 2, fun j =>
        let v := if fmtIsIW f then (condInt cond (int (x2 j)) (int (y2 j)), 0) else condVal cond (val (x2 j)) (val (y2 j))
        (if v.1 then 2 ^ wf - 1 else 0, v.2)),
      (.vsel g f d a b, [a, b, ⟨d, false⟩], wf, 2, fun j => (if z3 j ≠ 0 then x3 j else y3 j, 0)),
      (.vshl g f d a b, [a, b], wf, 2, fun j => (x2 j * 2 ^ (y2 j % wf), 0)),
      (.vshrl g f d a b, [a, b], wf, 2, fun j => (x2 j / 2 ^ (y2 j % wf), 0)),
      (.vshra g f d a b, [a, b], wf, 2, fun j => (wrap wf (signedOf wf (x2 j) / (2 ^ (y2 j % wf) : Nat)), 0)),
      (.vcvt g f src r sat d a, [a], fmtWidth c.fmtn f, 4, fun j =>
        if j < 2048 / max (fmtWidth c.fmtn src) (fmtWidth c.fmtn f) then
          convert c.fmtn f r sat (fmtIsInt src) (seed j) (valueOf c.fmtn src (lane (fmtWidth c.fmtn src) (queueOperand s [a] 0) j))
        else (0, 0)),
      (.vsat g f t3 d a, [a], wf, 2, fun j =>
        let lo := if t3.toNat < 4 then -(2 ^ (4 * 2 ^ t3.toNat - 1) : Int) else 0
        let hi := if t3.toNat < 4 then (2 ^ (4 * 2 ^ t3.toNat - 1) - 1 : Int) else 2 ^ (4 * 2 ^ (t3.toNat - 4)) - 1
        let v := max lo (min hi (int (x j)))
        (wrap wf v, if v ≠ int (x j) then 0x20 else 0)),
      (.vrcp g f r d a, [a], wf, 8, fun j => finish f r false (seed j) (elementaryExact z 0 f (x j))),
      (.vrsq g f r d a, [a], wf, 8, fun j => finish f r false (seed j) (elementaryExact z 1 f (x j))),
      (.vexp2 g f r d a, [a], wf, 8, fun j => finish f r false (seed j) (elementaryExact z 2 f (x j))),
      (.vlog2 g f r d a, [a], wf, 8, fun j => finish f r false (seed j) (elementaryExact z 3 f (x j))),
      (.vdot g f d a b, [a, b], 32, 6, fun j =>
        let cw := fmtWidth c.fmtn f
        let el (q i : Nat) : Int := intVal c.fmtn f (lane cw (queueOperand s [a, b] q) (2048 / cw / 64 * j + i))
        (wrap 32 (((List.range (2048 / cw / 64)).map fun i => el 0 i * el 1 i).sum), 0)),
      (.vredadd g f r d a, [a], wf, 10, fun j =>
        if j ≠ 0 then (0, 0)
        else if fmtIsIW f then (((List.range (laneCount wf)).map x).sum % 2 ^ wf, 0)
        else finish f r false (seed 0) (blockSum ((List.range (laneCount wf)).map fun k => val (x k)))),
      (.vbcast g f d e, [], wf, 2, fun _ => ((c.s e).toNat, 0)), (.viota g f d, [], wf, 1, fun j => (j, 0)),
      (.vand g d a b, [a, b], 2048, 1, fun _ => ((queueOperand s [a, b] 0 &&& queueOperand s [a, b] 1).toNat, 0)),
      (.vor g d a b, [a, b], 2048, 1, fun _ => ((queueOperand s [a, b] 0 ||| queueOperand s [a, b] 1).toNat, 0)),
      (.vxor g d a b, [a, b], 2048, 1, fun _ => ((queueOperand s [a, b] 0 ^^^ queueOperand s [a, b] 1).toNat, 0)),
      (.vnot g d a, [a], 2048, 1, fun _ => ((~~~queueOperand s [a] 0).toNat, 0)),
      (.vmov g d a, [a], 2048, 1, fun _ => ((queueOperand s [a] 0).toNat, 0)),
      (.vredmin g f d a, [a], wf, 10, fun j => if j ≠ 0 then (0, 0) else across fun u v =>
        either (if int v < int u then v else u) (minMaxFloat z f false u v)),
      (.vredmax g f d a, [a], wf, 10, fun j => if j ≠ 0 then (0, 0) else across fun u v =>
        either (if int u ≤ int v then v else u) (minMaxFloat z f true u v))] →
    formFault ins = none → QueuesReady s qs [d] → ∃ t, exec ins s = .next t ∧ LanesDone s t qs d w bound res

/-- R216: VEXTR, VCNT, VANY and VALL pop their queue and write a scalar or a predicate; VPOP pops. -/
def Obligations.VectorToScalar : Prop :=
  ∀ (s : State) (g : Guard), Ready s g → ∀ (f : Fmt) (d : SReg) (p : PReg) (a : QSrc) (q : QReg) (b : SReg),
    let w := fmtWidth (fmtnOf 5) f
    let x (j : Nat) : Nat := lane w (queueOperand s [a] 0) j
    let picked := x (((s.core s.turn).s b).toNat % laneCount w)
    let lanes := (List.range (laneCount w)).filter fun j => x j ≠ 0
    (QueuesReady s [a] [] →
      (isFvIw f = true → ∃ t, exec (.vextr g f d a b) s = .next t ∧ ScalarDone s t [a] d
        (BitVec.ofInt 64 (if fmtIsIW f && fmtSigned (fmtnOf 5) f then signedOf w picked else picked)) 2 0) ∧
      (fmtIsIW f = true →
        (∃ t, exec (.vcnt g f d a) s = .next t ∧ ScalarDone s t [a] d (BitVec.ofNat 64 lanes.length) 3 0) ∧
        (∃ t, exec (.vany g f p a) s = .next t ∧ PredicateDone s t [a] p (decide (lanes ≠ [])) 3 0) ∧
        (∃ t, exec (.vall g f p a) s = .next t ∧ PredicateDone s t [a] p (decide (lanes.length = laneCount w)) 3 0))) ∧
    (QueuesReady s [⟨q, false⟩] [] → ∃ t, exec (.vpop g q) s = .next t ∧ Popped s t [⟨q, false⟩] ∧ Frame s t { queues := [q] })

/-- R136: a vector load pushes the 32 doublewords at its addresses, which its mode takes from memory or from the scratchpad.
R136: a vector store pops its queue and stores its 32 doublewords at its addresses in ascending order, so that the last of those
that cover a byte gives it; no other byte of memory or of the scratchpad changes. -/
def Obligations.VectorMemory : Prop :=
  (∀ (s : State) (g : Guard), Ready s g → ∀ (m : BitVec 2) (d : QReg) (a b : SReg) (off : BitVec 8) (ins : Instr) (stride : Nat) (pa : Nat → Nat),
    let c := s.core s.turn
    let at_ (j : Nat) : Nat := vmemAt (vmemEa (c.s a) off) stride j
    (ins, stride) ∈ [(.vld g m d a off, 8), (.vlds g m d a b off, (c.s b).toNat)] → formFault ins = none → QueuesReady s [] [d] →
    stride % 8 = 0 → vmemEa (c.s a) off % 8 = 0 →
    (if m = 1 then c.scratchPoison = [] ∧ ∀ j, j < 32 → at_ j + 8 ≤ c.spSize else ∀ j, j < 32 → Reaches s .read (at_ j) 8 (pa j)) →
    ∃ t v, exec ins s = .next t ∧ PushDone s t [] d v 8 0 ∧
      ∀ j, j < 32 → lane 64 v j = if m = 1 then ofBytes (c.spRead (at_ j) 8) else coreNat s (pa j) 8) ∧
  (∀ (s : State) (g : Guard), Ready s g → ∀ (m : BitVec 2) (d : QReg) (a b : SReg) (off : BitVec 8) (ins : Instr) (stride : Nat) (pa : Nat → Nat),
    let c := s.core s.turn
    let at_ (j : Nat) : Nat := if m = 1 then vmemAt (vmemEa (c.s a) off) stride j else pa j
    let covers (j x : Nat) : Prop := at_ j ≤ x ∧ x < at_ j + 8
    let v := queueOperand s [⟨d, false⟩] 0
    (ins, stride) ∈ [(.vst g m d a off, 8), (.vsts g m d a b off, (c.s b).toNat)] → formFault ins = none → QueuesReady s [⟨d, false⟩] [] →
    stride % 8 = 0 → vmemEa (c.s a) off % 8 = 0 →
    (∀ j, j < 32 → if m = 1 then at_ j + 8 ≤ c.spSize
      else Reaches s .write (vmemAt (vmemEa (c.s a) off) stride j) 8 (pa j) ∧ Untracked s (pa j)) →
    ∃ t, exec ins s = .next t ∧ Popped s t [⟨d, false⟩] ∧
      (∀ j k, j < 32 → k < 8 → (∀ i, j < i → i < 32 → ¬ covers i (at_ j + k)) →
        (if m = 1 then (t.core s.turn).sp (at_ j + k) else t.byte (at_ j + k)) = v.extractLsb' (64 * j + 8 * k) 8) ∧
      Frame s t { queues := [d], spad := fun x => m = 1 ∧ ∃ j, j < 32 ∧ covers j x, mem := fun x => m ≠ 1 ∧ ∃ j, j < 32 ∧ covers j x })

/-- R176 to R178, R180 to R183: the X slot's permutations and conversions pop their queue operands and push the vector of their entry,
lane by lane. -/
def Obligations.PermuteResults : Prop :=
  ∀ (s : State) (g : Guard), Ready s g → ∀ (f : Fmt) (r : RM) (n2 : BitVec 2) (h : Bool) (d : QReg) (a b : QSrc) (e : SReg) (ins : Instr)
    (qs : List QSrc) (w bound : Nat) (res : Nat → Nat × Flags),
    let c := s.core s.turn
    let fn := c.fmtn
    let wf := fmtWidth (fmtnOf 5) f
    let wn := fmtWidth fn f
    let n := laneCount wf
    let box := 64 / 2 ^ n2.toNat
    let k := (c.s e).toNat
    let x (j : Nat) : Nat := lane wf (queueOperand s [a] 0) j
    let x2 (j : Nat) : Nat := lane wf (queueOperand s [a, b] 0) j
    let y2 (j : Nat) : Nat := lane wf (queueOperand s [a, b] 1) j
    let half (i : Nat) : Nat := if i < n / 2 then x2 (2 * i + bit h) else y2 (2 * (i - n / 2) + bit h)
    let cols := 2 ^ ((n.log2 + 1) / 2)
    (ins, qs, w, bound, res) ∈ [
      (.pack g f n2 d a, [a], wn, 4, fun j =>
        let y := lane box (queueOperand s [a] 0) j
        if 2048 / box ≤ j then (0, 0)
        else if fmtIsB8 f then (y % 256, 0)
        else
          let v := clampInt fn f (if fmtSigned fn f then signedOf box y else y)
          (wrap (codeWidth fn f) v.1, if v.2 then 0x20 else 0)),
      (.unpk g f n2 d a, [a], box, 4, fun j =>
        let y := lane wn (queueOperand s [a] 0) j
        (if fmtIsB8 f then y else wrap box (intVal fn f y), 0)),
      (.scal g f r d a e, [a], wf, 4, fun j =>
        let sd : Seed := ⟨(c.s 59).toNat, j, 0⟩
        if k % 256 = 0xFF then (nanCode f, 0x10)
        else match valueOf (fmtnOf 5) f (x j) with
          | .fin neg m ex => convert (fmtnOf 5) f r false false sd (.fin neg m (ex + (k % 256 : Nat) - 127))
          | v => convert (fmtnOf 5) f r false false sd v),
      (.shuf g f d a b, [a, b], wf, 4, fun j => (x2 (y2 j % n), 0)),
      (.xpose g f d a, [a], wf, 8, fun i => (x (i % (n / cols) * cols + i / (n / cols)), 0)),
      (.rotl g f d a e, [a], wf, 2, fun j => (x ((j + n - k % n) % n), 0)),
      (.bplx g f d a e, [a], 1, 4, fun j => (if j < laneCount wn then bit (bitAt (lane wn (queueOperand s [a] 0) j) k) else 0, 0)),
      (.bplm g f d a e, [a, ⟨d, false⟩], wn, 4, fun j =>
        let plane := queueOperand s [a, ⟨d, false⟩] 0
        let part := lane wn (queueOperand s [a, ⟨d, false⟩] 1) j
        (setField part k 1 (bit (plane.getLsbD j)) % 2 ^ codeWidth fn f, 0)),
      (.xmv g d a, [a], 2048, 2, fun _ => ((queueOperand s [a] 0).toNat, 0)),
      (.intl g f h d a b, [a, b], wf, 4, fun i => (if i % 2 = 0 then x2 (n / 2 * bit h + i / 2) else y2 (n / 2 * bit h + i / 2), 0)),
      (.dintl g f h d a b, [a, b], wf, 4, fun i => (half i, 0))] →
    formFault ins = none → QueuesReady s qs [d] → (ins = .bplx g f d a e ∨ ins = .bplm g f d a e → k < codeWidth fn f) →
    ∃ t, exec ins s = .next t ∧ LanesDone s t qs d w bound res

/-- R179, R184: SCLD loads eight scales from the scratchpad; LSEL moves a descriptor or a ring's configuration between a queue entry
and its register, a descriptor load leaving no pending mark (R231), a ring load zeroing the ring's state. -/
def Obligations.SelectLoads : Prop :=
  ∀ (s : State) (g : Guard), Ready s g → ∀ (d : SReg) (b : SReg) (dd : DReg) (gg : GReg) (q : QReg) (a : QSrc),
    let c := s.core s.turn
    let k := (c.s b).toNat
    (k % 8 = 0 → k + 8 ≤ c.spSize → c.scratchPoison = [] →
      ∃ t, exec (.scld g d b) s = .next t ∧ ScalarDone s t [] d (BitVec.ofNat 64 (ofBytes (c.spRead k 8))) 12 0) ∧
    (k ≤ 3 → QueuesReady s [a] [] →
      ∃ t, exec (.lselLdd g dd a b) s = .next t ∧ (t.core s.turn).d dd = (queueOperand s [a] 0).extractLsb' (512 * k) 512 ∧
        (t.core s.turn).regs.dpend.getLsbD dd.toNat = false ∧
        (∀ cy, (t.core s.turn).inFlight cy (.d dd.toNat) = decide (cy < s.clk + 2)) ∧ Popped s t [a] ∧
        Frame s t { regs := [.d dd.toNat], queues := [a.q] }) ∧
    (k ≤ 3 → QueuesReady s [] [q] →
      ∃ t, exec (.lselStd g q dd b) s = .next t ∧ LanesDone s t [] q 512 2 fun j => (if j = k then (c.d dd).toNat else 0, 0)) ∧
    (k ≤ 15 → QueuesReady s [a] [] → c.ringBusy gg.toNat = false →
      ∃ t, exec (.lselLdg g gg a b) s = .next t ∧
        (t.core s.turn).g gg = (((queueOperand s [a] 0).extractLsb' (128 * k) 64 &&& 0xBF00F000003FE000).zeroExtend 128) ∧
        (∀ cy, (t.core s.turn).inFlight cy (.g gg.toNat) = decide (cy < s.clk + 2)) ∧ Popped s t [a] ∧
        Frame s t { regs := [.g gg.toNat], queues := [a.q] }) ∧
    (k ≤ 15 → QueuesReady s [] [q] →
      ∃ t, exec (.lselStg g q gg b) s = .next t ∧ LanesDone s t [] q 128 2 fun j => (if j = k then (c.g gg).toNat else 0, 0))

/-- R185, R316: a SETFMT's image waits for the third bundle that follows; an NTREQ's result waits for its 24 bundles, takes the
next of the four targets in turn, and is null for a task without a tile source. -/
def Obligations.DelayedResults : Prop :=
  ∀ (s : State) (g : Guard), Ready s g → ∀ i : BitVec 17,
    let c := s.core s.turn
    (formFault (.setfmt g i) = none →
      ∃ t, exec (.setfmt g i) s = .next t ∧ (t.core s.turn).fmtPend = [(i, 3)] ∧ Frame s t {}) ∧
    ((∀ k, c.task = some k → k.tileSrc = 0) →
      ∃ t, exec (.ntreq g) s = .next t ∧
        (t.core s.turn).nt = [{ target := c.ntCount.toNat % 4, value := 0, null := true, left := 23 }] ∧
        (t.core s.turn).ntCount = c.ntCount + 1 ∧ Frame s t {}) ∧
    ∀ (k : Task) (pa : Nat), c.task = some k → k.tileSrc.toNat % 16 = 0 → k.tileSrc ≠ 0 → Reaches s .write k.tileSrc.toNat 16 pa →
      Untracked s pa → s.owned = [] →
      let next := coreNat s pa 8
      let limit := coreNat s (pa + 8) 8
      ∃ t, exec (.ntreq g) s = .next t ∧
        (t.core s.turn).nt = [{ target := c.ntCount.toNat % 4, value := if next < limit then BitVec.ofNat 64 next else 0,
                                null := decide (limit ≤ next), left := 23 }] ∧
        coreNat t pa 8 = (if next < limit then (next + 1) % 2 ^ 64 else next) ∧ (t.core s.turn).ntCount = c.ntCount + 1 ∧
        Frame s t { mem := fun x => pa ≤ x ∧ x < pa + 8 }

/-! ### The M slot -/

/-- R225, R226, R228: with no pass in flight, MZERO and MLOADC write every row of an accumulator, MWRITE one row, within their bounds;
MREAD pushes a row; MCSQ writes a control-sequence cell. -/
def Obligations.AccumulatorMoves : Prop :=
  ∀ (s : State) (g : Guard), Ready s g → (s.core s.turn).passes = [] → ∀ (d : AReg) (a b : SReg) (q : QReg) (v : QSrc) (n : BitVec 4),
    let c := s.core s.turn
    let k := (c.s a).toNat
    let open_ (t : State) (bound : Nat) : Prop := ∀ cy, (t.core s.turn).inFlight cy (.c d.toNat) = decide (cy < s.clk + bound)
    (∃ t, exec (.mzero g d) s = .next t ∧ (∀ r, r < 64 → (t.core s.turn).row d.toNat r = 0 ∧ (t.core s.turn).rowBad d.toNat r = false) ∧
      open_ t 4 ∧ Frame s t { regs := [.c d.toNat] }) ∧
    (k % 256 = 0 → k + 16384 ≤ c.spSize → c.scratchPoison = [] →
      ∃ t, exec (.mloadc g d a) s = .next t ∧ open_ t 64 ∧ Frame s t { regs := [.c d.toNat] } ∧
        ∀ r, r < 64 → (t.core s.turn).row d.toNat r = BitVec.ofNat 2048 (ofBytes (c.spRead (k + 256 * r) 256)) ∧
          (t.core s.turn).rowBad d.toNat r = false) ∧
    (k < 64 → QueuesReady s [v] [] →
      ∃ t, exec (.mwrite g d v a) s = .next t ∧ open_ t 8 ∧ Popped s t [v] ∧ Frame s t { regs := [.c d.toNat], queues := [v.q] } ∧
        (t.core s.turn).row d.toNat k = queueOperand s [v] 0 ∧
        ∀ r, r < 64 → r ≠ k → (t.core s.turn).row d.toNat r = c.row d.toNat r) ∧
    (k < 64 → c.rowBad d.toNat k = false → QueuesReady s [] [q] →
      ∃ t, exec (.mread g q d a) s = .next t ∧ PushDone s t [] q (c.row d.toNat k) 8 0) ∧
    ∃ t, exec (.mcsq g n a b) s = .next t ∧ Frame s t { cells := [n] } ∧
      vget 0 (t.core s.turn).regs.cseq n.toNat = BitVec.ofNat 64 ((c.s b).toNat % 2 ^ 32 * 2 ^ 32 + (c.s a).toNat % 2 ^ 32)

/-- R154, R220 to R223: a pass that finds its tiles takes them, as they stood when they became available, from its rings, the HEAD of each moving on and its counts falling unless the
operand keeps its tile; an MPASS starts at once and occupies the unit for its interval, an MPASSD waits for its B tile. -/
def Obligations.PassIssue : Prop :=
  ∀ (s : State) (g : Guard), Ready s g → (s.core s.turn).passes = [] → ∀ (f : Fmt) (seq : BitVec 4) (sat : Bool) (d : AReg) (a b : GSrc) (e : SReg),
    let c := s.core s.turn
    let full (x : GSrc) : Prop := c.ringBad (c.g x.g) = false ∧ ringFmt (c.g x.g) = codeOfFmt f ∧ 0 < ringResv (c.g x.g) ∧ 0 < ringAvail (c.g x.g)
    let taken (t : State) (x : GSrc) : Prop :=
      let old := c.g x.g
      let new := (t.core s.turn).g x.g
      if x.keep then new = old
      else ringHead new = (ringHead old + 1) % ringCap old ∧ ringResv new = ringResv old - 1 ∧ ringAvail new = ringAvail old - 1 ∧
        ringFin new = ringFin old ∧ new.extractLsb' 0 64 = old.extractLsb' 0 64
    let rows (x : GSrc) : List (BitVec 1024) := match Map.find c.tiles (16 * x.g.toNat + ringHead (c.g x.g)) with
      | some v => v.1
      | none => (List.range 64).map fun r =>
          BitVec.ofNat 1024 (ofBytes (c.spRead (ringBase (c.g x.g) + ringHead (c.g x.g) * 8192 + 128 * r) 128))
    let same (p : Pass) : Prop := p.fmt = f ∧ p.fmtn = (c.csrGet Csr.FMTN).toNat ∧ p.seq = vget 0 c.regs.cseq seq.toNat ∧ p.sat = sat ∧
      p.acc = d.toNat ∧ p.a = rows a
    (formFault (.mpass g f seq sat d a b) = none → full a → full b → c.matFree ≤ s.clk →
      ∃ t p, exec (.mpass g f seq sat d a b) s = .next t ∧ (t.core s.turn).passes = [p] ∧ same p ∧ p.b = some (rows b) ∧
        p.start = some s.clk ∧ (t.core s.turn).matFree = s.clk + passInterval c.fmtn f ∧ taken t a ∧ taken t b ∧
        Frame s t { regs := [.g a.g.toNat, .g b.g.toNat], parts := [.matrix] }) ∧
    ∀ pa : Nat → Nat, formFault (.mpassd g f seq sat d a e) = none → full a → (c.s e).toNat % 128 = 0 →
      (∀ i, i < 8192 → Reaches s .read (addr (c.s e).toNat i) 1 (pa i)) →
      ∃ t p, exec (.mpassd g f seq sat d a e) s = .next t ∧ (t.core s.turn).passes = [p] ∧ same p ∧ p.b = none ∧ p.start = none ∧
        p.bAt = (List.range 64).map (fun i => pa (128 * i)) ∧ taken t a ∧ Frame s t { regs := [.g a.g.toNat], parts := [.matrix] }

/-- R230, R231, R236, R237: a logical instruction whose shapes fit enters a node that keeps its operands' images, its rounding mode, its
maps and its parameter, and leaves the destination register PENDING and marked, at the lowest free node; nothing is computed. -/
def Obligations.LogicalNodes : Prop :=
  ∀ (s : State) (g : Guard), Ready s g → (s.core s.turn).berth.demand = none → ∀ (f : Fmt) (r : RM) (d a b : DReg) (e : SReg) (ins : Instr)
    (op fmt n : Nat) (second : Option DReg) (sh : Option Recipe) (pa : Nat → Nat),
    let c := s.core s.turn
    let x : Ctx := { s := s, c := s.turn, k := c, pos := 3 }
    let i := c.d a
    (ins, op, fmt, n, second, sh) ∈ [
      (.lmul g r d a b, 0, 0, 0, some b, shapeMul x (c.d d) i (c.d b)), (.ladd g r d a b, 1, 0, 0, some b, shapeAdd x (c.d d) i (c.d b)),
      (.lmap g r d a e, 2, 0, 0, none, shapeMap x (c.d d) i (c.s e)), (.lfilt g r d a e, 3, 0, 1, none, shapeFilt x (c.d d) i (c.s e)),
      (.lred g r d a e, 4, 0, 0, none, shapeRed x (c.d d) i (c.s e)), (.lgath g r d a b, 5, 0, 0, some b, shapeGath x (c.d d) i (c.d b)),
      (.lscat g r d a b, 6, 0, 0, some b, shapeScat x (c.d d) i (c.d b)), (.lcvt g f r d a, 7, codeOfFmt f, 0, none, shapeCvt x f (c.d d) i),
      (.lxpose g r d a e, 8, 0, 0, none, shapePose x (c.d d) i (c.s e)), (.lslice g r d a e, 9, 0, 6, none, shapeSlice x (c.d d) i (c.s e))] →
    (∀ m ∈ [d, a] ++ second.toList, s.descBad (c.d m) (c.regs.dpend.getLsbD m.toNat) = false ∧ descState (c.d m) = 0 ∧
      descMisaligned c.fmtn (c.d m) = false) →
    (n = 1 → (c.s e).toNat % 16 = 0) → (∀ j, j < n → Reaches s .read (addr (c.s e).toNat (8 * j)) 8 (pa j)) → sh.isSome = true →
    ∃ t nd, exec ins s = .next t ∧ (t.core s.turn).berth.nodes = [(0, nd)] ∧ some ⟨nd.maps, nd.param, nd.record⟩ = sh ∧
      (nd.op, nd.fmt, nd.sub, nd.seed) = (op, fmt, r, c.s 59) ∧ nd.dst = c.d d ∧ nd.a = i ∧ nd.b = (second.map c.d).getD 0 ∧ nd.pc = c.ir.cp ∧
      nd.seq = c.berth.seq ∧ (t.core s.turn).berth.seq = c.berth.seq + 1 ∧ (t.core s.turn).d d = descMark (c.d d) 1 0 ∧
      (t.core s.turn).regs.dpend.getLsbD d.toNat = true ∧ Frame s t { regs := [.d d.toNat], parts := [.berth] }

/-- R239, R240, R268, R438: a FORCE of a MATERIAL descriptor, over its whole extent or a region record's, demands nothing and commits; an LSTORE whose demand has completed leaves its
destination MATERIAL; both clear PHWORD and make the handle of the plan that ran the most recent one. -/
def Obligations.DemandCommits : Prop :=
  ∀ (s : State) (g : Guard), Ready s g → ∀ (r : RM) (d a : DReg) (e : SReg) (pa : Nat → Nat),
    let c := s.core s.turn
    let x : Ctx := { s := s, c := s.turn, k := c, pos := 7 }
    let good (m : DReg) : Prop := s.descBad (c.d m) (c.regs.dpend.getLsbD m.toNat) = false ∧ descState (c.d m) = 0 ∧
      descMisaligned c.fmtn (c.d m) = false
    (good d → (c.s e ≠ 0 → (∀ j, j < 6 → Reaches s .read (addr (c.s e).toNat (8 * j)) 8 (pa j)) ∧
        (x.regionOf (c.s e).toNat (s.extents (c.d d))).isSome = true) →
      ∃ t, exec (.force g d e) s = .next t ∧ (t.core s.turn).berth.last = (c.berth.forcedBy 0 c.ir.cp).getD 0 ∧
        (t.core s.turn).csrGet Csr.PHWORD = 0 ∧ Frame s t { csrs := [Csr.PHWORD] }) ∧
    ∀ h : BitVec 32, good d → good a → s.extents (c.d d) = s.extents (c.d a) → c.berth.forcedBy 1 c.ir.cp = some h →
      ∃ t, exec (.lstore g r d a) s = .next t ∧ (t.core s.turn).d d = descMark (c.d d) 0 0 ∧
        (t.core s.turn).regs.dpend.getLsbD d.toNat = false ∧ (t.core s.turn).berth.last = h ∧ (t.core s.turn).csrGet Csr.PHWORD = 0 ∧
        Frame s t { regs := [.d d.toNat], csrs := [Csr.PHWORD] }

/-- R251, R268, R269, R272: PHINT writes PHWORD, PPIN and PUNPIN set and clear the pin of the entry that a handle names, PPIN taking the
versions of its soundings, 0 for one that is not valid, PDROP drops that entry or every unpinned one, and PQUERY reads one of its three items. -/
def Obligations.PlanCache : Prop :=
  ∀ (s : State) (g : Guard), Ready s g → ∀ (a d : SReg) (i : Nat) (e : PlanEntry) (pb : Nat → Nat → Nat),
    let c := s.core s.turn
    let x := (c.s a).toNat
    let here := c.berth.current x = some (i, e)
    let cacheIs (t : State) (m : Map PlanEntry) : Prop := (t.core s.turn).berth.cache = m ∧ Frame s t { parts := [.berth] } ∧
      (t.core s.turn).berth.nodes = [] ∧ (t.core s.turn).berth.demand = c.berth.demand
    (x < 32 → x / 2 % 8 ≤ 4 → ∃ t, exec (.phint g a) s = .next t ∧ (t.core s.turn).csrGet Csr.PHWORD = c.s a ∧ Frame s t { csrs := [Csr.PHWORD] }) ∧
    (here → (e.pin = true ∨ c.berth.pinned < 56) →
      (∀ p ∈ e.soundings, p.1 ≠ 0 → ∀ o ∈ [0, 8, 16], Reaches s .read (addr (c.soundingVa p.1) o) 8 (pb p.1 o)) →
      ∃ t, exec (.ppin g a) s = .next t ∧ cacheIs t (Map.put c.berth.cache i { e with pin := true, soundings := e.soundings.map fun p =>
        (p.1, if p.1 = 0 ∨ bitAt (coreNat s (pb p.1 16) 8) 0 = false then 0 else BitVec.ofNat 64 (coreNat s (pb p.1 0) 8)) })) ∧
    (here → ∃ t, exec (.punpin g a) s = .next t ∧ cacheIs t (Map.put c.berth.cache i { e with pin := false })) ∧
    (here → ∃ t, exec (.pdrop g a) s = .next t ∧ cacheIs t (Map.erase c.berth.cache i)) ∧
    (x = 0 → ∃ t, exec (.pdrop g a) s = .next t ∧ cacheIs t (c.berth.cache.filter fun m => m.2.pin)) ∧
    (x = 0 → ∃ t, exec (.pquery g d a) s = .next t ∧ ScalarDone s t [] d (c.berth.last.zeroExtend 64) 8 0) ∧
    ∀ (node : Nat) (h : BitVec 32), node < 256 → c.berth.current h.toNat = some (i, e) →
      (x = 1 + h.toNat * 2 ^ 32 → ∃ t, exec (.pquery g d a) s = .next t ∧ ScalarDone s t [] d
        (BitVec.ofNat 64 (2 ^ 63 + bit e.pin * 2 ^ 62 + bit e.reassoc * 2 ^ 61 + bit e.rpl * 2 ^ 60 + bit e.ovr * 2 ^ 59 +
          e.choices.length % 256 * 2 ^ 48)) 8 0) ∧
      (x = 2 + node * 256 + h.toNat * 2 ^ 32 → ∃ t, exec (.pquery g d a) s = .next t ∧
        ScalarDone s t [] d (BitVec.ofNat 64 (e.choices.getD node 0)) 8 0)

/-- R249, R270, R271: PSTATR reads a doubleword of its tensor's sounding, 0 where the tensor has none; PSTAT.set replaces bytes 8 to 255
of the sounding by those of its record, PSTAT.scan by what the tensor's elements give, and both increment VERSION. -/
def Obligations.Soundings : Prop :=
  ∀ (s : State) (g : Guard), Ready s g → ∀ (d b : SReg) (a : DReg) (pa pz : Nat) (pb : Nat → Nat),
    let c := s.core s.turn
    let x : Ctx := { s := s, c := s.turn, k := c, pos := 3 }
    let k := (c.s b).toNat
    let v := c.d a
    let va := c.soundingVa (descSnd v)
    let good := s.descBad v (c.regs.dpend.getLsbD a.toNat) = false ∧ descMisaligned c.fmtn v = false
    let elems := x.scanElements v
    let written (t : State) (bs : List Byte) : Prop :=
      coreNat t pa 8 = (coreNat s pa 8 + 1) % 2 ^ 64 ∧ (∀ j, 8 ≤ j → j < 256 → t.byte (pa + j) = bs.getD (j - 8) 0) ∧
        Frame s t { mem := fun y => pa ≤ y ∧ y < pa + 256 }
    (good → k < 32 → descSnd v = 0 → ∃ t, exec (.pstatr g d a b) s = .next t ∧ ScalarDone s t [] d 0 8 0) ∧
    (good → k < 32 → descSnd v ≠ 0 → Reaches s .read (addr va (8 * k)) 8 pa →
      ∃ t, exec (.pstatr g d a b) s = .next t ∧ ScalarDone s t [] d (BitVec.ofNat 64 (coreNat s pa 8)) 8 0) ∧
    (good → descState v = 0 → descSnd v ≠ 0 → Reaches s .write va 256 pa → Untracked s pa → Untracked s (pa + 128) → s.owned = [] →
      (k % 8 = 0 → (∀ i, i < 31 → Reaches s .read (addr k (8 + 8 * i)) 8 (pb i)) → Reaches s .read (addr k 255) 1 pz →
        let bs := (List.range 31).flatMap fun i => toBytes 8 (coreNat s (pb i) 8)
        setBad bs = false → ∃ t, exec (.pstatSet g a b) s = .next t ∧ written t bs) ∧
      (firstFail elems = none → (Elt.of elems 0 0).bad = false → (Elt.of elems 0 0).lost = false →
        ∃ t free, exec (.pstatScan g a) s = .next t ∧
          written t (soundingBytes c.fmtn (descFmt v) (s.extents v) (elems.map (·.v)) free)))

/-- R227: with nothing else in the matrix unit, an MSTOREC converts the rows of its range as they stand at issue, with their seeds, and
hands them over to be written in ascending rows; its flags go with them. -/
def Obligations.AccumulatorStore : Prop :=
  ∀ (s : State) (g : Guard), Ready s g → (s.core s.turn).passes = [] → (s.core s.turn).mstores = [] →
    ∀ (f : Fmt) (r : RM) (d b : SReg) (a : AReg) (pa : Nat → Nat),
    let c := s.core s.turn
    let v := (c.s b).toNat
    let first := v % 64
    let n := v / 64 % 128
    let stride := signedOf 32 (v / 2 ^ 32)
    let va (i : Nat) : Nat := addAddr (c.s d).toNat (i * stride)
    let w := fmtWidth fmtn0 f
    let at32 (x i j : Nat) : Nat := laneOf 32 (c.row x i).toNat j
    let src : Fmt := if f = .f64 then .f64 else if fmtIsInt f then .int32 else .f32
    let bits (i j : Nat) : Nat :=
      if f = .f64 then at32 (a.toNat / 2 * 2) i j + at32 (a.toNat / 2 * 2 + 1) i j * 2 ^ 32 else at32 a.toNat i j
    let elt (i j : Nat) : Nat × Flags :=
      convert c.fmtn f r (bitAt v 31) (src = .int32) ⟨(c.s 59).toNat, j, first + i⟩ (valueOf c.fmtn src (bits (first + i) j))
    formFault (.mstorec g f r d a b) = none → field v 13 18 = 0 → 1 ≤ n → first + n ≤ 64 → (c.s d).toNat % 64 = 0 → stride % 64 = 0 →
    (∀ i, i < n → Reaches s .write (va i) 64 (pa i) ∧ va i % 65536 + 8 * w ≤ 65536 ∧
      ∀ x, c.rowBad x (first + i) = false) →
    ∃ t m, exec (.mstorec g f r d a b) s = .next t ∧ (t.core s.turn).mstores = [m] ∧ (t.core s.turn).passes = [] ∧
      m.writes = (List.range n).map (fun i => (pa i, toBytes (8 * w) (ofLanes w 64 fun j => (elt i j).1), false)) ∧
      (∀ k, m.flags.getLsbD k = (List.range n).any fun i => (List.range 64).any fun j => (elt i j).2.getLsbD k) ∧
      m.va = c.s d ∧ m.pc = c.ir.cp ∧ Frame s t { parts := [.matrix] }

/-! ### The C slots -/

/-- R144, R150, R152 to R161: a copy-engine instruction that meets no fault queues its request with its engine, with its operands,
s59, VMROOT, FMTN and its link group as they stand at issue, and does nothing else; an RPUSH also reserves the next slot of its ring. -/
def Obligations.CopyRequests : Prop :=
  ∀ (s : State) (g : Guard), Ready s g → ∀ (e : Bool) (sg : Signal) (sp ntc : Bool) (sc : Scope) (m op : BitVec 2) (r : RM) (d a b : SReg)
    (dd da : DReg) (gg : GReg),
    let c := s.core s.turn
    let x (n : SReg) : Nat := (c.s n).toNat
    let hi (v : Nat) : Int := signedOf 32 (v / 2 ^ 32)
    let lo (v : Nat) : Int := signedOf 32 (v % 2 ^ 32)
    let p := x (b + 1)
    let coll (k : Nat) : ReqOp :=
      .coll k (field (x b) 60 4) (field (x b) 54 6) (field (x b) 52 2) (field (x b) 46 6) (field (x b) 32 14) (field (x b) 0 32) (x d) (x a)
    let queued (t : State) (o : ReqOp) : Prop :=
      (t.core s.turn).eng e = { c.eng e with reqs := (c.eng e).reqs ++ [Req.ofGroup s
        { op := o, sg := sg, pc := c.ir.cp, root := c.csrGet Csr.VMROOT, seed := c.s 59, fmtn := (c.csrGet Csr.FMTN).toNat,
          ticket := c.tickets, born := s.histNext }] } ∧
      (t.core s.turn).eng (!e) = c.eng (!e) ∧ (t.core s.turn).tickets = c.tickets + 1
    (c.eng e).reqs.length < 32 →
    (∀ (ins : Instr) (o : ReqOp), (ins, o) ∈ [
      (.cpy g e sg m d a b, .copy 1 m.toNat 1 (x b) (x d) (x a) 0 0),
      (.cpyw g e sg m d a b, .copy 2 m.toNat (x b / 2 ^ 32) (x b % 2 ^ 32) (x d) (x a) (hi p) (lo p)),
      (.cpyt g e sg r dd da b, .tensor (c.d dd) (c.d da) r (x b)),
      (.ldblk g e sg ntc d a b, .ldblk (x d) (x a) (x b) ntc), (.wbblk g e sg d, .wbblk (x d)), (.evblk g e sg d, .evblk (x d)),
      (.gath g e sg sp d a b, .gath sp (x d) (x a) (x b) (field p 62 2) (field p 52 4) (field p 0 32)),
      (.scat g e sg sp d a b, .scat sp (x d) (x a) (x b) (field p 62 2) (field p 52 4) (field p 0 32)),
      (.scata g e sg sc op sp d a b, .scata sp op.toNat (x d) (x a) (x b) (field p 62 2) (field p 56 6) (field p 0 32)),
      (.red g e sg sc op sp d a b, .red sp op.toNat (x d) (x a) (field (x b) 58 6) (field (x b) 0 32)),
      (.collAg g e sg d a b, coll 0), (.collRs g e sg d a b, coll 1), (.collAr g e sg d a b, coll 2), (.collBc g e sg d a b, coll 3),
      (.collA2a g e sg d a b, coll 4),
      (.send g e sg sp d a b, .send sp (field (x d) 60 4) (field (x d) 54 6) (field (x d) 40 14) (x a) (x b)),
      (.recv g e sg sp d a b, .recv sp (field (x d) 60 4) (field (x d) 54 6) (field (x d) 40 14) (x a) (x b))] →
      formFault ins = none → ChecksPass ins s → ∃ t, exec ins s = .next t ∧ queued t o ∧ Frame s t { parts := [.engines] }) ∧
    let ring := c.g gg
    formFault (.rpush g e sg sp gg a b) = none → ChecksPass (.rpush g e sg sp gg a b) s →
      ∃ t, exec (.rpush g e sg sp gg a b) s = .next t ∧
        queued t (.rpush gg.toNat ((ringHead ring + ringResv ring) % ringCap ring) (x a) (c.s b).toInt sp (ringFmt ring)) ∧
        (t.core s.turn).g gg = BitVec.ofNat 128 (setField ring.toNat 96 5 (ringResv ring + 1)) ∧
        Frame s t { regs := [.g gg.toNat], parts := [.engines] }

/-! ### The W slot -/

/-- R61, R305, R307, R308: the transfers go to their targets when they are taken, spend two further cycles, and write nothing but the
return pointer of CALL and the counter of LOOP, each within a bound of 1. -/
def Obligations.Transfers : Prop :=
  ∀ (s : State) (g : Guard), (Ready s g ∨ Tending s g) → ∀ (i : BitVec 17) (p : PReg) (a d : SReg),
    let c := s.core s.turn
    let target := (c.ir.cp &&& ~~~1#64) + i.signExtend 64
    let taken (t : State) (w : Writes) (v : Word64) : Prop := FrameTo s t w v ∧ (t.core s.turn).stall = 2
    (∃ t, exec (.br g i) s = .next t ∧ taken t {} target) ∧
    (∃ t, exec (.brp g p i) s = .next t ∧ if c.p p then taken t {} target else Frame s t {}) ∧
    (∃ t, exec (.bri g a) s = .next t ∧ taken t {} (c.s a)) ∧
    (∃ t, exec (.ret g a) s = .next t ∧ taken t {} (c.s a)) ∧
    (∃ t, exec (.call g d i) s = .next t ∧ ScalarLands s t d c.ir.next 1 ∧ taken t { regs := [.s d.toNat] } target) ∧
    ∃ t, exec (.loop g a i) s = .next t ∧ ScalarLands s t a (c.s a - 1) 1 ∧
      if c.s a = 1 then Frame s t { regs := [.s a.toNat] } else taken t { regs := [.s a.toNat] } target

/-- R309, R315, R317, R366: WAIT commits once its semaphore has reached its threshold, WAIT.con taking the threshold from it; NRET gives
s48 to s55 and the held words back and goes to the saved pointer; TRAP leaves BREAK with its code to the boundary; CROPEN opens a
containment region with its handler, CRCLOSE closes the innermost. -/
def Obligations.TaskControl : Prop :=
  ∀ (s : State) (g : Guard), Ready s g → ∀ (w : WReg) (a : SReg) (k : BitVec 8) (i : BitVec 17),
    let c := s.core s.turn
    let th := (c.s a).truncate 32
    (th.toNat ≤ (c.w w).toNat → ∃ t, exec (.wait g w a) s = .next t ∧ Frame s t {}) ∧
    (th.toNat ≤ (c.w w).toNat → ∃ t, exec (.waitCon g w a) s = .next t ∧ (t.core s.turn).w w = c.w w - th ∧ Frame s t { sems := [w] }) ∧
    (c.notice.running = true → ∃ t, exec (.nret g) s = .next t ∧
      (∀ j, j < 8 → (t.core s.turn).sNat (48 + j) = c.notice.shadow.getD j 0) ∧ (t.core s.turn).main.hold = c.notice.hold ∧
      (t.core s.turn).notice.running = false ∧
      (t.core s.turn).contain.segCount = c.notice.segCount ∧ (t.core s.turn).contain.segSig = c.notice.segSig ∧
      FrameTo s t { regs := (List.range 8).map fun j => .s (48 + j), parts := [.notice] } c.notice.saved) ∧
    (∃ t, exec (.trap g k) s = .next t ∧ (t.core s.turn).pend.brk = some k ∧ Frame s t {}) ∧
    (c.contain.regions.length < 8 → ∃ t, exec (.cropen g i) s = .next t ∧ Frame s t { parts := [.regions] } ∧
      (t.core s.turn).contain.regions = c.contain.regions ++
        [{ handler := (c.ir.cp &&& ~~~1#64) + i.signExtend 64, inNotice := c.notice.running }]) ∧
    (c.contain.regions ≠ [] → ∃ t, exec (.crclose g) s = .next t ∧ Frame s t { parts := [.regions] } ∧
      (t.core s.turn).contain.regions = c.contain.regions.dropLast)

/-- R165, R311: SEMADD adds the low 32 bits of its scalar to a semaphore of the issuing core, modulo 2^32.
R162, R163: SLOTQ reads the window index or an entry of the slot table of its die within a bound of 16.
R171: GROW allots queues, the new ones empty, and never fewer than before; SHRINK takes queues away with what they hold, and never
adds any. -/
def Obligations.SmallStateChanges : Prop :=
  (∀ (s : State) (g : Guard), (Ready s g ∨ Tending s g) → ∀ (w : WReg) (a : SReg),
    ∃ t, exec (.semadd g w a) s = .next t ∧
      (t.core s.turn).w w = (s.core s.turn).w w + ((s.core s.turn).s a).truncate 32 ∧ Frame s t { sems := [w] }) ∧
  (∀ (s : State) (g : Guard), Ready s g → ∀ (e : Bool) (d a : SReg),
    let n := ((s.core s.turn).s a).toNat
    n ≤ 64 → formFault (.slotq g e d a) = none → ∃ t, exec (.slotq g e d a) s = .next t ∧
      ScalarDone s t [] d (if n = 64 then BitVec.ofNat 64 (s.clk / 32 % 64) else s.ctlGet (Ctl.SLOTTAB (s.turn / 40) n)) 16 0) ∧
  (∀ (s : State) (g : Guard), Ready s g → ∀ i : BitVec 17,
    let c := s.core s.turn
    let all : List QReg := (List.range 64).map fun n => BitVec.ofNat 6 n
    (formFault (.grow g i) = none → ∃ t, exec (.grow g i) s = .next t ∧ (t.core s.turn).qallot = max c.qallot i.toNat ∧
      (∀ q : QReg, (t.core s.turn).q q = if c.qallot < i.toNat ∧ c.qallot ≤ q.toNat then [] else c.q q) ∧
      Frame s t { queues := all, csrs := [Csr.QALLOT] }) ∧
    (formFault (.shrink g i) = none → (∀ (q : QReg), ∀ e ∈ c.q q, e.landed = true ∨ e.due ≤ s.clk) →
      ∃ t, exec (.shrink g i) s = .next t ∧ (t.core s.turn).qallot = min c.qallot i.toNat ∧
        (∀ q : QReg, (t.core s.turn).q q = if i.toNat < c.qallot ∧ i.toNat ≤ q.toNat then [] else c.q q) ∧
        Frame s t { queues := all, csrs := [Csr.QALLOT] }))

/-- R318: with system calls served and none of the core's unanswered, SYSC writes the request line of the core, its sequence number
one more than the last, and sets the core's bit of XPEND.
R319, R350, R351, R353: HALT saves the context at CTXBASE as CTXSV does, or where CTXBASE names no place keeps it with the core, its
load-blocks gone; the core no longer issues; YIELD asks for the boundary when a
pre-emption is pending, and changes nothing when there is nothing to yield to. -/
def Obligations.SystemCallHaltYield : Prop :=
  (∀ (s : State) (g : Guard), Ready s g → ∀ (w : WReg) (a : SReg),
    let c := s.core s.turn
    let line := field (s.ctlGet Ctl.SYSCBASE).toNat 16 36 * 65536 + 128 * s.turn
    let word (i : Nat) : Nat :=
      if i = 0 then (c.s a).toNat else if i ≤ 12 then (c.sNat i).toNat else if i = 13 then c.ir.next.toNat
      else if i = 14 then (s.logicalOf s.turn).getD 0 + w.toNat * 2 ^ 16 else (c.syscSeq + 1).toNat
    bitAt (s.ctlGet Ctl.SYSCBASE).toNat 0 = true → c.syscOpen = false → s.owned = [] → s.wordPoison = [] → s.sectorPoison = [] →
    Untracked s line →
    ∃ t, exec (.sysc g w a) s = .next t ∧ (∀ i, i < 16 → t.natAt (line + 8 * i) 8 = word i) ∧
      (t.core s.turn).syscSeq = c.syscSeq + 1 ∧ (t.core s.turn).syscOpen = true ∧
      (t.ctlGet (Ctl.XPEND 0 (s.turn / 64))).getLsbD (s.turn % 64) = true ∧
      Frame s t { mem := fun x => line ≤ x ∧ x < line + 128, ctls := [Ctl.XPEND 0 (s.turn / 64)], parts := [.sent] }) ∧
  (∀ (s : State) (g : Guard), Ready s g →
    let c := s.core s.turn
    let va := (c.csrGet Csr.CTXBASE).toNat
    let size := imageSize (c.spSize / 262144)
    (Drained s s.turn → s.owned = [] → s.haltPages s.turn = none → ∃ t, exec (.halt g) s = .next t ∧ (t.core s.turn).blocks = [] ∧
      (t.core s.turn).task = c.task.map (fun k => { k with halted := true }) ∧ Frame s t { parts := [.blocks, .task] }) ∧
    (∀ (k : Task) (pa : Nat → Nat), c.task = some k → va ≠ 0 → ImageAt s va size pa → Drained s s.turn → s.owned = [] →
      (∀ x y, c.rowBad x y = false) → c.scratchPoison = [] → (∀ q : QReg, (c.q q).length ≤ 4 ∧ ∀ e ∈ c.q q, e.poison = false) → k.header = 0 →
      ∃ t, exec (.halt g) s = .next t ∧ ImageOf t pa { c with main := { pc := c.ir.next, hold := c.heldWords } } ∧
        imageNat t pa 0 8 = 1 ∧ imageNat t pa 8 8 = c.ir.next.toNat ∧ imageNat t pa 0x18 8 = 0 ∧
        (t.core s.turn).task = some { k with halted := true, header := pa 0 } ∧ (t.core s.turn).savedTask.map SavedTask.image = some (pa 0) ∧
        ∀ y, (∀ o, o < size → o % 128 = 0 → ¬(pa o ≤ y ∧ y < pa o + 128)) → t.byte y = s.byte y) ∧
    ∃ t, exec (.yield g) s = .next t ∧ (c.pend.preempt.isSome = true → (t.core s.turn).pend.preemptNow = true) ∧
      (c.pend.preempt = none → s.graphs = [] → s.saved = [] → s.snap.phase ≠ 1 → (t.core s.turn).pend.preempt = none ∧
        (t.core s.turn).pend.preemptNow = c.pend.preemptNow ∧ (t.core s.turn).pend.cutNow = c.pend.cutNow) ∧
      (c.berth.demand = none → Frame s t {}))

/-- R319, R325: a TASKEND with nothing left to wait for frees the core and completes its node; the graph's node whose counter reaches 0
becomes ready, and the graph ends when every node of it is complete. -/
def Obligations.TaskEnds : Prop :=
  ∀ (s : State) (g : Guard), Ready s g → ∀ (k : Task) (x : Graph) (n : TNode),
    let c := s.core s.turn
    let done := Ctl.LNSTAT (bit x.port)
    c.task = some k → s.graph k.graph = some x → Map.find x.nodes k.node = some n → x.nodes.Pairwise (fun m m' => m.1 < m'.1) →
    c.passes = [] → c.mstores = [] → s.taskReqs s.turn false = [] → s.taskReqs s.turn true = [] → s.owned = [] → n.signal = none →
    (∀ h ∈ s.holds, ¬(h.tenant = k.tenant ∧ h.graph = k.graph ∧ h.node = k.node)) → x.failed = false → k.node < x.count →
    ∃ t, exec (.taskend g) s = .next t ∧ (t.core s.turn).task = none ∧ ModuleKept s t { ctls := [done], parts := [.graphs, .sent] } ∧
      ((∀ m ∈ x.nodes, m.1 = k.node ∨ m.2.state = 3) →
        t.graph k.graph = none ∧ t.ctlGet done = BitVec.ofNat 64 (setField (s.ctlGet done).toNat 0 32 (field (s.ctlGet done).toNat 0 32 + 1))) ∧
      (∀ (j : Nat) (m : TNode), s.successors n.record = [j] → j ≠ k.node → Map.find x.nodes j = some m → m.state = 0 →
        ∃ y n' m', t.graph k.graph = some y ∧ Map.find y.nodes k.node = some n' ∧ n'.state = 3 ∧ Map.find y.nodes j = some m' ∧
          m'.counter = m.counter - 1 ∧ m'.state = if m.counter = 1 then 1 else 0)

/-- R336: a SPAWN adds the node that its record describes to the graph of its task, ready at once, at no higher a priority than the
task's, with the semaphore that it signals. -/
def Obligations.Spawning : Prop :=
  ∀ (s : State) (g : Guard), Ready s g → ∀ (sig : Bool) (w : WReg) (a : SReg) (k : Task) (x : Graph) (pa : Nat),
    let c := s.core s.turn
    let r := BitVec.ofNat 2048 (coreNat s pa 256)
    let i := x.count + x.spawned
    let act := s.activeCores x.tenant
    formFault (.spawn g sig w a) = none → c.task = some k → s.graph k.graph = some x → s.owned = [] → c.mstores = [] →
    (∀ p ∈ c.passes, p.b.isSome = true) → Reaches s .read (c.s a).toNat 256 pa → spawnOk r = true →
    ∃ t y m, exec (.spawn g sig w a) s = .next t ∧ t.graph k.graph = some y ∧ y.spawned = x.spawned + 1 ∧ Map.find y.nodes i = some m ∧
      m = { record := r, counter := 0, state := 1, since := s.tframe x.tenant, cap := k.prio, after := m.after,
            home := if act = [] then none else act[homeIndex r act.length]?, signal := if sig then some (s.turn, w.toNat) else none } ∧
      (∀ j, j ≠ i → Map.find y.nodes j = Map.find x.nodes j) ∧ (∀ h, h ≠ k.graph → t.graph h = s.graph h) ∧ t.saved = s.saved ∧
      Frame s t { parts := [.graphs] }

/-- R337: ENQ appends to a hardware queue of its tenant that has room, on the die while its extension holds nothing; DEQ takes the oldest
value within a bound of 8, and the oldest of the extension moves up. -/
def Obligations.HardwareQueues : Prop :=
  ∀ (s : State) (g : Guard), Ready s g → ∀ (a b d : SReg),
    let c := s.core s.turn
    let n := (c.s a).toNat
    let q := s.hwQueue n
    let cfg := (s.ctlGet (Ctl.HWQCFG n)).toNat
    let ext := 2 ^ field cfg 49 5
    let place (i : Nat) : Nat := field cfg 0 40 * 4096 + 8 * (i % ext)
    n < 64 → bitAt cfg 63 = true → field cfg 55 8 = s.tenantNow s.turn →
    (q.die.length < 64 → q.extCount = 0 → ∃ t, exec (.enq g a b) s = .next t ∧ t.hwQueue n = { q with die := q.die ++ [c.s b] } ∧
      (∀ m, m ≠ n → t.hwQueue m = s.hwQueue m) ∧ Frame s t { parts := [.queues] }) ∧
    ((64 ≤ q.die.length ∨ q.extCount ≠ 0) → bitAt cfg 54 = true → q.extCount < ext → s.wordPoison = [] → s.sectorPoison = [] →
      Untracked s (place (q.extHead + q.extCount)) →
      let p := place (q.extHead + q.extCount)
      ∃ t, exec (.enq g a b) s = .next t ∧ t.hwQueue n = { q with extCount := q.extCount + 1 } ∧ t.natAt p 8 = (c.s b).toNat ∧
        (∀ m, m ≠ n → t.hwQueue m = s.hwQueue m) ∧ Frame s t { mem := fun y => p ≤ y ∧ y < p + 8, parts := [.queues] }) ∧
    ∀ (v : Word64) (vs : List Word64), q.die = v :: vs →
      ∃ t, exec (.deq g d a) s = .next t ∧ ScalarLands s t d v 8 ∧ (∀ m, m ≠ n → t.hwQueue m = s.hwQueue m) ∧
        t.hwQueue n = (if q.extCount = 0 then { q with die := vs } else
          { die := vs ++ [BitVec.ofNat 64 (s.natAt (s.hwExtAt n q.extHead) 8)], extHead := (q.extHead + 1) % s.hwExt n, extCount := q.extCount - 1 }) ∧
        Frame s t { regs := [.s d.toNat], parts := [.queues] }

/-- R383, R384: SNAP in a task of the job starts the next epoch when the module is idle, and its core cuts at the next boundary. -/
def Obligations.SnapStarts : Prop :=
  ∀ (s : State) (g : Guard), Ready s g → s.snapOn = true → s.tenantNow s.turn = s.snapTenant → s.snap.phase ≠ 2 →
    let next := ((s.core s.turn).csrGet Csr.SNAPEP).toNat + 1
    ∃ t, exec (.snap g) s = .next t ∧ (t.core s.turn).pend.cutNow = true ∧
      (s.snap.phase = 0 → t.snap.phase = 1 ∧ t.snap.epoch = next ∧ t.snap.moduleCut = false ∧ t.snap.cur.epoch = next ∧
        CoreKept (s.core s.turn) (t.core s.turn) {} ∧ PassedTo s t (s.core s.turn).ir.next ∧ t.mem = s.mem) ∧
      (s.snap.phase ≠ 0 → t.snap = s.snap ∧ Frame s t {})

/-- R298 to R301: a FENCE whose range no live node of the berth table meets, and which finds nothing left to wait for, commits in either
pipeline; with CORE or TELLER in A it sends home the words that its core owns in the range, so that the CORE order of memory is as it was; with
CORE or TELLER in B the core's logical time moves on.
R38, R61: a NOP, and every slot instruction whose guard leaves it inactive, change nothing but the code pointer; an inactive one
must still name only queues that are allotted (R78 order 8). -/
def Obligations.FencesAndIdleSlots : Prop :=
  (∀ (s : State) (g : Guard), (Ready s g ∨ Tending s g) → ∀ (ca cb : BitVec 7) (a d : SReg),
    let c := s.core s.turn
    let lo := (c.s a).toNat
    let len := (c.s d).toNat
    let coreIn (m : BitVec 7) : Bool := m.getLsbD 0 || m.getLsbD 5
    let inRange (w : Nat) : Bool := (s.physRanges s.turn (c.csrGet Csr.VMROOT) (decide (c.level ≠ 0)) lo len).any fun r => r.1 < 4 * w + 4 && 4 * w ≤ r.2
    let goes (e : Nat × OwnedWord) : Bool := coreIn ca && e.2.owner = s.turn && inRange e.1
    formFault (.fence g ca cb a d) = none → (len = 0 ∨ (vaValid lo = true ∧ lo + len ≤ 2 ^ 64 ∧ vaValid (lo + len - 1) = true)) →
    c.berth.demand = none → (ca.getLsbD 3 = true → c.mstores = []) →
    (s.owned.map Prod.fst).Nodup → s.wordPoison = [] → s.sectorPoison = [] → bitAt (s.ctlGet Ctl.PSTBASE).toNat 0 = false →
    ∃ t, exec (.fence g ca cb a d) s = .next t ∧ t.owned = s.owned.filter (fun e => !goes e) ∧ (∀ y, t.coreByte y = s.coreByte y) ∧
      (t.core s.turn).ltime = (if coreIn cb then c.ltime + 1 else c.ltime) ∧
      ((∀ e ∈ s.owned, goes e = true → e.1 * 4 / 128 ∉ s.codeLines) →
        Frame s t { mem := fun y => ∃ e ∈ s.owned, goes e = true ∧ y / 4 = e.1, parts := [.clock, .owned] })) ∧
  (∀ s : State, Quiet s →
    (∃ t, exec .nop s = .next t ∧ (t.core s.turn).windows = [] ∧ Frame s t {}) ∧
    ∀ (ins : Instr) (sl : Slot), slotOf ins = some sl → formFault ins = none → (s.core s.turn).level = 0 → sl.priv = false →
      (s.core s.turn).proves sl.guard = false → (∀ n ∈ sl.qs.map (·.q) ++ sl.push, n.toNat < (s.core s.turn).qallot) →
      ∃ t, exec ins s = .next t ∧ (t.core s.turn).windows = [] ∧ Frame s t {})

/-! ### The tender -/

/-- R57, R347, R435: ERET goes down one level, to the pointer that the level's records hold, with the held words that the lower level had, the
positions of TSKIP inactive in the resumed bundle; a tender whose core holds no context hands the task that it saved to the dispatcher. -/
def Obligations.ReturnFromTrap : Prop :=
  ∀ (s : State) (g : Guard), Tending s g →
    let c := s.core s.turn
    (c.level = 2 → ∃ t, exec (.eret g) s = .next t ∧ (t.core s.turn).level = 1 ∧ (t.core s.turn).tender = { pc := c.csrGet Csr.TPC2, hold := c.lowHold } ∧
      (t.core s.turn).main = c.main ∧ CoreKept c (t.core s.turn) { parts := [.level] } ∧ ModuleKept s t {}) ∧
    (c.level = 1 → c.task.isSome = true → ∃ t, exec (.eret g) s = .next t ∧ (t.core s.turn).level = 0 ∧
      (t.core s.turn).main = { c.main with pc := c.csrGet Csr.TPC } ∧ (t.core s.turn).skip = (c.csrGet Csr.TSKIP).truncate 8 ∧
      CoreKept c (t.core s.turn) { parts := [.level] } ∧ ModuleKept s t {}) ∧
    (c.level = 1 → c.task = none → ∃ t, exec (.eret g) s = .next t ∧ (t.core s.turn).level = 0 ∧ (t.core s.turn).task = none ∧
      (t.core s.turn).savedTask = none ∧ t.saved = s.saved ++ c.savedTask.toList ∧ t.graphs = s.graphs ∧ ModuleKept s t { parts := [.graphs] })

/-- R351, R353: CTXSV of a drained core writes its context where R353 lays it, with the header's format, the saved pointer and cause and
no owner, and leaves the main pipeline without a context; of memory it writes the image alone. -/
def Obligations.ContextSave : Prop :=
  ∀ (s : State) (g : Guard), Tending s g → ∀ (a : SReg) (k : Task) (pa : Nat → Nat),
    let c := s.core s.turn
    let va := (if c.s a = 0 then c.csrGet Csr.CTXBASE else c.s a).toNat
    let size := imageSize (c.spSize / 262144)
    c.task = some k → ImageAt s va size pa → Drained s s.turn → s.owned = [] → (∀ x y, c.rowBad x y = false) → c.scratchPoison = [] →
    (∀ q : QReg, (c.q q).length ≤ 4 ∧ ∀ e ∈ c.q q, e.poison = false) → k.header = 0 →
    ∃ t, exec (.ctxsv g a) s = .next t ∧ ImageOf t pa c ∧ imageNat t pa 0 8 = 1 ∧ imageNat t pa 8 8 = (c.csrGet Csr.TPC).toNat ∧
      imageNat t pa 0x10 8 = (c.csrGet Csr.TCAUSE).toNat ∧ imageNat t pa 0x18 8 = 0 ∧
      (t.core s.turn).task = none ∧ (t.core s.turn).savedTask = some ({
        core := s.turn, image := pa 0, va := BitVec.ofNat 64 va, root := c.csrGet Csr.VMROOT, task := k,
        ready := decide ((c.csrGet Csr.TCAUSE).toNat % 256 = 0x20) } : SavedTask) ∧
      (∀ y, (∀ o, o < size → o % 128 = 0 → ¬(pa o ≤ y ∧ y < pa o + 128)) → t.byte y = s.byte y) ∧ PassedTo s t c.ir.next

/-- R352, R354: CTXLD of a complete, unowned image with no live node restores into an empty core the context that the image holds, makes
the core the image's owner, and writes nothing else of memory. -/
def Obligations.ContextRestore : Prop :=
  ∀ (s : State) (g : Guard), Tending s g → ∀ (a : SReg) (pa : Nat → Nat),
    let c := s.core s.turn
    let va := (if c.s a = 0 then c.csrGet Csr.CTXBASE else c.s a).toNat
    let spad := imageNat s pa 0x400 8 % 16
    s.turn < 320 → c.task = none → ImageAt s va (imageSize spad) pa → s.owned = [] → imageNat s pa 0 8 % 2 ^ 40 = 1 → imageNat s pa 0x18 8 = 0 →
    (∀ i, i < 4 → imageNat s pa (0x30 + 8 * i) 8 = 0) → (∀ n, n < 32 → imageNat s pa (0xC08 + 64 * n) 8 / 16 % 4 ≠ 1) →
    ∃ t k, exec (.ctxld g a) s = .next t ∧ ImageOf s pa (t.core s.turn) true ∧ (t.core s.turn).main.pc = BitVec.ofNat 64 (imageNat s pa 8 8) ∧
      (t.core s.turn).task = some k ∧ k.header = pa 0 ∧ (t.core s.turn).level = c.level ∧ (t.core s.turn).berth.nodes = [] ∧
      imageNat t pa 0x18 8 = s.turn + 1 ∧ (∀ y, ¬(pa 0 + 24 ≤ y ∧ y < pa 0 + 32) → t.byte y = s.byte y) ∧ PassedTo s t c.ir.next

/-- R373 to R375: SCAN starts the pattern on a free core, with its record's place and its semaphore; LCMAPW replaces an entry of the
logical map. -/
def Obligations.FieldTest : Prop :=
  ∀ (s : State) (g : Guard), Tending s g → ∀ (w : WReg) (a b : SReg) (pa : Nat),
    let c := s.core s.turn
    let n := (c.s a).toNat
    (n < 320 → n ≠ s.turn → Reaches s .write (c.s b).toNat 32 pa → Untracked s pa → (s.core n).ownTask = none → (∀ x ∈ s.scans, x.target ≠ n) →
      ∃ t, exec (.scan g w a b) s = .next t ∧ Frame s t {} ∧
        t.scans = s.scans ++ [{ target := n, core := s.turn, sem := w.toNat, record := pa, started := s.clk, ticket := c.tickets, va := c.s b, pc := c.ir.cp }]) ∧
    (n < 320 → s.lcmapBad n (c.s b) = false →
      ∃ t, exec (.lcmapw g a b) s = .next t ∧ t.ctlGet (Ctl.LCMAP n) = c.s b &&& 0x80000000000001FF ∧
        Frame s t { ctls := [Ctl.LCMAP n], parts := [.graphs] })

/-! ### Routines at the home slices -/

/-- R281 to R283: an instruction of a running routine that is not its last writes its holding register with the value of its entry,
ORs its flags into the status, and does nothing else. -/
def Obligations.RoutineResults : Prop :=
  ∀ (s : State) (t : TellerRun), s.teller = some t → 1 < t.code.length → ∀ (d a b c : BitVec 3) (i : BitVec 13) (ins : Instr)
    (v : Word64) (fl : Flags),
    let h (n : BitVec 3) : Word64 := vget 0 t.h n.toNat
    let x := h a
    let y := h b
    let z := i.signExtend 64
    let is (p : Prop) [Decidable p] : Word64 := if p then 1 else 0
    let fm : Fmt := if c = 0 then .f64 else if c = 1 then .f32 else .bf16
    let low (w : Word64) : Nat := w.toNat % 2 ^ fmtWidth fmtn0 fm
    let sum := finish fm .rne false ⟨0, 0, 0⟩ (addExact .rne (valueOf fmtn0 fm (low x)) (valueOf fmtn0 fm (low y)))
    let clamp (lo hi v : Int) : Word64 × Flags := (BitVec.ofInt 64 (max lo (min hi v)), if lo ≤ v ∧ v ≤ hi then 0 else 0x20)
    let sat : Word64 × Flags :=
      if c = 0 then clamp (-2 ^ 7) (2 ^ 7 - 1) x.toInt else if c = 1 then clamp (-2 ^ 15) (2 ^ 15 - 1) x.toInt
      else if c = 2 then clamp (-2 ^ 31) (2 ^ 31 - 1) x.toInt else if c = 3 then clamp 0 (2 ^ 8 - 1) x.toNat
      else if c = 4 then clamp 0 (2 ^ 16 - 1) x.toNat else clamp 0 (2 ^ 32 - 1) x.toNat
    (ins, v, fl) ∈ [
      (.tellerAdd d a b, x + y, 0), (.tellerAddImm d a i, x + z, 0), (.tellerSub d a b, x - y, 0), (.tellerSubImm d a i, x - z, 0),
      (.tellerAnd d a b, x &&& y, 0), (.tellerAndImm d a i, x &&& z, 0), (.tellerOr d a b, x ||| y, 0), (.tellerOrImm d a i, x ||| z, 0),
      (.tellerXor d a b, x ^^^ y, 0), (.tellerXorImm d a i, x ^^^ z, 0),
      (.tellerShl d a b, x <<< (y.toNat % 64), 0), (.tellerShlImm d a i, x <<< (z.toNat % 64), 0),
      (.tellerShrl d a b, x >>> (y.toNat % 64), 0), (.tellerShrlImm d a i, x >>> (z.toNat % 64), 0),
      (.tellerShra d a b, x.sshiftRight (y.toNat % 64), 0), (.tellerShraImm d a i, x.sshiftRight (z.toNat % 64), 0),
      (.tellerMin d a b, if x.toInt ≤ y.toInt then x else y, 0), (.tellerMinImm d a i, if x.toInt ≤ z.toInt then x else z, 0),
      (.tellerMax d a b, if x.toInt ≤ y.toInt then y else x, 0), (.tellerMaxImm d a i, if x.toInt ≤ z.toInt then z else x, 0),
      (.tellerMinn d a b, if x.toNat ≤ y.toNat then x else y, 0), (.tellerMinnImm d a i, if x.toNat ≤ z.toNat then x else z, 0),
      (.tellerMaxn d a b, if x.toNat ≤ y.toNat then y else x, 0), (.tellerMaxnImm d a i, if x.toNat ≤ z.toNat then z else x, 0),
      (.tellerFadd d a b c, BitVec.ofNat 64 sum.1, sum.2),
      (.tellerFmin d a b c, BitVec.ofNat 64 (minMaxFloat fmtn0 fm false (low x) (low y)).1, (minMaxFloat fmtn0 fm false (low x) (low y)).2),
      (.tellerFmax d a b c, BitVec.ofNat 64 (minMaxFloat fmtn0 fm true (low x) (low y)).1, (minMaxFloat fmtn0 fm true (low x) (low y)).2),
      (.tellerCmp d a b 0, is (x = y), 0), (.tellerCmp d a b 1, is (x ≠ y), 0), (.tellerCmp d a b 2, is (x.toInt < y.toInt), 0),
      (.tellerCmp d a b 3, is (x.toInt ≤ y.toInt), 0), (.tellerCmp d a b 4, is (y.toInt < x.toInt), 0),
      (.tellerCmp d a b 5, is (y.toInt ≤ x.toInt), 0), (.tellerCmp d a b 6, is (x.toNat < y.toNat), 0),
      (.tellerCmp d a b 7, is (y.toNat ≤ x.toNat), 0),
      (.tellerCmpImm d a 0 i, is (x = z), 0), (.tellerCmpImm d a 1 i, is (x ≠ z), 0), (.tellerCmpImm d a 2 i, is (x.toInt < z.toInt), 0),
      (.tellerCmpImm d a 3 i, is (x.toInt ≤ z.toInt), 0), (.tellerCmpImm d a 4 i, is (z.toInt < x.toInt), 0),
      (.tellerCmpImm d a 5 i, is (z.toInt ≤ x.toInt), 0), (.tellerCmpImm d a 6 i, is (x.toNat < z.toNat), 0),
      (.tellerCmpImm d a 7 i, is (z.toNat ≤ x.toNat), 0),
      (.tellerSel d a b c, if h c ≠ 0 then x else y, 0), (.tellerSat d a c, sat.1, sat.2),
      (.tellerMrg d a b, (x &&& y) ||| (h d &&& ~~~y), 0), (.tellerLimm d i, z, 0)] →
    formFault ins = none →
    exec ins s = .next { s with teller := some { t with h := vset t.h d.toNat v, flags := t.flags ||| fl, code := t.code.drop 1 } }

/-- R282, R283: a routine's loads read, and its stores write, the copy of its line at the offset of their entry, aligned to the width;
memory itself changes only at the end. -/
def Obligations.RoutineMemory : Prop :=
  ∀ (s : State) (t : TellerRun), s.teller = some t → 1 < t.code.length → ∀ (d a b : BitVec 3) (i : BitVec 13) (n : Nat), n = 4 ∨ n = 8 →
    let h (m : BitVec 3) : Word64 := vget 0 t.h m.toNat
    let off := (((h a).toNat % 128 : Int) + i.toInt).emod 128 |>.toNat
    let o := off - off % n
    let next := t.code.drop 1
    let load := { t with h := vset t.h d.toNat ((t.data.extractLsb' (8 * o) (8 * n)).zeroExtend 64), code := next }
    exec (if n = 4 then .tellerLdw d a i else .tellerLdd d a i) s = .next { s with teller := some load } ∧
    ∃ data : BitVec 1024, exec (if n = 4 then .tellerStw a b i else .tellerStd a b i) s =
        .next { s with teller := some { t with data := data, stored := true, code := next } } ∧
      ∀ k, k < 1024 → data.getLsbD k = if 8 * o ≤ k ∧ k < 8 * (o + n) then (h b).getLsbD (k - 8 * o) else t.data.getLsbD k

/-- R275, R276, R283: with its last instruction a routine releases its line, written back whole if it stored, and the pair of h0
and the status reaches the scalars of the caller, whose late windows close.
R286 to R290: when the hold of an atomic begins, one read and, unless ACAS fails, one write take place at its bytes, and the
old value reaches its scalar, sign-extended for int32. -/
def Obligations.HoldEnds : Prop :=
  (∀ (s : State) (t : TellerRun), s.teller = some t → t.code.length = 1 → ∀ (d : BitVec 3) (i : BitVec 13) (n : SReg),
    let v : Word64 := if d = 0 then i.signExtend 64 else vget 0 t.h 0
    t.dst = n.toNat → n ≠ 0 → n.toNat % 2 = 0 → (∀ r ∈ [RegName.s n.toNat, .s (n + 1).toNat], ∃ w ∈ (s.core t.core).windows, w.reg = r ∧ w.late = true) →
    s.wordPoison = [] → s.sectorPoison = [] → bitAt (s.ctlGet Ctl.PSTBASE).toNat 0 = false → t.bad = false →
    ∃ u, exec (.tellerLimm d i) s = .next u ∧ u.teller = none ∧ (u.core t.core).s n = v ∧ (u.core t.core).s (n + 1) = t.flags.zeroExtend 64 ∧
      (∀ m : SReg, m ≠ n → m ≠ n + 1 → (u.core t.core).s m = (s.core t.core).s m) ∧
      (∀ y, u.byte y = if t.stored ∧ t.line ≤ y ∧ y < t.line + 128 then t.data.extractLsb' (8 * (y - t.line)) 8 else s.byte y)) ∧
  (∀ (s : State) (r : SliceReq) (f : Fmt) (o : Nat) (new : Option Nat), let w := fmtWidth fmtn0 f
    let old := s.natAt r.pa (w / 8)
    let v := r.arg0.toNat % 2 ^ w
    let sgn (x : Nat) : Int := signedOf w x
    (f = .int64 ∨ f = .int32 ∨ f = .nat64 ∨ f = .nat32) →
    (o, new) ∈ [(0x60, some ((old + v) % 2 ^ w)), (0x61, some (old &&& v)), (0x62, some (old ||| v)), (0x63, some (old ^^^ v)),
      (0x64, some (if sgn old ≤ sgn v then old else v)), (0x65, some (if sgn old ≤ sgn v then v else old)), (0x66, some v),
      (0x67, if old = r.arg1.toNat % 2 ^ w then some v else none), (0x68, some (min old v)), (0x69, some (max old v))] →
    s.teller = none → s.sliceReqs = [r] → r.op = some (o, f) → r.bad = false → r.dst ≠ 0 → r.dst < 64 →
    (∃ x ∈ (s.core r.core).windows, x.reg = .s r.dst ∧ x.late = true) →
    s.owned = [] → s.wordPoison = [] → s.sectorPoison = [] → bitAt (s.ctlGet Ctl.PSTBASE).toNat 0 = false →
    ∃ t, exec (.sliceHold r.core 0) s = .next t ∧ t.sliceReqs = [] ∧ t.natAt r.pa (w / 8) = new.getD old ∧ (∀ y, ¬(r.pa ≤ y ∧ y < r.pa + w / 8) → t.byte y = s.byte y) ∧
      (t.core r.core).sNat r.dst = if f = .int32 then BitVec.ofInt 64 (sgn old) else BitVec.ofNat 64 old)

/-! ### Ovnath -/

/-- R402, R405, R410: each instruction of an Ovnath bundle's scalar slot alone has the effect of its row, and the next bundle follows. -/
def Obligations.OvnathScalars : Prop :=
  ∀ s : State, OvnTurn s → ∀ (d a b : BitVec 5) (k : BitVec 4) (i : BitVec 14) (n : BitVec 1) (cc : BitVec 3),
    let c := s.core s.turn
    let r (m : BitVec 5) : SReg := m.zeroExtend 6
    let x := c.s (r a)
    let y := c.s (r b)
    let z := y.toNat % 64
    let ea := addAddr x.toNat i.toInt
    let wrote (t : State) (v : Word64) : Prop := (t.core s.turn).s (r d) = (if d = 0 then 0 else v) ∧ OvnStepped s t { regs := [.s d.toNat] } []
    (∀ (ins : Instr) (v : Word64), (ins, v) ∈ [
      (.ovnAdd d a b, x + y), (.ovnSub d a b, x - y), (.ovnMul d a b, BitVec.ofInt 64 (x.toInt * y.toInt)),
      (.ovnDiv d a b, if y = 0 then -1 else BitVec.ofInt 64 (x.toInt.tdiv y.toInt)), (.ovnAnd d a b, x &&& y), (.ovnOr d a b, x ||| y),
      (.ovnXor d a b, x ^^^ y), (.ovnShl d a b, x <<< z), (.ovnShr d a b, x >>> z), (.ovnShra d a b, x.sshiftRight z),
      (.ovnAddi d a i, x + i.signExtend 64), (.ovnLi d i, i.signExtend 64),
      (.ovnLis d i, BitVec.ofNat 64 ((c.s (r d)).toNat * 2 ^ 14 + i.toNat))] →
      ∃ t, exec ins s = .next t ∧ wrote t v) ∧
    (formFault (.ovnCmp k a b n cc) = none → ∃ t, exec (.ovnCmp k a b n cc) s = .next t ∧
      (t.core s.turn).p (k.zeroExtend 6) = (if k = 0 then true else
        match cc.toNat with
        | 0 => decide (x = y) | 1 => decide (x ≠ y)
        | 2 => if n = 1 then decide (x.toNat < y.toNat) else decide (x.toInt < y.toInt)
        | 3 => if n = 1 then decide (x.toNat ≤ y.toNat) else decide (x.toInt ≤ y.toInt)
        | 4 => if n = 1 then decide (y.toNat < x.toNat) else decide (y.toInt < x.toInt)
        | _ => if n = 1 then decide (y.toNat ≤ x.toNat) else decide (y.toInt ≤ x.toInt)) ∧
      OvnStepped s t { regs := [.p k.toNat] } []) ∧
    ∀ pa : Nat, (Reaches s .read ea 8 pa → ∃ t, exec (.ovnLd d a i) s = .next t ∧ wrote t (BitVec.ofNat 64 (coreNat s pa 8))) ∧
      (Reaches s .write ea 8 pa → Untracked s pa → ∃ t, exec (.ovnSt d a i) s = .next t ∧ t.natAt pa 8 = (c.s (r d)).toNat ∧
        OvnStepped s t { mem := fun q => pa ≤ q ∧ q < pa + 8 } [])

/-- R318, R405: each instruction of an Ovnath bundle's control slot alone has the effect of its row. SYS issues twice: it sends its request, and once w31 has its reply
it takes the line's first doubleword. -/
def Obligations.OvnathControl : Prop :=
  ∀ s : State, OvnTurn s → ∀ (d a : BitVec 5) (k : BitVec 4) (i : BitVec 19) (j : BitVec 14) (q : BitVec 8),
    let c := s.core s.turn
    let r (m : BitVec 5) : SReg := m.zeroExtend 6
    let pc := c.main.pc
    let away := pc + i.signExtend 64 * 16
    let line := field (s.ctlGet Ctl.SYSCBASE).toNat 16 36 * 65536 + 128 * s.turn
    let goes (t : State) (w : Writes) (v : Word64) : Prop := FrameTo s t w v ∧ t.ovn = s.ovn
    (∃ t, exec (.ovnJ i) s = .next t ∧ goes t {} away) ∧
    (∃ t, exec (.ovnJk k j) s = .next t ∧ goes t {} (if c.p (k.zeroExtend 6) then pc + j.signExtend 64 * 16 else pc + 16)) ∧
    (∃ t, exec (.ovnCall d i) s = .next t ∧ (t.core s.turn).s (r d) = (if d = 0 then 0 else pc + 16) ∧ goes t { regs := [.s d.toNat] } away) ∧
    (∃ t, exec (.ovnRet a) s = .next t ∧ goes t {} (c.s (r a))) ∧
    (∃ t, exec (.ovnTrap q) s = .next t ∧ (t.core s.turn).pend.brk = some q ∧ goes t {} (pc + 16)) ∧
    (c.passes = [] → c.mstores = [] → s.taskReqs s.turn false = [] → s.taskReqs s.turn true = [] → s.owned = [] →
      ∃ t, exec .ovnEnd s = .next t ∧ (t.core s.turn).task = none ∧ t.ovn.running = false) ∧
    (s.ovn.calling = false → bitAt (s.ctlGet Ctl.SYSCBASE).toNat 0 = true → c.syscOpen = false → s.owned = [] → s.wordPoison = [] →
      s.sectorPoison = [] → Untracked s line → ∃ t, exec (.ovnSys d a) s = .next t ∧ t.ovn.calling = true ∧ t.natAt line 8 = (c.s (r a)).toNat ∧
        (t.core s.turn).syscOpen = true ∧ (t.ctlGet (Ctl.XPEND 0 (s.turn / 64))).getLsbD (s.turn % 64) = true ∧
        FrameTo s t { mem := fun y => line ≤ y ∧ y < line + 128, ctls := [Ctl.XPEND 0 (s.turn / 64)], parts := [.sent] } pc) ∧
    (s.ovn.calling = true → c.w 31 ≠ 0 → s.wordPoison = [] → s.sectorPoison = [] → ∃ t, exec (.ovnSys d a) s = .next t ∧
      t.ovn.calling = false ∧ (t.core s.turn).w 31 = c.w 31 - 1 ∧
      (t.core s.turn).s (r d) = (if d = 0 then 0 else BitVec.ofNat 64 (coreNat s line 8)) ∧
      FrameTo s t { regs := [.s d.toNat], sems := [31], parts := [.clock] } (pc + 16))

/-- R204 to R216, R406: each instruction of an Ovnath bundle's vector slot that computes a vector register writes it lane by lane, with the flags of all lanes.
R136, R406: the Ovnath vector loads, stores and extractions move the lanes of their row. -/
def Obligations.OvnathVectors : Prop :=
  (∀ (s u : State) (d a b : BitVec 5) (f : BitVec 4) (r cc : BitVec 3) (fm src : Fmt) (ins : Instr) (rd : List (BitVec 5)) (w : Nat)
      (res : Nat → Nat × Flags),
    let c := u.core u.turn
    let z := fmtnOf 5
    let rm := (rmOfBits r).getD .rne
    let wf := fmtWidth z fm
    let n := laneCount wf
    let seed (j : Nat) : Seed := ⟨(c.s 59).toNat, j, 0⟩
    let val (x : Nat) : Val := valueOf z fm x
    let int (x : Nat) : Int := intVal z fm x
    let x (j : Nat) : Nat := lane wf (u.ov a) j
    let y (j : Nat) : Nat := lane wf (u.ov b) j
    let old (j : Nat) : Nat := lane wf (u.ov d) j
    let arith (i : Int) (v : Exactly) (j : Nat) : Nat × Flags := if fmtIsIW fm then (wrap wf i, 0) else finish fm rm false (seed j) v
    let either (i : Nat) (v : Nat × Flags) : Nat × Flags := if fmtIsIW fm then (i, 0) else v
    let prod (j : Nat) : Nat × Flags := arith (int (x j) * int (y j)) (mulExact (val (x j)) (val (y j))) j
    let total (e : Nat → Nat) : Nat × Flags :=
      if fmtIsIW fm then (((List.range n).map e).sum % 2 ^ wf, 0)
      else finish fm rm false (seed 0) (blockSum ((List.range n).map fun k => val (e k)))
    ovnFmt f = some fm → ovnFmt (cc.zeroExtend 4) = some src →
    (ins, rd, w, res) ∈ [
      (.ovnVadd d a b f r, [a, b], wf, fun j => arith (int (x j) + int (y j)) (addExact rm (val (x j)) (val (y j))) j),
      (.ovnVsub d a b f r, [a, b], wf, fun j => arith (int (x j) - int (y j)) (addExact rm (val (x j)) (val (y j)).neg) j),
      (.ovnVmul d a b f r, [a, b], wf, prod),
      (.ovnVfma d a b f r, [a, b, d], wf, fun j => finish fm rm false (seed j) (fmaExact rm (val (x j)) (val (y j)) (val (old j)))),
      (.ovnVmin d a b f r, [a, b], wf, fun j => either (if int (y j) < int (x j) then y j else x j) (minMaxFloat z fm false (x j) (y j))),
      (.ovnVmax d a b f r, [a, b], wf, fun j => either (if int (x j) ≤ int (y j) then y j else x j) (minMaxFloat z fm true (x j) (y j))),
      (.ovnVcmp d a b f cc, [a, b], wf, fun j =>
        let v := if fmtIsIW fm then (condInt (condOfBits cc) (int (x j)) (int (y j)), 0) else condVal (condOfBits cc) (val (x j)) (val (y j))
        (if v.1 then 2 ^ wf - 1 else 0, v.2)),
      (.ovnVsel d a b f, [a, b, d], wf, fun j => (if old j ≠ 0 then x j else y j, 0)),
      (.ovnVcvt d a cc f r, [a], fmtWidth c.fmtn fm, fun j =>
        if j < 2048 / max (fmtWidth c.fmtn src) (fmtWidth c.fmtn fm) then
          convert c.fmtn fm rm false (fmtIsInt src) (seed j) (valueOf c.fmtn src (lane (fmtWidth c.fmtn src) (u.ov a) j))
        else (0, 0)),
      (.ovnVbc d a f, [], wf, fun _ => ((c.s (a.zeroExtend 6)).toNat, 0)),
      (.ovnVred d a f r, [a], wf, fun j => if j ≠ 0 then (0, 0) else total x),
      (.ovnVdot d a b f r, [a, b], wf, fun j => if j ≠ 0 then (0, (prod j).2) else
        let q := total fun k => (prod k).1
        (q.1, q.2 ||| (prod 0).2))] →
    OvnPlaced s u rd [d] → ((∃ a b f r, ins = .ovnVdot d a b f r) → u.ovn.resident < c.qallot) →
    formFault ins = none → ∃ t, exec ins s = .next t ∧ OvnLanes u t d w res) ∧
  (∀ (s u : State) (d a b : BitVec 5) (f : BitVec 4) (i : BitVec 14) (fm : Fmt) (pa : Nat → Nat),
    let c := u.core u.turn
    let ea := addAddr (c.s (a.zeroExtend 6)).toNat (8 * i.toInt)
    let w := fmtWidth (fmtnOf 5) fm
    let s33 : List RegName := if i.toInt % 32 = 0 ∧ -4096 ≤ i.toInt ∧ i.toInt < 4096 then [] else [.s 33]
    let picked := lane w (u.ov a) ((c.s (b.zeroExtend 6)).toNat % laneCount w)
    (OvnPlaced s u [] [d] → ea % 8 = 0 → (∀ j, j < 32 → Reaches u .read (addr ea (8 * j)) 8 (pa j)) →
      ∃ t, exec (.ovnVld d a i) s = .next t ∧ (∀ j, j < 32 → lane 64 (t.ov d) j = coreNat u (pa j) 8) ∧ OvnStepped u t { regs := s33 } [d]) ∧
    (OvnPlaced s u [d] [] → ea % 8 = 0 → (∀ j, j < 32 → Reaches u .write (addr ea (8 * j)) 8 (pa j) ∧ Untracked u (pa j)) →
      ∃ t, exec (.ovnVst d a i) s = .next t ∧
        (∀ j k, j < 32 → k < 8 → (∀ m, j < m → m < 32 → ¬(pa m ≤ pa j + k ∧ pa j + k < pa m + 8)) →
          t.byte (pa j + k) = (u.ov d).extractLsb' (64 * j + 8 * k) 8) ∧
        OvnStepped u t { regs := s33, mem := fun y => ∃ j, j < 32 ∧ pa j ≤ y ∧ y < pa j + 8 } []) ∧
    (OvnPlaced s u [a] [] → ovnFmt f = some fm → formFault (.ovnVext d a b f) = none → ∃ t, exec (.ovnVext d a b f) s = .next t ∧
      (t.core s.turn).s (d.zeroExtend 6) = (if d = 0 then 0 else
        BitVec.ofInt 64 (if fmtIsIW fm && fmtSigned (fmtnOf 5) fm then signedOf w picked else picked)) ∧
      OvnStepped u t { regs := [.s d.toNat] } []))

/-- R408: the first native bundle of an Ovnath program whose text writes x15 copies s15 to s34. A vector register that a bundle names is
resident when it runs: it stays in its queue; or takes the lowest free one, its value reloaded from its spill slot where the bundle reads
it; or, with none free, the queue of the resident register whose next read lies furthest ahead, which is first stored into its slot.
(How far ahead a read lies is counted in the order of the text, and registers start in their slots: the model's choice, log 71.) -/
def Obligations.OvnathPlacement : Prop :=
  ∀ (s : State) (n m : BitVec 5) (q : Nat) (pa : Nat → Nat),
    let k := s.core s.turn
    let at_ (x : BitVec 5) (j : Nat) : Nat := addr (addAddr (k.s s.ovn.base).toNat (256 * x.toNat)) (8 * j)
    let home (x : BitVec 5) : Option Nat := Map.find s.ovn.place x.toNat
    let kept (u : State) (w : Writes) : Prop := FrameTo s u { w with queues := [BitVec.ofNat 6 q] } k.main.pc ∧
      u.ovn = { s.ovn with place := u.ovn.place } ∧ Map.find u.ovn.place n.toNat = some q
    let others (u : State) (p : BitVec 5 → Prop) : Prop := ∀ x : BitVec 5, x ≠ n → p x → Map.find u.ovn.place x.toNat = home x
    let taken (p : Nat) : Prop := ∃ x : BitVec 5, home x = some p
    (s.ovn.core = s.turn → s.ovn.begun = false → ∃ t, s.ovnPlaced [] [] = .ok t ∧ t.ovn = { s.ovn with begun := true } ∧ t = { s with ovn := t.ovn, cores := t.cores } ∧
      (t.core s.turn).s 34 = (if s.ovn.moves then k.s 15 else k.s 34) ∧ CoreKept k (t.core s.turn) { regs := [.s 34] } ∧
      (∀ c, c ≠ s.turn → t.core c = s.core c) ∧ (∀ rd wr, s.ovnPlaced rd wr = t.ovnPlaced rd wr) ∧
      ∀ ins ∈ ([.ovnAdd n m n, .ovnJ 0, .ovnEnd, .ovnVst n m 0, .ovnVsel n m n 4] : List Instr), exec ins s = exec ins t) ∧
    (OvnTurn s → q < k.qallot → s.ovn.place.Pairwise (fun x y => x.1 < y.1) → (∀ x ∈ s.ovn.place, x.1 < 32) →
      (home n = some q → s.ovnPlaced [n] [] = .ok s ∧ s.ovnPlaced [] [n] = .ok s) ∧
      (home n = none → q < s.ovn.resident → ¬ taken q → (∀ p, p < q → taken p) →
        (∃ u, s.ovnPlaced [] [n] = .ok u ∧ kept u {} ∧ others u fun _ => True) ∧
        ((∀ j, j < 32 → Reaches s .read (at_ n j) 8 (pa j)) → ∃ u, s.ovnPlaced [n] [] = .ok u ∧ kept u {} ∧ (others u fun _ => True) ∧
          ((u.core s.turn).q (BitVec.ofNat 6 q)).length = 1 ∧ ∀ j, j < 32 → lane 64 (u.ov n) j = coreNat s (pa j) 8)) ∧
      (home n = none → q < s.ovn.resident → (∀ p, p < s.ovn.resident → taken p) → home m = some q → (k.q (BitVec.ofNat 6 q)).length = 1 →
        (∀ x : BitVec 5, home x ≠ none → x = m ∨ s.ovn.ahead k.main.pc.toNat x < s.ovn.ahead k.main.pc.toNat m ∨
          s.ovn.ahead k.main.pc.toNat x = s.ovn.ahead k.main.pc.toNat m ∧ m < x) →
        (∀ j, j < 32 → Reaches s .write (at_ m j) 8 (pa j) ∧ Untracked s (pa j)) → (∀ i j, i < j → j < 32 → pa i + 8 ≤ pa j ∨ pa j + 8 ≤ pa i) →
        ∃ u, s.ovnPlaced [] [n] = .ok u ∧ kept u { mem := fun y => ∃ j, j < 32 ∧ pa j ≤ y ∧ y < pa j + 8 } ∧ (others u fun x => x ≠ m) ∧
          Map.find u.ovn.place m.toNat = none ∧ ∀ j, j < 32 → u.natAt (pa j) 8 = lane 64 (s.ov m) j))

/-- R222, R224 to R227, R402, R406: with the matrix unit at rest, an Ovnath bundle's tile slot has the effect of its row: MZ clears a pair of
accumulators, MMA adds one pass over two tiles in memory, MRD reads a row, MST stores the 64 rows, later rows over earlier ones. -/
def Obligations.OvnathTiles : Prop :=
  ∀ s : State, OvnTurn s → (s.core s.turn).passes = [] → (s.core s.turn).mstores = [] → s.teller = none → s.owned = [] →
    ∀ (d a b : BitVec 5) (f : BitVec 4) (r : BitVec 3) (fm : Fmt) (pa pb : Nat → Nat),
    let c := s.core s.turn
    let x (m : BitVec 5) : Nat := (c.s (m.zeroExtend 6)).toNat
    let at32 (k : Core) (q i j : Nat) : Nat := laneOf 32 (k.row q i).toNat j
    let elt (k : Core) (q i j : Nat) : Nat := if fm = .f64 then at32 k q i j + at32 k (q + 1) i j * 2 ^ 32 else at32 k q i j
    let pair (m : BitVec 5) : List RegName := [.c (2 * m.toNat), .c (2 * m.toNat + 1)]
    (formFault (.ovnMz d) = none → ∃ t, exec (.ovnMz d) s = .next t ∧ OvnStepped s t { regs := pair d } [] ∧
      ∀ q i, q = 2 * d.toNat ∨ q = 2 * d.toNat + 1 → i < 64 → (t.core s.turn).row q i = 0) ∧
    (formFault (.ovnMrd d a b) = none → x b < 64 → c.rowBad (2 * a.toNat) (x b) = false → ∀ u, OvnPlaced s u [] [d] →
      (u.core u.turn).passes = [] → u.teller = none → ∃ t, exec (.ovnMrd d a b) s = .next t ∧ t.ov d = c.row (2 * a.toNat) (x b) ∧ OvnStepped u t {} [d]) ∧
    (formFault (.ovnMma d a b f) = none → ovnFmt f = some fm → (∀ q i, c.rowBad q i = false) →
      (∀ i, i < 64 → Reaches s .read (addr (x a) (128 * i)) 128 (pa i) ∧ Reaches s .read (addr (x b) (128 * i)) 128 (pb i)) →
      let e (i j : Nat) : Nat × Flags :=
        passElement c.fmtn fm (vget 0 c.regs.cseq 0).toNat false (elt c (2 * d.toNat) i j) (coreNat s (pa i) 128) (coreNat s (pb j) 128)
      ∃ t, exec (.ovnMma d a b f) s = .next t ∧ OvnStepped s t { regs := pair d, csrs := [Csr.FFLAGS] } [] ∧
        (∀ i j, i < 64 → j < 64 → elt (t.core s.turn) (2 * d.toNat) i j = (e i j).1) ∧
        (fm ≠ .f64 → ∀ i, i < 64 → (t.core s.turn).row (2 * d.toNat + 1) i = c.row (2 * d.toNat + 1) i) ∧
        ∀ k, k < 8 → ((t.core s.turn).csrGet Csr.FFLAGS).getLsbD k = ((c.csrGet Csr.FFLAGS).getLsbD k ||
          (List.range 64).any fun i => (List.range 64).any fun j => (e i j).2.getLsbD k)) ∧
    (formFault (.ovnMst d a b f r) = none → ovnFmt f = some fm → (∀ q i, c.rowBad q i = false) →
      let w := fmtWidth fmtn0 fm
      let stride := signedOf 32 (x b % 2 ^ 32)
      let va (i : Nat) : Nat := addAddr (x d) (i * stride)
      let src : Fmt := if fm = .f64 then .f64 else if fmtIsInt fm then .int32 else .f32
      let e (i j : Nat) : Nat × Flags := convert c.fmtn fm ((rmOfBits r).getD .rne) false (src = .int32) ⟨(c.s 59).toNat, j, i⟩
        (valueOf c.fmtn src (elt c (2 * a.toNat) i j))
      let bytes (i : Nat) : List Byte := toBytes (8 * w) (ofLanes w 64 fun j => (e i j).1)
      x d % 64 = 0 → stride % 64 = 0 → (∀ i, i < 64 → Reaches s .write (va i) 64 (pa i) ∧ va i % 65536 + 8 * w ≤ 65536 ∧
        ∀ k, k < 8 * w → Untracked s (pa i + k)) →
      ∃ t, exec (.ovnMst d a b f r) s = .next t ∧
        (∀ i k, i < 64 → k < 8 * w → (∀ m, i < m → m < 64 → ¬(pa m ≤ pa i + k ∧ pa i + k < pa m + 8 * w)) →
          t.byte (pa i + k) = (bytes i).getD k 0) ∧
        (∀ k, k < 8 → ((t.core s.turn).csrGet Csr.FFLAGS).getLsbD k = ((c.csrGet Csr.FFLAGS).getLsbD k ||
          (List.range 64).any fun i => (List.range 64).any fun j => (e i j).2.getLsbD k)) ∧
        OvnStepped s t { regs := [.s 32], csrs := [Csr.FFLAGS], mem := fun y => ∃ i, i < 64 ∧ pa i ≤ y ∧ y < pa i + 8 * w, parts := [.clock] } [])

/-! ### Events: resets, registers, replies -/

/-- R5, R6, R83, R106, R166, R324, R326, R337, R350, R355, R372 and the register maps: right after reset no core runs a task or a trap, the CSRs
and control-die registers hold their reset values, and the harts are held in reset. That registers and memory bytes are zero there is
the model's choice (logs 1 to 4), and memory has its canonical form. -/
def Obligations.ResetState : Prop :=
  let r := State.reset
  let csrs : List (Nat × Word64) := [(Csr.FMTN, 5), (Csr.SPLIT, 8), (Csr.QALLOT, 64), (Csr.REPLAN, 0x81100000), (Csr.PCOST, 0x60002000),
    (Csr.PBOUND, 100000), (Csr.HWDOG, 1024), (Csr.VMROOT, 0xA000000000000000)]
  let ctls : List (Nat × Word64) := [(Ctl.CAPPTR, 8), (Ctl.SCRUBCTL, 0x03E80E10), (Ctl.ERRBASE, 8), (Ctl.SLIPBASE, 4)]
  (∀ c : Nat, (r.core c).level = 0 ∧ (r.core c).task = none ∧ (r.core c).frozen = false ∧
    (∀ e ∈ csrs, (r.core c).csrGet e.1 = e.2) ∧ (∀ n, n ∉ csrs.map (·.1) → (r.core c).csrGet n = 0) ∧
    (∀ n : SReg, (r.core c).s n = 0) ∧ (∀ n : PReg, (r.core c).p n = decide (n = 0)) ∧ (∀ n : WReg, (r.core c).w n = 0) ∧
    (∀ q : QReg, (r.core c).q q = [])) ∧
  (∀ e ∈ ctls, r.ctlGet e.1 = e.2) ∧ (∀ i, i < 40 → r.ctlGet (Ctl.TENMAP i) = -1) ∧
  (∀ i, i < 256 → r.ctlGet (Ctl.TENCFG i) = 0x0008000000000000 ∧ r.ctlGet (Ctl.TENROOT i) = 0xA000000000000000) ∧
  (∀ i, i < 64 → r.ctlGet (Ctl.HWQCFG i) = 0x000C000000000000) ∧
  (∀ i, i < 320 → (r.ctlGet (Ctl.LCMAP i)).toNat = 2 ^ 63 + i ∧ r.ctlGet (Ctl.XESC i) = 0) ∧
  r.control.hartsReset = true ∧ r.control.tripped = false ∧ r.graphs = [] ∧ r.saved = [] ∧ r.frame = 0 ∧
  Memory.wf r.mem = true ∧ ∀ a, r.byte a = 0

/-- R5, R14, R430 to R432: a power-on reset leaves the reset state, but for the records of flash and fuses; a warm reset also keeps the RWL
registers and their locks; the pins set their marks; RECORD_REPROVISION makes one record whole; OSRESTART runs the harts again or leaves
them in reset with BOOTST telling of step 4. -/
def Obligations.ResetsAndPins : Prop :=
  ∀ (s : State) (v : Word64) (r : Nat),
    let ctlOf (f : Control → Control) : State := { s with control := f s.control }
    let base : State := { State.reset with free := s.free, agenda := s.agenda }
    exec .powerOnReset s = .next { base with control := { records := s.control.records } } ∧
    (∃ t, exec .warmReset s = .next t ∧
      (∀ o, t.ctlGet o = if o = Ctl.MODID ∨ o = Ctl.PSTBASE then s.ctlGet o else ctlReset o) ∧
      t = { base with ctl := t.ctl, control := { records := s.control.records, locked := s.control.locked } }) ∧
    exec .thermalAlert s = .next (ctlOf fun k => { k with thermalAlert := true }) ∧
    exec .thermalAlertEnd s = .next (ctlOf fun k => { k with thermalAlert := false }) ∧
    exec .thermalTrip s = .next (ctlOf fun k => { k with tripped := true }) ∧
    exec .boardInterrupt s = .next (ctlOf fun k => { k with boardIrq := true }) ∧
    (∃ t, exec (.recordReprovision r) s = .next t ∧ t = { s with control := { s.control with records := t.control.records } } ∧
      ∀ q, Map.get {} t.control.records q =
        if q = r then { (Map.get {} s.control.records q) with intact := true } else Map.get ({} : IndexRecord) s.control.records q) ∧
    ((v.getLsbD 1 = false ∨ (s.ctlGet Ctl.BOOTST).getLsbD 8 = false) → exec (.osRestart v) s = .next s) ∧
    (v.getLsbD 1 = true → (s.ctlGet Ctl.BOOTST).getLsbD 8 = true →
      ∃ t, exec (.osRestart v) s = .next t ∧ t.ctlGet Ctl.OSRESTART = v &&& 1 ∧ t.cores = s.cores ∧ t.mem = s.mem ∧
        (∀ o, o ≠ Ctl.OSRESTART → o ≠ Ctl.BOOTST → t.ctlGet o = s.ctlGet o) ∧
        (t.control.hartsReset = false ∧ t.ctlGet Ctl.BOOTST = s.ctlGet Ctl.BOOTST ∨
          t.control.hartsReset = true ∧ t.ctlGet Ctl.BOOTST = (s.ctlGet Ctl.BOOTST &&& 256) ||| 4))

/-- R5, R104, R322, R419: a write of another size, of an unassigned offset or of a compute core changes nothing; a guarded register
written by a port that does not own CSEM, and a general core's register written by CP1, set DENIED alone; an RWL field takes the first
write that covers some of its bits, and no later one; a plain register takes its writable bits; a route also ends what lost modules own.
CSEM goes to a port when it is free, and of two that ask in one cycle to the one that did not own it last; its owner releases it. -/
def Obligations.RegisterWrites : Prop :=
  ∀ (s : State) (src : Writer) (off size : Nat) (v : Word64) (port : Bool),
    let o := off / 8 * 8
    let code := if port then 2 else 1
    let write : Instr := .registerWrite src off size v
    let owner := field (s.ctlGet Ctl.CSEM).toNat 0 2
    let from_ := (src = .cp port ∨ src = .general ∧ port = false)
    let whole := size = 8 ∧ off % 8 = 0 ∧ ctlAssigned off = true ∧ off < 0x100000 ∧ 0x1000 ≤ off
    let tie := s.control.granted = s.clk ∧ s.control.prevOwner = s.control.lastOwner
    let free := (ctlGuarded off = true → owner = code) ∧ (ctlGeneral off = true → port = false)
    let granted (t : State) (prev : Nat) : Prop := (t.ctlGet Ctl.CSEM).toNat = code ∧ (∀ x, x ≠ Ctl.CSEM → t.ctlGet x = s.ctlGet x) ∧
      t = { s with ctl := t.ctl, control := { s.control with lastOwner := bit port, prevOwner := prev, granted := s.clk } }
    let denied (t : State) : Prop := CtlOnly s t [Ctl.LNSTAT (bit port)] ∧
      t.ctlGet (Ctl.LNSTAT (bit port)) = s.ctlGet (Ctl.LNSTAT (bit port)) ||| 0x8000000000000000
    ((size ≠ 4 ∧ size ≠ 8 ∨ off % size ≠ 0 ∨ ctlAssigned o = false ∨ ∃ c, src = .tender c) → exec write s = .next s) ∧
    (from_ → whole → ctlGuarded off = true ∧ owner ≠ code ∨ ctlGeneral off = true ∧ port = true →
      ∃ t, exec write s = .next t ∧ denied t) ∧
    (from_ → size = 4 ∨ size = 8 → off % size = 0 → o = Ctl.MODID ∨ o = Ctl.PSTBASE →
      ∃ t, exec write s = .next t ∧ (∀ x, x ≠ o → t.ctlGet x = s.ctlGet x) ∧
        t = { s with ctl := t.ctl, control := { s.control with locked := t.control.locked } } ∧
        (∀ i m, (ctlLocks o)[i]? = some m → ∀ j, m.getLsbD j = true →
          let covered := if size = 8 then m else m &&& (0xFFFFFFFF#64 <<< (8 * (off % 8)))
          (t.ctlGet o).getLsbD j = (if o + i ∉ s.control.locked ∧ covered.getLsbD j = true then v.getLsbD (j - 8 * (off % 8)) else (s.ctlGet o).getLsbD j) ∧
          (o + i ∈ t.control.locked ↔ o + i ∈ s.control.locked ∨ covered ≠ 0)) ∧
        ∀ j, (∀ m ∈ ctlLocks o, m.getLsbD j = false) → (t.ctlGet o).getLsbD j = (s.ctlGet o).getLsbD j) ∧
    (from_ → whole → free → inTab off 0x7000 256 = true → ∃ t, exec write s = .next t ∧ CtlTakes s t off v ∧
      (∀ x, x ≠ off → t.ctlGet x = s.ctlGet x) ∧ t = { s with ctl := t.ctl, owned := t.owned, wordPoison := t.wordPoison } ∧
      (∀ e, e ∈ t.owned ↔ e ∈ s.owned ∧ (e.2.owner < 320 ∨ t.reaches (e.2.owner - 320) = true)) ∧
      ∀ a, a ∈ t.wordPoison ↔ a ∈ s.wordPoison ∨ ∃ e ∈ s.owned, e.1 = a ∧ e ∉ t.owned ∧ e.2.home = false) ∧
    (from_ → whole → free →
      (off ∈ [Ctl.BOOTSEL, Ctl.PCIEBIF, Ctl.HOVBASE, Ctl.KTBASE, Ctl.SYSCBASE, Ctl.SCRUBCTL, Ctl.XINVA, Ctl.ERRBASE, Ctl.ERRPOS, Ctl.SLIPBASE,
        Ctl.SLIPPOS, Ctl.SNAPCFG, Ctl.SNAPAREA, Ctl.SNAPPOS, Ctl.ROLLEP, Ctl.LNBASE 0, Ctl.LNBASE 1] ∨ inTab off 0x1140 5 = true ∨
        inTab off 0x2008 15 = true ∨ inTab off 0x2100 120 = true ∨ inTab off 0x4800 256 = true ∨ inTab off 0x5000 256 = true ∨
        inTab off 0x10000 512 = true) →
      ∃ t, exec write s = .next t ∧ CtlOnly s t [off] ∧ CtlTakes s t off v) ∧
    (owner = 0 → ∃ t, exec (.csemAcquire port) s = .next t ∧ granted t s.control.lastOwner) ∧
    (owner ≠ 0 → owner ≠ code → tie → ∃ t, exec (.csemAcquire port) s = .next t ∧ granted t s.control.prevOwner) ∧
    (owner ≠ 0 → owner = code ∨ ¬ tie → exec (.csemAcquire port) s = .next s) ∧
    (owner = code → ∃ t, exec (.csemRelease port) s = .next t ∧ t.ctlGet Ctl.CSEM = 0 ∧ CtlOnly s t [Ctl.CSEM]) ∧
    (owner ≠ code → exec (.csemRelease port) s = .next s)

/-- R323 to R325, R337, R372: through the port that owns CSEM, LAUNCH of an array that meets R324 makes a graph of its records, those with
counter 0 ready; RESUME lets a halted task go on, from its image where it has one, and makes a suspended one ready; DISCARD ends it and
fails its graph; a queue's configuration empties the queue; an entry of the logical map takes its image, but not one that would map a
core twice, and a core whose logical number changes leaves its quarantine. Through the other port each sets DENIED alone. -/
def Obligations.PortOperations : Prop :=
  ∀ (s : State) (port : Bool) (v : Word64) (n : Nat),
    let code := if port then 2 else 1
    let stat := Ctl.LNSTAT (bit port)
    let lnctl := Ctl.LNCTL (bit port)
    let tenant := field v.toNat 48 8
    let count := field v.toNat 0 24
    let base := (s.ctlGet (Ctl.LNBASE (bit port))).toNat
    let c := field v.toNat 0 9
    (field (s.ctlGet Ctl.CSEM).toNat 0 2 ≠ code →
      ∀ ins ∈ ([.launch port v, .resume port v, .discard port v] : List Instr) ++
          (if n < 64 then [.hwqConfigure port n v] else []) ++ (if n < 320 then [.lcmapWrite port n v] else []),
        ∃ t, exec ins s = .next t ∧ CtlOnly s t [stat] ∧ t.ctlGet stat = s.ctlGet stat ||| 0x8000000000000000) ∧
    (field (s.ctlGet Ctl.CSEM).toNat 0 2 = code →
      (s.launchOk tenant base count = false → ∃ t, exec (.launch port v) s = .next t ∧ CtlOnly s t [stat, lnctl] ∧
        t.ctlGet stat = s.ctlGet stat ||| 0x4000000000000000) ∧
      (s.launchOk tenant base count = true → ∃ t x, exec (.launch port v) s = .next t ∧ t.graph s.graphNext = some x ∧
        x.port = port ∧ x.tenant = tenant ∧ x.base = base ∧ x.count = count ∧ x.failed = false ∧ t.graphNext = s.graphNext + 1 ∧
        (∀ i, i < count → ∃ m, Map.find x.nodes i = some m ∧ m.record = s.nodeAt base i ∧ m.counter = nodeField m.record 132 4 ∧
          m.state = (if m.counter = 0 then 1 else 0)) ∧
        (∀ o, o ≠ lnctl → t.ctlGet o = s.ctlGet o) ∧ t = { s with ctl := t.ctl, graphs := t.graphs, graphNext := t.graphNext }) ∧
      (∀ k, (s.core c).task = some k → k.halted = true →
        ((s.core c).savedTask = none → ∃ t, exec (.resume port v) s = .next t ∧ (t.core c) = { s.core c with task := some { k with halted := false } } ∧
          (∀ d, d ≠ c → t.core d = s.core d) ∧ t = { s with ctl := t.ctl, cores := t.cores }) ∧
        (∀ x pages, (s.core c).savedTask = some x → s.savedPages c x = some pages → x.va.toNat % 128 = 0 → s.imageOk pages x.va.toNat = true →
          s.owned = [] → c < 320 →
          let pa := imageAt pages x.va.toNat
          ∃ t, exec (.resume port v) s = .next t ∧ ImageOf s pa (t.core c) true ∧ (t.core c).main.pc = BitVec.ofNat 64 (imageNat s pa 8 8) ∧
            (t.core c).task = some { x.task with header := pa 0 } ∧ (t.core c).level = 0 ∧ imageNat t pa 0x18 8 = c + 1 ∧
            ∀ d, d ≠ c → t.core d = s.core d) ∧
        ∃ t, exec (.discard port v) s = .next t ∧ (t.core c).task = none ∧ (∀ y, t.graph k.graph = some y → y.failed = true) ∧
          ((s.core c).savedTask = none → (∀ d, d ≠ c → ∀ r ∈ (s.core d).e0.reqs ++ (s.core d).e1.reqs, s.issuer d r.header ≠ .inl c) →
            ∀ d, d ≠ c → t.core d = s.core d)) ∧
      ((∀ k, (s.core c).task = some k → k.halted = false) →
        (∀ x, s.saved.find? (fun y => y.core = c ∧ y.ready = false) = some x →
          (∃ t, exec (.resume port v) s = .next t ∧ (∀ y, y ∈ t.saved ↔ y ∈ s.saved ∧ y ≠ x ∨ y = { x with ready := true }) ∧
            t = { s with ctl := t.ctl, saved := t.saved }) ∧
          ∃ t, exec (.discard port v) s = .next t ∧ (∀ y, y ∈ t.saved ↔ y ∈ s.saved ∧ y ≠ x) ∧
            (∀ y, t.graph x.task.graph = some y → y.failed = true) ∧ ∀ d, (t.core d).task = (s.core d).task) ∧
        ((∀ y ∈ s.saved, y.core = c → y.ready = true) → ∀ ins ∈ ([.resume port v, .discard port v] : List Instr),
          ∃ t, exec ins s = .next t ∧ CtlOnly s t [lnctl])) ∧
      (n < 64 → ∃ t, exec (.hwqConfigure port n v) s = .next t ∧ CtlTakes s t (Ctl.HWQCFG n) v ∧ t.hwQueue n = {} ∧
        (∀ m, m ≠ n → t.hwQueue m = s.hwQueue m) ∧ (∀ o, o ≠ Ctl.HWQCFG n → t.ctlGet o = s.ctlGet o) ∧
        t = { s with ctl := t.ctl, hwq := t.hwq }) ∧
      (n < 320 → s.lcmapBad n v = false → ∃ t, exec (.lcmapWrite port n v) s = .next t ∧
        t.ctlGet (Ctl.LCMAP n) = v &&& 0x80000000000001FF ∧ (∀ o, o ≠ Ctl.LCMAP n → t.ctlGet o = s.ctlGet o) ∧
        (∀ p, p ∈ t.quarantine ↔ p ∈ s.quarantine ∧ t.logicalOf p = s.logicalOf p ∧ (t.logicalOf p).isSome = true) ∧
        t = { s with ctl := t.ctl, quarantine := t.quarantine, graphs := t.graphs }) ∧
      (n < 320 → s.lcmapBad n v = true → (s.ctlGet Ctl.ERRBASE).getLsbD 63 = false → exec (.lcmapWrite port n v) s = .next s))

/-- R110, R279, R345, R346, R391, R424: an invalidation starts with XINVA as it stands, or waits; when it completes, once the accesses
translated before it have landed, no core holds a covered translation or code line, no slice a covered routine; ACT of XESC ends an
escalation; PGDONE answers the first page-in that waits; SEMRAISE adds to a semaphore of the task on its core; ROLLCTL refuses a rollback
while a cut runs or to an epoch without a manifest, and otherwise ends the job's tasks and takes the manifest's epoch. -/
def Obligations.ControlReplies : Prop :=
  ∀ (s : State) (v : Word64) (c : Nat),
    let xinvc := (s.ctlGet Ctl.XINVC).toNat
    let tlinv := (s.ctlGet Ctl.TLINV).toNat
    let va := field s.control.xinvVa.toNat 16 41
    let covered (glob : Bool) (asid granule : Nat) : Prop := (bitAt xinvc 18 = true ∨ glob = false ∧ asid = field xinvc 19 16) ∧
      (bitAt xinvc 17 = true ∨ va ≤ granule ∧ granule < va + field xinvc 0 17)
    let routine (key : Nat) : Prop := (bitAt tlinv 16 = true ∨ field tlinv 8 8 = key / 64 % 256) ∧ (bitAt tlinv 6 = true ∨ field tlinv 0 6 = key % 64)
    let k := s.core c
    let busy (w : Word64) : Word64 := (w &&& 0x7FFFFFFFF) ||| 0x8000000000000000
    (bitAt xinvc 63 = false → ∃ t, exec (.xinvStart v) s = .next t ∧ t.ctlGet Ctl.XINVC = busy v ∧ (∀ o, o ≠ Ctl.XINVC → t.ctlGet o = s.ctlGet o) ∧
      t = { s with ctl := t.ctl, control := { s.control with xinvVa := s.ctlGet Ctl.XINVA, xinvAt := s.clk } }) ∧
    (bitAt xinvc 63 = true → exec (.xinvStart v) s =
      .next { s with control := { s.control with xinvWait := s.control.xinvWait ++ [v &&& 0x7FFFFFFFF] } }) ∧
    (bitAt xinvc 63 = true → s.landing s.control.xinvAt = false → ∃ t, exec .xinvComplete s = .next t ∧
      (∀ d e, e ∈ (t.core d).tlb ↔ e ∈ (s.core d).tlb ∧ ¬ covered e.global e.asid e.granule) ∧
      (∀ d l, (l ∈ (t.core d).icache ↔ l ∈ (s.core d).icache ∧ ¬ covered false l.asid (field l.va 16 41)) ∧
        (l ∈ (t.core d).dcache ↔ l ∈ (s.core d).dcache ∧ ¬ covered false l.asid (field l.va 16 41))) ∧
      (∀ d, t.core d = { s.core d with tlb := (t.core d).tlb, icache := (t.core d).icache, dcache := (t.core d).dcache }) ∧
      (∀ o, o ≠ Ctl.XINVC → t.ctlGet o = s.ctlGet o) ∧
      t.ctlGet Ctl.XINVC = (match s.control.xinvWait with
        | [] => s.ctlGet Ctl.XINVC &&& 0x7FFFFFFFFFFFFFFF
        | w :: _ => busy w) ∧
      t.control = (match s.control.xinvWait with
        | [] => s.control
        | _ :: ws => { s.control with xinvWait := ws, xinvVa := s.ctlGet Ctl.XINVA, xinvAt := s.clk }) ∧
      t = { s with cores := t.cores, ctl := t.ctl, control := t.control }) ∧
    (s.landing s.control.xinvAt = true → exec .xinvComplete s = .next s) ∧
    (bitAt tlinv 63 = false → ∃ t, exec (.tlinvStart v) s = .next t ∧ CtlOnly s t [Ctl.TLINV] ∧
      t.ctlGet Ctl.TLINV = (v &&& 0x1FF7F) ||| 0x8000000000000000) ∧
    (bitAt tlinv 63 = true → s.teller = none → ∃ t, exec .tlinvComplete s = .next t ∧
      (∀ e, e ∈ t.routines ↔ e ∈ s.routines ∧ ¬ routine e.1) ∧ t.control.tlinvWait = s.control.tlinvWait.tail ∧
      (∀ o, o ≠ Ctl.TLINV → t.ctlGet o = s.ctlGet o) ∧
      t = { s with routines := t.routines, ctl := t.ctl, control := { s.control with tlinvWait := s.control.tlinvWait.tail } }) ∧
    (k.frozen = true → c < 320 → s.holds = [] → (∀ d, d ≠ c → ∀ r ∈ (s.core d).e0.reqs ++ (s.core d).e1.reqs, r.header = 0) →
      ∀ (ins : Instr) (out : Bool), (ins, out) ∈ [(Instr.escDiscard c, false), (.escQuarantine c, true)] →
      ∃ t, exec ins s = .next t ∧ (t.core c).frozen = false ∧ (t.core c).task = none ∧ (t.core c).level = 0 ∧ t.ctlGet (Ctl.XESC c) = 0 ∧
        (∀ p, p ∈ t.quarantine ↔ (if p = c then out = true else p ∈ s.quarantine)) ∧ (∀ d, d ≠ c → t.core d = s.core d) ∧
        ∀ q, k.task = some q → ∀ y, t.graph q.graph = some y → y.failed = true) ∧
    (k.frozen = false → exec (.escDiscard c) s = .next s ∧ exec (.escQuarantine c) s = .next s) ∧
    (k.pagein = true → k.pageinAns = none → ∃ t, exec (.pageinDone c v) s = .next t ∧ t.core c = { k with pageinAns := some (v.getLsbD 0) } ∧
      t.ctlGet (Ctl.PGDONE c) = v &&& 1 ∧ (∀ o, o ≠ Ctl.PGDONE c → t.ctlGet o = s.ctlGet o) ∧ (∀ d, d ≠ c → t.core d = s.core d) ∧
      t = { s with cores := t.cores, ctl := t.ctl }) ∧
    (k.pagein = false ∨ k.pageinAns.isSome = true → exec (.pageinDone c v) s = .next s) ∧
    (field v.toNat 0 9 = c → c < 320 → k.task.isSome = true →
      ∃ t, exec (.semraise v) s = .next t ∧ (t.core c).syscOpen = (k.syscOpen && k.syscSem ≠ field v.toNat 9 5) ∧
        (t.core c).w (v.extractLsb' 9 5) = k.w (v.extractLsb' 9 5) + v.extractLsb' 32 32 ∧ CoreOnly s t c { sems := [v.extractLsb' 9 5] }) ∧
    (319 < field v.toNat 0 9 → exec (.semraise v) s = .next s) ∧
    (field v.toNat 62 2 ≠ 1 → exec (.rollback v) s = .next s) ∧
    (field v.toNat 62 2 = 1 → s.snap.phase = 1 → ∃ t, exec (.rollback v) s = .next t ∧ CtlOnly s t [Ctl.ROLLCTL] ∧
      field (t.ctlGet Ctl.ROLLCTL).toNat 48 8 = 6) ∧
    (field v.toNat 62 2 = 1 → s.snap.phase ≠ 1 → s.ctlGet Ctl.SNAPLAST = 0 → ∃ t, exec (.rollback v) s = .next t ∧ CtlOnly s t [Ctl.ROLLCTL] ∧
      field (t.ctlGet Ctl.ROLLCTL).toNat 48 8 = 3) ∧
    (let a := (s.ctlGet Ctl.SNAPLAST).toNat
     let area := (s.ctlGet Ctl.SNAPAREA).toNat
     let e := s.natAt (a + 8) 8
     field v.toNat 62 2 = 1 → s.snap.phase ≠ 1 → a ≠ 0 → a % 65536 = 0 → field area 16 24 ≤ a / 65536 → a / 65536 < field area 16 24 + field area 40 24 →
      e = (s.ctlGet Ctl.ROLLEP).toNat → s.natAt (a + 2) 1 = 1 → (∀ i, i < 3 → s.natAt (a + 32 + 4 * i) 4 = 0) →
      s.snap.cur.granules = [] → s.snap.old = none → bitAt (s.ctlGet Ctl.PSTBASE).toNat 0 = false → (∀ x ∈ s.snap.cuts, x.addr = a → x.graphs = []) →
      ∃ t, exec (.rollback v) s = .next t ∧ field (t.ctlGet Ctl.ROLLCTL).toNat 48 8 = 2 ∧ t.ctlGet Ctl.SNAPLAST = s.ctlGet Ctl.SNAPLAST ∧
        t.snap.phase = 0 ∧ t.snap.epoch = e ∧ Map.get 0 t.snap.passed s.snapTenant = e ∧ t.mem = s.mem ∧
        (∀ d, s.jobCore d = true → (t.core d).task = none ∧ (t.core d).level = 0) ∧ (∀ x ∈ t.graphs, x.2.tenant ≠ s.snapTenant) ∧
        t.out = s.out ++ s.memberLinks.map (fun l => (l, s.markerFlit true e l)) ∧ ∀ x ∈ t.holds, x.tenant ≠ s.snapTenant)

/-! ### Events: frames, dispatch, boundaries -/

/-- R14, R313, R328 to R334, R355: a frame moves FRAME, each core's counts and the tenant frames that no hold keeps; a late timetabled task
begins a hold; an armed timer whose time has come disarms and raises its notice; the dispatcher starts the timetabled node of least
RELEASE and ID, else the pool node of highest effective priority, with the registers of its record, where it holds no task ready for the core
and no core of lower logical number may claim the node in the same cycle. -/
def Obligations.FramesAndDispatch : Prop :=
  ∀ (s : State) (c n : Nat),
    let k := s.core c
    let late (m : Nat) (t : State) : Prop := ∀ q ∈ s.liveTasks, q.tenant = m → ∀ d, q.deadline = some d → d ≤ s.tframe m →
      ∃ h ∈ t.holds, h.tenant = m ∧ h.graph = q.graph ∧ h.node = q.node
    (s.frameDue = false → exec .frameAdvance s = .next s) ∧
    (s.frameDue = true → ∃ t, exec .frameAdvance s = .next t ∧ t.frameDue = false ∧ t.frame = (s.frame + 1) % 2 ^ 64 ∧
      (∀ d x, Map.find s.cores d = some x → CoreKept x (t.core d) { csrs := [Csr.TCMP], parts := [.clock, .notice] } ∧ (t.core d).ltime = x.ltime + 1 ∧
        (t.core d).idleFrames = (if x.running = true ∨ x.saving.isSome = true ∧ x.frozen = false then x.idleFrames + 1 else x.idleFrames) ∧
        (t.core d).enqFrames = if x.enqWaits then x.enqFrames + 1 else 0) ∧
      (∀ m, m < 256 → t.tframe m = if s.hasFrame m = true ∧ ∀ h ∈ t.holds, h.tenant ≠ m then s.tframe m + 1 else s.tframe m) ∧
      (∀ h ∈ s.holds, h ∈ t.holds) ∧ (∀ m, m < 256 → s.hasFrame m = true → late m t) ∧
      t.mem = s.mem ∧ t.ctl = s.ctl ∧ t.graphs = s.graphs ∧ t.clk = s.clk) ∧
    (s.clk % 1024 = 0 → s.hasFrame n = true → ∃ t, exec (.deadlineOverrun n) s = .next t ∧ t = { s with holds := t.holds } ∧
      (∀ h ∈ s.holds, h ∈ t.holds) ∧ late n t) ∧
    (s.clk % 1024 ≠ 0 → exec (.deadlineOverrun n) s = .next s) ∧
    exec (.poolNodeStealable n) s = .next s ∧
    (let cmp := (k.csrGet Csr.TCMP).toNat
     (2 ^ 63 ≤ cmp → cmp % 2 ^ 63 ≤ s.tframe (s.tenantNow c) → ∃ t, exec (.timerNoticePending c) s = .next t ∧
        (t.core c).csrGet Csr.TCMP = BitVec.ofNat 64 (cmp % 2 ^ 63) ∧
        (t.core c).notice = { k.notice with timer := some (k.notice.timer.getD (BitVec.ofNat 64 (s.tframe (s.tenantNow c)))) } ∧
        CoreOnly s t c { csrs := [Csr.TCMP], parts := [.notice] }) ∧
     (cmp < 2 ^ 63 ∨ s.tframe (s.tenantNow c) < cmp % 2 ^ 63 → exec (.timerNoticePending c) s = .next s)) ∧
    (s.dispatchable c = false → exec (.taskDispatch c) s = .next s) ∧
    (s.dispatchable c = true → (∀ e ∈ s.graphs, ∀ m ∈ e.2.nodes, m.2.state = 1 → nodeTimed m.2.record = false → m.2.home.isSome = true) →
      ∀ (g i : Nat) (x : Graph) (m : TNode), s.graph g = some x → Map.find x.nodes i = some m →
      (∀ y ∈ s.saved, y.core ≠ c ∨ y.ready = false ∨ y.task.tenant ≠ s.tenantOf c) →
      (∀ e ∈ s.cores, e.1 ≤ c ∨ s.dispatchable e.1 = false ∨ (s.logicalOf c).getD 512 ≤ (s.logicalOf e.1).getD 512) →
      (let key (t : Nat × Nat × Nat × Nat) : Nat × Nat × Nat × Nat × Nat := (t.2.2.1, t.2.2.2, t.1, t.2.1, 0)
       (∃ t ∈ s.timedFor c, t.1 = g ∧ t.2.1 = i ∧ ∀ y ∈ s.timedFor c, y = t ∨ candLt (key t) (key y) = true) ∨
        s.timedFor c = [] ∧ ∃ t ∈ s.poolFor c, t.2.2.2.2 = g ∧ t.2.2.2.1 = i ∧ ∀ y ∈ s.poolFor c, y = t ∨ candLt t y = true) →
      ∃ t q y, exec (.taskDispatch c) s = .next t ∧ (t.core c).task = some q ∧ q.graph = g ∧ q.node = i ∧ q.tenant = x.tenant ∧ q.halted = false ∧
        q.prio = s.effPrio x.tenant m ∧ (t.core c).level = 0 ∧ (t.core c).main = { pc := BitVec.ofNat 64 (nodeField m.record 0 8) } ∧
        (∀ j, j < 12 → (t.core c).sNat (j + 1) = BitVec.ofNat 64 (nodeField m.record (8 + 8 * j) 8)) ∧
        (t.core c).s 13 = BitVec.ofNat 64 ((s.logicalOf c).getD 0) ∧ (t.core c).s 14 = BitVec.ofNat 64 (nodeField m.record 136 4) ∧
        (t.core c).s 15 = BitVec.ofNat 64 (nodeField m.record 112 8) ∧ (t.core c).qallot = nodeField m.record 141 1 ∧
        (t.core c).csrGet Csr.SPLIT = BitVec.ofNat 64 (nodeField m.record 142 1) ∧
        (t.core c).csrGet Csr.VMROOT = s.ctlGet (Ctl.TENROOT x.tenant) ∧
        t.graph g = some y ∧ Map.find y.nodes i = some { m with state := 2 } ∧ (∀ d, d ≠ c → t.core d = s.core d) ∧ t.mem = s.mem)

/-- R284, R339 to R342, R345, R350, R355, R356: an event at the boundary of a core that runs enters its tender at TVEC with its code, the pointer of
the bundle that would have issued, and no slot named; where TVEC is 0 it escalates; the watchdog and a pre-emption that PBOUND forces
enter alike; a save that the watchdog ends leaves its image INCOMPLETE and the core withdrawn; a request for pre-emption waits for the
boundary; a tenant whose cores all wait in ENQ traps its first core, unless an event is due there. -/
def Obligations.BoundaryTraps : Prop :=
  ∀ (s : State) (c n : Nat) (b : BitVec 8) (e : MemEvent),
    let k := s.core c
    let vec := k.csrGet Csr.TVEC
    let bound := (k.csrGet Csr.PBOUND).toNat % 2 ^ 32
    let dog := field (k.csrGet Csr.HWDOG).toNat 0 32
    let enters (ins : Instr) (cause : Nat) (extra : List Part) : Prop := ∃ t, exec ins s = .next t ∧
      TrapEntered k (t.core c) (BitVec.ofNat 64 cause) k.main.pc 0 0 vec extra ∧
      (∀ d, d ≠ c → t.core d = s.core d) ∧ t = { s with cores := t.cores }
    (vec ≠ 0 → ∀ p cause, (p, cause) ∈ [({ segCheck := some n }, 0x1A), ({ brk := some b }, b.toNat * 2 ^ 48 + 0x1F), ({ codeGone := true }, 0x1D),
        ({ preempt := some n, preemptNow := true }, 0x20)] ++ (if e.due ≤ s.clk then ({ memLost := [e] }, 0x19) :: (if e.call = none then [({ memUe := [e] }, 0x18)] else []) else []) ++
        (if n ≤ s.clk then [({ teller := some n }, 0x16)] else []) →
      AtBoundary k p → enters (.trapEntry c) cause []) ∧
    (vec ≠ 0 → k.running = true → k.contain.regions = [] → k.pend = {} → ∀ r, k.e0.record = some r → r.taken = false → k.e1.record = none →
      enters (.trapEntry c) 0x12 [.engines]) ∧
    (vec ≠ 0 → ∀ id, AtBoundary k { memUe := [e] } → e.due ≤ s.clk → e.call = some id → ∃ t, exec (.trapEntry c) s = .next t ∧
      TrapEntered (k.tellerRecord 1 id e.pc e.addr) (t.core c) 0x16 k.main.pc 0 0 vec ∧ (∀ d, d ≠ c → t.core d = s.core d) ∧ t = { s with cores := t.cores }) ∧
    (AtBoundary k {} → exec (.trapEntry c) s = .next s) ∧
    (vec ≠ 0 → AtBoundary { k with idleFrames := 0 } {} → dog ≠ 0 → dog ≤ k.idleFrames → enters (.watchdog c) 0x1B []) ∧
    (vec ≠ 0 → AtBoundary k { preempt := some n } → bound ≤ n → enters (.preemptForced c) (2 ^ 63 + 0x20) []) ∧
    (vec = 0 → AtBoundary k { brk := some b } → c < 320 →
      ∃ t, exec (.escalation c) s = .next t ∧ (t.core c).frozen = true ∧ (t.ctlGet (Ctl.XESC c)).toNat = 2 ^ 63 + k.level * 256 + 0x1F ∧
        (t.ctlGet (Ctl.XPEND 2 (c / 64))).getLsbD (c % 64) = true ∧ CoreKept k (t.core c) { parts := [.berth] } ∧
        (∀ d, d ≠ c → t.core d = s.core d) ∧ t.mem = s.mem) ∧
    (∀ pa, k.saving = some pa → k.frozen = false → dog ≠ 0 → dog ≤ k.idleFrames → c < 320 → s.wordPoison = [] → s.sectorPoison = [] →
      bitAt (s.ctlGet Ctl.PSTBASE).toNat 0 = false →
      ∃ t, exec (.watchdogDuringSave c) s = .next t ∧ (t.core c).frozen = true ∧ (t.core c).saving = none ∧ c ∈ t.quarantine ∧
        (t.ctlGet (Ctl.XESC c)).toNat = 2 ^ 63 + 256 + 0x1B ∧ t.natAt pa 8 = 2 ^ 32 + 1 ∧ ∀ y, ¬(pa ≤ y ∧ y < pa + 8) → t.byte y = s.byte y) ∧
    (k.task.isSome = true → k.pend.preempt = none → ∃ t, exec (.preemptRequest c) s = .next t ∧
      (t.core c).pend = { k.pend with preempt := some 0 } ∧ (t.core c).berth.demand = none ∧ CoreOnly s t c { parts := [.berth] }) ∧
    (k.task = none ∨ k.pend.preempt.isSome = true →
      ∃ t, exec (.preemptRequest c) s = .next t ∧ t.core c = k ∧ CoreOnly s t c {}) ∧
    (∀ cs, s.activeCores n = c :: cs → (∀ d ∈ c :: cs, 16 ≤ (s.core d).enqFrames) → k.running = true → vec ≠ 0 →
      k.unwindDue s.clk = false → k.dueTrap s.clk = none →
      ∃ t, exec (.queueDeadlock n) s = .next t ∧ TrapEntered k (t.core c) (BitVec.ofNat 64 (9 * 2 ^ 40 + 0x1C)) k.ir.cp 0 0x80 vec ∧
        (∀ d, d ≠ c → t.core d = s.core d) ∧ t = { s with cores := t.cores })

/-- R142, R143, R313, R314, R365, R367, R383, R384: an uncorrectable error within a containment region unwinds to the innermost handler;
a notice is delivered, LDDONE before LDFAULT before TIMER and a rollback before all, with s48 to s55 in the shadow; a core of the job
cuts after its PP bundle, or when PBOUND has passed, also where its task has halted, and its ownerships end. -/
def Obligations.NoticesUnwindsCuts : Prop :=
  ∀ (s : State) (c : Nat) (e : MemEvent) (r : Region) (rs : List Region),
    let k := s.core c
    let nvec := k.csrGet Csr.NVEC
    (k.running = true → k.contain.regions = rs ++ [r] → k.pend = { memUe := [e] } → e.due ≤ s.clk → (r.inNotice = true ∨ k.notice.running = false) →
      ∃ t, exec (.containmentUnwind c) s = .next t ∧ (t.core c).main = { pc := r.handler } ∧ (t.core c).level = 0 ∧ (t.core c).pend = {} ∧
        (t.core c).contain = { regions := rs, cause := BitVec.ofNat 64 ((rs.length + 1) * 2 ^ 16 + e.kind * 2 ^ 8 + 0x18), addr := e.addr, pc := e.pc } ∧
        CoreOnly s t c { parts := [.regions, .berth] }) ∧
    (k.contain.regions = [] → exec (.containmentUnwind c) s = .next s) ∧
    (AtBoundary k {} → k.windows = [] → k.notice.running = false → k.berth.demand = none →
      (∀ (handler : Word64) (cause tag : Nat) (detail : Word64) (rest : Notice),
        (∃ ts, nvec ≠ 0 ∧ k.notice.rollback = none ∧ k.notice.ldDone = tag :: ts ∧ handler = nvec ∧ cause = 1 ∧ detail = 0 ∧
          rest = { k.notice with ldDone := ts }) ∨
        (∃ ts, nvec ≠ 0 ∧ k.notice.rollback = none ∧ k.notice.ldDone = [] ∧ k.notice.ldFault = (tag, detail) :: ts ∧ handler = nvec ∧ cause = 2 ∧
          rest = { k.notice with ldFault := ts }) ∨
        (nvec ≠ 0 ∧ k.notice.rollback = none ∧ k.notice.ldDone = [] ∧ k.notice.ldFault = [] ∧ k.notice.timer = some detail ∧ handler = nvec ∧
          cause = 3 ∧ tag = 0 ∧ rest = { k.notice with timer := none }) ∨
        (k.notice.rollback = some detail ∧ handler = k.csrGet Csr.RBENTRY ∧ handler ≠ 0 ∧ cause = 4 ∧ tag = 0 ∧
          rest = { k.notice with rollback := none }) →
        ∃ t, exec (.noticeDelivery c) s = .next t ∧ (t.core c).main = { pc := handler } ∧ (t.core c).s 48 = BitVec.ofNat 64 cause ∧
          (t.core c).s 49 = BitVec.ofNat 64 tag ∧ (t.core c).s 50 = k.main.pc ∧ (t.core c).s 51 = detail ∧
          (t.core c).notice.running = true ∧ (t.core c).notice.saved = k.main.pc ∧ (t.core c).notice.hold = k.main.hold ∧
          (∀ i, i < 8 → (t.core c).notice.shadow.getD i 0 = k.sNat (48 + i)) ∧ (t.core c).notice.ldDone = rest.ldDone ∧
          (t.core c).notice.ldFault = rest.ldFault ∧ (t.core c).notice.timer = rest.timer ∧ (t.core c).notice.rollback = rest.rollback ∧
          (t.core c).level = 0 ∧ CoreOnly s t c { regs := [.s 48, .s 49, .s 50, .s 51], parts := [.notice, .berth] }) ∧
      (nvec = 0 → k.notice.rollback = none → exec (.noticeDelivery c) s = .next s)) ∧
    (k.notice.running = true → exec (.noticeDelivery c) s = .next s) ∧
    (s.snap.phase = 1 → s.snap.moduleCut = false → s.jobCore c = true → k.berth.demand = none →
      let cutState : State := (s.setCore c { k with cut := true, pend := { k.pend with cutNow := false } }).endOwned fun _ o => o = c
      (k.running = true → k.pend.cutNow = true → exec (.coreCut c) s = .next cutState) ∧
      (k.running = true ∨ k.level = 0 ∧ k.cut = false ∧ k.haltedTask.isSome = true → (k.csrGet Csr.PBOUND).toNat ≤ k.cutAge →
        exec (.cutForced c) s = .next cutState)) ∧
    (k.pend.cutNow = false → exec (.coreCut c) s = .next s) ∧
    (s.snap.phase ≠ 1 → exec (.cutForced c) s = .next s)

/-! ### Events: results, passes, demands, engines -/

/-- R15, R66, R93, R123, R185, R313, R316, R346, R436: in its pipeline's turn, and at no other time, the next bundle reaches issue, and one of a
single instruction does what that instruction does; a result or a queue entry may land before its bound, with its flags; an NTREQ's result and a SETFMT's image take effect when their counts have run out; SPLIT waits
for the SRAM, keeps the bytes that stay scratchpad and drops the load-blocks; TCMP may fire at once; a page-in is asked for by MSI. -/
def Obligations.ResultEvents : Prop :=
  ∀ (s : State) (c : Nat) (v : Word64),
    let k := s.core c
    (c = s.turn → AtPipe s → (k.level = 0 → s.ovn.running = true → s.ovn.core ≠ c) → ∀ g : Got, s.fetch c k.pipe.pc = .ok g →
      exec (.bundleIssue c) s = .next (s.latch c g).issueLatched.pipeDone ∧
      ∀ (i : Instr) (u : State), decodeWords ((s.latch c g).core c).ir.words = ([], [i]) → exec i (s.latch c g) = .next u →
        exec (.bundleIssue c) s = .next u.pipeDone) ∧
    (c ≠ s.turn ∨ s.units = true → exec (.bundleIssue c) s = .next s) ∧
    (∀ w : Window, k.windows = [w] → w.late = false → s.clk < w.due → (∀ (q : QReg), ∀ e ∈ k.q q, e.flags = 0) → ∃ t, exec (.resultLanding c 0) s = .next t ∧
      (∀ cy r, (t.core c).inFlight cy r = false) ∧ (t.core c).csrGet Csr.FFLAGS = k.csrGet Csr.FFLAGS ||| w.flags.zeroExtend 64 ∧
      CoreOnly s t c { csrs := [Csr.FFLAGS] }) ∧
    (∀ w : Window, k.windows = [w] → w.late = true → exec (.resultLanding c 0) s = .next s) ∧
    (∀ (j i : Nat) (q : QReg) (e : QEntry), k.windows = [] → (∀ (n : QReg), ∀ x ∈ k.q n, x.isIn s.clk = true → x.flags = 0) →
      (k.flying s.clk)[j]? = some (q, i) → (k.q q)[i]? = some e → ∃ t, exec (.resultLanding c j) s = .next t ∧
        (t.core c).q q = (k.q q).set i { e with landed := true, flags := 0 } ∧
        (t.core c).csrGet Csr.FFLAGS = k.csrGet Csr.FFLAGS ||| e.flags.zeroExtend 64 ∧ CoreOnly s t c { queues := [q], csrs := [Csr.FFLAGS] }) ∧
    (∀ r : NtResult, k.nt = [r] → r.left = 0 → r.target < 4 → ∃ t, exec (.ntreqResult c) s = .next t ∧
      (t.core c).sNat (60 + r.target) = r.value ∧ (t.core c).p 63 = r.null ∧ (t.core c).nt = [] ∧
      CoreOnly s t c { regs := [.s (60 + r.target), .p 63] }) ∧
    (∀ (i : BitVec 17) (n : Nat), n ≤ 1 → k.fmtPend = [(i, n)] → ∃ t, exec (.setfmtEffect c) s = .next t ∧ (t.core c).csrGet Csr.FMTN = i.zeroExtend 64 ∧
      (t.core c).fmtPend = [] ∧ CoreOnly s t c { csrs := [Csr.FMTN] }) ∧
    (k.splitWaits = true → exec (.splitWrite c v) s = .next s) ∧
    (k.splitWaits = false → s.owned = [] → ∃ t, exec (.splitWrite c v) s = .next t ∧
      (t.core c).csrGet Csr.SPLIT = (k.csrGet Csr.SPLIT &&& ~~~0xF#64) ||| (v &&& 0xF) ∧ (t.core c).blocks = [] ∧
      CoreOnly s t c { csrs := [Csr.SPLIT], spad := fun o => k.spSize ≤ o ∧ o < (t.core c).spSize, parts := [.blocks] }) ∧
    (let now := s.tframe (s.tenantNow c)
     ∃ t, exec (.tcmpWrite c v) s = .next t ∧ CoreOnly s t c { csrs := [Csr.TCMP], parts := [.notice] } ∧
      (v.toNat < 2 ^ 63 ∨ now < v.toNat % 2 ^ 63 → (t.core c).csrGet Csr.TCMP = v ∧ (t.core c).notice = k.notice) ∧
      (2 ^ 63 ≤ v.toNat → v.toNat % 2 ^ 63 ≤ now → (t.core c).csrGet Csr.TCMP = BitVec.ofNat 64 (v.toNat % 2 ^ 63) ∧
        (t.core c).notice = { k.notice with timer := some (k.notice.timer.getD (BitVec.ofNat 64 now)) })) ∧
    (k.pagein = true → exec (.pageinRequest c v) s = .next s) ∧
    (k.pagein = false → ∃ t, exec (.pageinRequest c v) s = .next t ∧ (t.core c).pagein = true ∧ (t.core c).pageinAns = none ∧
      (∀ j, j < 64 → ((t.core c).csrGet Csr.PGREQ).getLsbD j =
        if (0x01FFFFFFFFFF0001#64).getLsbD j then v.getLsbD j else (k.csrGet Csr.PGREQ).getLsbD j) ∧
      (t.ctlGet (Ctl.XPEND 1 (c / 64))).getLsbD (c % 64) = true ∧ CoreKept k (t.core c) { csrs := [Csr.PGREQ] } ∧
      (∀ d, d ≠ c → t.core d = s.core d) ∧ (∀ o, o ≠ Ctl.XPEND 1 (c / 64) → t.ctlGet o = s.ctlGet o) ∧ t.mem = s.mem)

/-- R96 to R101, R222 to R224, R227, R240, R241, R258: an MPASSD starts with its tile once the unit is free; a started pass commits every element
of its accumulator with its flags; the writes of an MSTOREC are performed in ascending rows; a demand that completes leaves its node free,
its registers MATERIAL and its flags; a break that differs by more than REPLAN allows from what its plan recorded counts against it. -/
def Obligations.UnitEvents : Prop :=
  ∀ (s : State) (c : Nat),
    let k := s.core c
    let at32 (k : Core) (q i j : Nat) : Nat := laneOf 32 (k.row q i).toNat j
    let whole := s.owned = [] ∧ s.wordPoison = [] ∧ s.sectorPoison = [] ∧ bitAt (s.ctlGet Ctl.PSTBASE).toNat 0 = false
    (∀ p : Pass, k.passes = [p] → p.start = none → k.matFree ≤ s.clk → s.hist = [] → whole → ∃ t, exec (.mpassdStart c) s = .next t ∧
      (t.core c).passes = [{ p with b := some ((List.range 64).map fun i => BitVec.ofNat 1024 (s.natAt (p.bAt.getD i 0) 128)),
                                    start := some s.clk }] ∧
      (t.core c).matFree = s.clk + passInterval (fmtnOf p.fmtn) p.fmt ∧ CoreOnly s t c { parts := [.matrix] }) ∧
    (s.clk < k.matFree → exec (.mpassdStart c) s = .next s) ∧
    (∀ (p : Pass) (b : List (BitVec 1024)), k.passes = [p] → p.start.isSome = true → p.b = some b → p.junk = [] → p.aPoison = 0 → p.bPoison = false →
      (p.fmt = .f64 → p.acc % 2 = 0) →
      let elt (k : Core) (i j : Nat) : Nat := if p.fmt = .f64 then at32 k p.acc i j + at32 k (p.acc + 1) i j * 2 ^ 32 else at32 k p.acc i j
      let e (i j : Nat) : Nat × Flags :=
        passElement (fmtnOf p.fmtn) p.fmt p.seq.toNat p.sat (elt k i j) (p.a.getD i 0).toNat (b.getD j 0).toNat
      ∃ t, exec (.passCommit c 0) s = .next t ∧ (t.core c).passes = [] ∧ (∀ i j, i < 64 → j < 64 → elt (t.core c) i j = (e i j).1) ∧
        (∀ m, m < 8 → ((t.core c).csrGet Csr.FFLAGS).getLsbD m = ((k.csrGet Csr.FFLAGS).getLsbD m ||
          (List.range 64).any fun i => (List.range 64).any fun j => (e i j).2.getLsbD m)) ∧
        CoreOnly s t c { regs := .c p.acc :: (if p.fmt = .f64 then [.c (p.acc + 1)] else []), csrs := [Csr.FFLAGS], parts := [.matrix] }) ∧
    (k.mayCommit 0 = false → exec (.passCommit c 0) s = .next s) ∧
    (∀ (m : MStore) (ms : List MStore), k.mstores = m :: ms → s.teller = none → whole → (∀ w ∈ m.writes, w.2.2 = false) →
      let covers (w : Nat × List Byte × Bool) (y : Nat) : Prop := w.1 ≤ y ∧ y < w.1 + w.2.1.length
      ∃ t, exec (.mstorecWritesPerformed c) s = .next t ∧ (t.core c).mstores = ms ∧
        (t.core c).csrGet Csr.FFLAGS = k.csrGet Csr.FFLAGS ||| m.flags.zeroExtend 64 ∧
        (∀ (i : Nat) (w : Nat × List Byte × Bool) (x : Nat), m.writes[i]? = some w → x < w.2.1.length → (∀ (j : Nat) (w' : Nat × List Byte × Bool), i < j → m.writes[j]? = some w' → ¬ covers w' (w.1 + x)) →
          t.byte (w.1 + x) = w.2.1.getD x 0) ∧
        (∀ y, (∀ w ∈ m.writes, ¬ covers w y) → t.byte y = s.byte y) ∧
        CoreKept k (t.core c) { csrs := [Csr.FFLAGS], parts := [.matrix] } ∧ ∀ d, d ≠ c → CoreKept (s.core d) (t.core d) {}) ∧
    (∀ d : Demand, k.berth.demand = some d → d.breaks = [] → d.ate = none → d.lost = none → d.why = 0 → d.full = true →
      let named (r : DReg) : Bool := decide (pendingNode (k.d r) = some d.node)
      ∃ t, exec (.demandComplete c d.node) s = .next t ∧ (t.core c).berth.demand = none ∧ Map.find (t.core c).berth.nodes d.node = none ∧
        (∀ n, n ≠ d.node → (Map.find (t.core c).berth.nodes n).isSome = (Map.find k.berth.nodes n).isSome) ∧
        (∃ h, (t.core c).berth.forced = (0, d.pc, h) :: k.berth.forced) ∧
        (t.core c).csrGet Csr.FFLAGS = k.csrGet Csr.FFLAGS ||| d.flags.zeroExtend 64 ∧
        (∀ r : DReg, (t.core c).d r = (if named r then descMark (k.d r) 0 0 else k.d r) ∧
          (t.core c).regs.dpend.getLsbD r.toNat = (k.regs.dpend.getLsbD r.toNat && !named r)) ∧
        CoreOnly s t c { regs := (List.range 32).map .d, csrs := [Csr.FFLAGS], parts := [.berth] }) ∧
    (∀ n, (∀ d, k.berth.demand = some d → d.node ≠ n) → exec (.demandComplete c n) s = .next s) ∧
    (∀ (d : Demand) (density old : Nat) (finite was : Bool) (bs : List (Nat × Bool × Nat × Bool)), k.berth.demand = some d →
      d.breaks = (density, finite, old, was) :: bs →
      let s1 := s.setCore c { k with berth := { k.berth with demand := some { d with breaks := bs } } }
      let rp := (k.csrGet Csr.REPLAN).toNat
      let far : Bool := field rp 0 24 < (max density old - min density old) || (bitAt rp 24 && finite != was)
      let st := (k.csrGet Csr.PLANST).toNat
      let entry (j : Nat) (e : PlanEntry) : Prop := d.entry = some j ∧ Map.find k.berth.cache j = some e
      (∀ x y, (x, y) ≠ (density, finite) → exec (.breakEvaluated c x y) s = .next s) ∧
      (far = false → exec (.breakEvaluated c density finite) s = .next s1) ∧
      (far = true → d.why ≤ 1 → ∀ j e, entry j e → e.pin = true → ∃ t, exec (.breakEvaluated c density finite) s = .next t ∧
        (t.core c).csrGet Csr.PLANST = BitVec.ofNat 64 (setField st 32 16 (field st 32 16 + 1)) ∧
        (t.core c).berth.cache = Map.put k.berth.cache j { e with ovr := true } ∧ CoreOnly s t c { csrs := [Csr.PLANST], parts := [.berth] }) ∧
      (far = true → ∀ j e, entry j e → e.pin = false ∨ 1 < d.why → bitAt rp 31 = true → (d.why ≤ 1 → (k.csrGet Csr.PHWORD).getLsbD 4 = false) →
        ∃ t, exec (.breakEvaluated c density finite) s = .next t ∧
        (t.core c).csrGet Csr.PLANST = BitVec.ofNat 64 (setField st 48 16 (field st 48 16 + 1)) ∧
        (t.core c).berth.cache = Map.put k.berth.cache j { e with rpl := true } ∧ CoreOnly s t c { csrs := [Csr.PLANST], parts := [.berth] }))

/-- R140, R141, R144, R147, R149 to R152, R154: a unit of a copy moves its bytes; a unit that fails writes the record, and a translation failure
holds its request; a finished request leaves its engine, raises its flags and signals; RESUME lets held requests go on, ABORT ends
them, and either has stopped units retried; a landed tile becomes available with its finite mark; a filled load-block is done. -/
def Obligations.EngineEvents : Prop :=
  ∀ (s : State) (c : Nat) (e : Bool),
    let k := s.core c
    let g := k.eng e
    let plain := s.wordPoison = [] ∧ s.sectorPoison = [] ∧ s.owned = [] ∧ s.hist = [] ∧ s.teller = none ∧ k.scratchPoison = []
    (∀ (i n dst src da sa : Nat) (r : Req), g.reqs[i]? = some r → s.mayRun c e i r = true → s.behind c e i r = false → r.cut = false → plain → n ≤ 128 → 0 < n → r.done = 0 → r.header = 0 →
      dst < 2 ^ 64 → src < 2 ^ 64 →
      let unit (j : Nat) : Nat := min n (128 - j % 128)
      (r.op = .copy 1 3 1 n dst src 0 0 → dst + n ≤ k.spSize → src + n ≤ k.spSize → (src + n ≤ dst ∨ dst + n ≤ src) → k.spSize < 2 ^ 57 →
        ∃ t, exec (.engineUnitWritten c e i) s = .next t ∧ (∀ j, j < unit dst → (t.core c).sp (dst + j) = k.sp (src + j)) ∧
          ((t.core c).eng e).reqs[i]? = some { r with done := unit dst, started := true, retry := false } ∧
          CoreOnly s t c { spad := fun o => dst ≤ o ∧ o < dst + unit dst, parts := [.engines] }) ∧
      (r.op = .copy 1 2 1 n dst src 0 0 → src + n ≤ k.spSize → k.spSize < 2 ^ 57 → s.elementPa c r.root .write (dst : Int) = .ok da → da + 128 ≤ hbmSize →
        bitAt (s.ctlGet Ctl.PSTBASE).toNat 0 = false → s.touch c r.root .write dst = s →
        ∃ t, exec (.engineUnitWritten c e i) s = .next t ∧ (∀ j, j < unit dst → t.byte (da + j) = k.sp (src + j)) ∧
          ((t.core c).eng e).reqs[i]? = some { r with done := unit dst, started := true, retry := false } ∧
          (∀ y, ¬(da ≤ y ∧ y < da + unit dst) → t.byte y = s.byte y) ∧ CoreKept k (t.core c) { parts := [.engines] }) ∧
      (r.op = .copy 1 1 1 n dst src 0 0 → dst + n ≤ k.spSize → k.spSize < 2 ^ 57 → src % 128 = 0 → s.elementPa c r.root .read (src : Int) = .ok sa →
        s.touch c r.root .read src = s →
        ∃ t, exec (.engineUnitWritten c e i) s = .next t ∧ (∀ j, j < unit dst → (t.core c).sp (dst + j) = s.byte (sa + j)) ∧
          ((t.core c).eng e).reqs[i]? = some { r with done := unit dst, started := true, retry := false } ∧
          CoreOnly s t c { spad := fun o => dst ≤ o ∧ o < dst + unit dst, parts := [.engines] })) ∧
    (∀ (i kind va : Nat) (r : Req), g.reqs[i]? = some r → s.mayRun c e i r = true → s.behind c e i r = false → s.nextUnit c r = .fail kind va → r.header = 0 → g.record = none →
      let shown : Word64 := if 3 ≤ kind ∧ kind ≤ 6 then 0 else BitVec.ofNat 64 va
      exec (.engineUnitWritten c e i) s = .next s ∧
      ∃ t, exec (.engineUnitFailure c e i) s = .next t ∧
        ((t.core c).eng e).record = some { kind := kind, opc := r.op.opc, addr := shown, pc := r.pc, time := s.clk } ∧
        (kind = 1 → r.op.opc ≠ 4 → ((t.core c).eng e).reqs[i]? = some { r with held := true, started := true, retry := false } ∧
          CoreOnly s t c { parts := [.engines] }) ∧
        (kind ≠ 1 → r.op.opc ≤ 3 ∨ 8 ≤ r.op.opc ∧ r.op.opc ≤ 11 →
          ((t.core c).eng e).reqs[i]? = some { r with ended := true, held := false, stopped := false, retry := false, recorded := true, started := true } ∧
          CoreOnly s t c { parts := [.engines] })) ∧
    (∀ (r : Req) (rest : List Req), g.reqs = r :: rest → r.held = false → r.stopped = false → s.finished c r = true → s.recordShown c e r = true →
      r.header = 0 → r.op.opc ≠ 4 → s.inbound = [] →
      ∃ t, exec (.engineRequestComplete c e) s = .next t ∧ (t.core c).eng e = { g with reqs := rest } ∧ (t.core c).eng (!e) = k.eng (!e) ∧
        (t.core c).w r.sg.sem = (if r.sg.sig then k.w r.sg.sem + 1 else k.w r.sg.sem) ∧
        (t.core c).csrGet Csr.FFLAGS = k.csrGet Csr.FFLAGS ||| r.flags.zeroExtend 64 ∧
        CoreOnly s t c { sems := [r.sg.sem], csrs := [Csr.FFLAGS], parts := [.engines] }) ∧
    (g.reqs = [] → exec (.engineRequestComplete c e) s = .next s) ∧
    (∀ x : EngRec, k.e0.record = some x → k.e1.record = none → s.cores.map Prod.fst = [c] →
      (∀ r ∈ k.e0.reqs, r.header = 0 ∧ r.op.opc ≤ 6) →
      (∃ t, exec (.engineResume c) s = .next t ∧ (t.core c).e0.record = none ∧ (t.core c).e1 = k.e1 ∧
        (t.core c).e0.reqs = k.e0.reqs.map (fun r =>
          if r.stopped then { r with held := false, stopped := false, retry := true } else { r with held := false }) ∧ CoreOnly s t c { parts := [.engines] }) ∧
      ∃ t, exec (.engineAbort c) s = .next t ∧ (t.core c).e0.record = none ∧ (t.core c).e1 = k.e1 ∧
        (t.core c).e0.reqs = k.e0.reqs.map (fun r =>
          if r.held then { r with ended := true, held := false, stopped := false, retry := false }
          else if r.stopped then { r with stopped := false, retry := true } else r) ∧
        CoreOnly s t c { parts := [.engines] }) ∧
    (k.presents = none → exec (.engineResume c) s = .next s ∧ exec (.engineAbort c) s = .next s) ∧
    (∀ (q : GReg) (i slot src fmt : Nat) (stride : Int) (sp : Bool) (r : Req), k.oldestPush q.toNat = some (e, i, r) →
      r.op = .rpush q.toNat slot src stride sp fmt → r.done = 64 → g.reqs[i]? = some r → slot < 16 →
      ∃ t, exec (.tileAvailable c q) s = .next t ∧ ringAvail ((t.core c).g q) = (ringAvail (k.g q) + 1) % 32 ∧
        ringHead ((t.core c).g q) = ringHead (k.g q) ∧ ringResv ((t.core c).g q) = ringResv (k.g q) ∧
        bitAt (ringFin ((t.core c).g q)) slot = k.tileFinite (fmtnOf r.fmtn) ((fmtOfCode fmt).getD .f32) (ringBase (k.g q) + slot * 8192) ∧
        ((t.core c).eng e).reqs[i]? = some { r with done := 65 } ∧ CoreOnly s t c { regs := [.g q.toNat], parts := [.engines] }) ∧
    (∀ q : GReg, k.oldestPush q.toNat = none → exec (.tileAvailable c q) s = .next s) ∧
    (∀ (tag base count : Nat) (ntc : Bool) (r : Req) (b : Block), k.e0.reqs = [r] → r.op = .ldblk tag base count ntc → r.started = true →
      count ≤ r.done → r.ended = false → Map.find k.blocks tag = some b → b.ticket = r.ticket →
      ∃ t, exec (.loadBlockComplete c tag) s = .next t ∧ Map.find (t.core c).blocks tag = some { b with done := true } ∧
        CoreOnly s t c { parts := [.blocks] }) ∧
    (k.e0.reqs = [] → k.e1.reqs = [] → ∀ tag, exec (.loadBlockComplete c tag) s = .next s)

/-! ### Events: links, snapshots, errors, accesses from outside -/

/-- R151, R158 to R161, R303, R322, R434: a link trains to another module alone; a link that goes down takes from the requests with traffic
on it what is still to come, and a SEND then ends with KIND LINK; a transfer that came over it ends, words that a lost module owns are
POISON, and CSEM falls free when no link is left for its owner. A data or abort flit for this member reaches the transfer of its key,
one for another member goes on, one of a reserved kind is dropped with an error record; credits bear on nothing else. -/
def Obligations.LinkEvents : Prop :=
  ∀ (s : State) (link peer plink : Nat) (f : Flit),
    let l := Map.get ({} : Link) s.links link
    let grp := s.groupOf f.group
    let owner := field (s.ctlGet Ctl.CSEM).toNat 0 2
    let key (x : Inbound) : Prop := x.group = f.group ∧ x.src = f.srcm ∧ x.tag = f.tag
    let comes := l.up = true ∧ l.rollback = false ∧ s.snap.phase ≠ 1 ∧ (∀ y ∈ s.snap.held, y.1 ≠ link) ∧ grp.1 = true ∧ f.dstm < grp.2.1
    let reaches := comes ∧ f.dstm = grp.2.2
    let linksOnly (t : State) : Prop := t = { s with links := t.links } ∧ ∀ n, n ≠ link → Map.get {} t.links n = Map.get ({} : Link) s.links n
    (link < 16 → peer ≠ s.modId → ∃ t, exec (.linkTrained link peer plink) s = .next t ∧ linksOnly t ∧
      Map.get {} t.links link = { l with up := true, peer := peer % 256, plink := plink % 16 }) ∧
    (16 ≤ link ∨ peer = s.modId → exec (.linkTrained link peer plink) s = .next s) ∧
    (l.up = false → exec (.linkDown link) s = .next s) ∧
    (l.up = true → s.snap.phase ≠ 1 → s.snap.held = [] → ∃ t, exec (.linkDown link) s = .next t ∧
      Map.get {} t.links link = { l with up := false, rollback := false, rbMarker := none } ∧
      (∀ n, n ≠ link → Map.get {} t.links n = Map.get ({} : Link) s.links n) ∧
      (∀ o, o ≠ Ctl.CSEM → t.ctlGet o = s.ctlGet o) ∧ (t.ctlGet Ctl.CSEM = s.ctlGet Ctl.CSEM ∨ owner = 2 ∧ t.ctlGet Ctl.CSEM = 0) ∧
      (owner = 2 → (∀ n, n ≠ link → (Map.get ({} : Link) s.links n).up = false) → t.ctlGet Ctl.CSEM = 0) ∧
      (∀ e, e ∈ t.owned ↔ e ∈ s.owned ∧ (e.2.owner < 320 ∨ t.reaches (e.2.owner - 320) = true)) ∧
      (∀ a, a ∈ t.wordPoison ↔ a ∈ s.wordPoison ∨ ∃ e ∈ s.owned, e.1 = a ∧ e ∉ t.owned ∧ e.2.home = false) ∧
      (∀ x ∈ s.inbound, (x.link ≠ some link ∨ x.ended = true → x ∈ t.inbound) ∧
        (x.link = some link → x.ended = false → x.discard = false → { x with ended := true, cut := true } ∈ t.inbound)) ∧
      t.out = s.out ∧ t.mem = s.mem ∧ t.snap = s.snap ∧ (∀ d, CoreKept (s.core d) (t.core d) { parts := [.engines] }) ∧
      ∀ (c member g dst src tag len : Nat) (sp : Bool) (r : Req), (s.core c).e0.reqs = [r] → (s.core c).e0.record = none → r.header = 0 →
        r.op = .send sp g dst src tag len → r.started = true → r.ended = false → r.held = false → r.stopped = false → r.retry = false →
        r.via = [(member, link)] → r.sent < flitCount len →
        (t.core c).e0.reqs = [{ r with cut := true }] ∧ ∃ u x, exec (.engineUnitFailure c false 0) t = .next u ∧
          (u.core c).e0.record = some x ∧ x.kind = 3 ∧ x.opc = 13 ∧ x.pc = r.pc ∧ x.addr = 0 ∧ (u.core c).e0.reqs.map Req.ended = [true]) ∧
    (f.kind = 0 → reaches → (∀ x ∈ s.inbound, key x → x.ended = true) →
      ∃ t x, exec (.dataFlitReceive link f) s = .next t ∧ t = { s with inbound := s.inbound ++ [x] } ∧
        x.group = f.group ∧ x.src = f.srcm ∧ x.tag = f.tag ∧ x.ended = f.fin ∧ x.len = f.offset + f.len ∧ x.taker = none ∧ x.link = some link ∧
        ∀ i, i < f.len → Map.find x.bytes (f.offset + i) = some (f.payload.getD i 0)) ∧
    (∀ (x : Inbound) (before after : List Inbound), reaches → s.inbound = before ++ x :: after → key x → x.ended = false →
      (∀ y ∈ before, key y → y.ended = true) →
      (f.kind = 0 → x.discard = false → ∃ t y, exec (.dataFlitReceive link f) s = .next t ∧ t = { s with inbound := before ++ y :: after } ∧
        y.ended = f.fin ∧ y.taker = x.taker ∧ y.link = some link ∧ y.len = max x.len (f.offset + f.len) ∧
        (∀ i, i < f.len → Map.find y.bytes (f.offset + i) = some (f.payload.getD i 0)) ∧
        ∀ o, ¬(f.offset ≤ o ∧ o < f.offset + f.len) → Map.find y.bytes o = Map.find x.bytes o) ∧
      (f.kind = 3 → f.fin = true → x.discard = false →
        exec (.abortFlitReceive link f) s = .next { s with inbound := before ++ { x with ended := true, aborted := true } :: after }) ∧
      (x.discard = true → f.fin = true → (f.kind = 0 → exec (.dataFlitReceive link f) s = .next { s with inbound := before ++ after }) ∧
        (f.kind = 3 → exec (.abortFlitReceive link f) s = .next { s with inbound := before ++ after })) ∧
      (x.discard = true → f.kind = 0 → f.fin = false → exec (.dataFlitReceive link f) s = .next s)) ∧
    (f.kind = 3 → f.fin = true → reaches → (∀ x ∈ s.inbound, key x → x.ended = true) → exec (.abortFlitReceive link f) s =
      .next { s with inbound := s.inbound ++ [{ group := f.group, src := f.srcm, tag := f.tag, ended := true, aborted := true, link := some link }] }) ∧
    (f.kind = 3 → f.fin = false → reaches →
      (∀ (x : Inbound) (before after : List Inbound), s.inbound = before ++ x :: after → key x → (∀ y ∈ before ++ after, ¬ key y) →
        exec (.abortFlitReceive link f) s = .next (if x.ended then { s with inbound := before ++ { x with aborted := true } :: after } else s)) ∧
      ((∀ x ∈ s.inbound, ¬ key x) → s.collBusy f.group f.tag = false → exec (.abortFlitReceive link f) s = .next s)) ∧
    (∀ n, f.kind = 0 ∨ f.kind = 3 → comes → f.dstm ≠ grp.2.2 → s.transferLink (s.memberModule f.group f.dstm) f.tag = some n →
      exec (if f.kind = 0 then .dataFlitReceive link f else .abortFlitReceive link f) s = .next { s with out := s.out ++ [(n, f)] }) ∧
    (f.kind = 0 ∨ f.kind = 3 → l.up = true → l.rollback = true →
      exec (if f.kind = 0 then .dataFlitReceive link f else .abortFlitReceive link f) s =
        .next { s with snap := { s.snap with held := s.snap.held ++ [(link, .flit f)] } }) ∧
    (l.up = false ∧ f.kind = 0 ∨ 0 < f.kind ∧ f.kind < 4 → exec (.dataFlitReceive link f) s = .next s) ∧
    (4 ≤ f.kind → (RingReady s → ∃ t, exec (.dataFlitReceive link f) s = .next t ∧ Logged s t 9 0 link f.offset ∧ t.inbound = s.inbound) ∧
      ((s.ctlGet Ctl.ERRBASE).getLsbD 63 = false → exec (.dataFlitReceive link f) s = .next s)) ∧
    (l.up = false ∨ f.kind ≠ 3 → exec (.abortFlitReceive link f) s = .next s) ∧
    exec (.creditFlitReceive link f) s = .next s

/-- R112, R113, R364, R381, R384 to R387, R389 to R391: the first marker of an epoch starts it, later ones are noted per link, and any other is
dropped with an error record; the module cut opens the manifest, records contexts and graphs and sends markers on every link and path; a
die arms when every link and path to it has its marker, its DIRTY granules becoming ARMED, and the last one ends the cut; an ARMED granule
is copied once, and is then COPIED or, in the background, CLEAN, or DIRTY where no room is left; a manifest whose copies are done ends. -/
def Obligations.SnapshotEvents : Prop :=
  ∀ (s : State) (link die g : Nat) (f : Flit),
    let l := Map.get ({} : Link) s.links link
    let member := link ∈ s.memberLinks ∧ f.group = s.snapGroup
    let on := bitAt (s.ctlGet Ctl.SNAPCFG).toNat 63 = true
    let next := s.snap.epoch + 1
    let clean := s.owned = [] ∧ s.wordPoison = [] ∧ s.sectorPoison = []
    let quietRing := (s.ctlGet Ctl.ERRBASE).getLsbD 63 = false
    let size := field (s.ctlGet Ctl.SNAPAREA).toNat 40 24
    let head := field (s.ctlGet Ctl.SNAPPOS).toNat 0 32
    let dropped (ins : Instr) : Prop := (quietRing → exec ins s = .next s) ∧ (RingReady s → ∃ t, exec ins s = .next t ∧ Logged s t 9 0 link f.offset ∧
      t.snap = s.snap ∧ t.links = s.links ∧ ∀ c, CoreKept (s.core c) (t.core c) {})
    (f.kind = 2 → f.offset < 2 ^ 63 →
      (on → member → s.snap.phase ≠ 1 → f.offset = next → ∃ t, exec (.markerReceive link f) s = .next t ∧
        t.snap.phase = 1 ∧ t.snap.epoch = next ∧ t.snap.moduleCut = false ∧ t.snap.armed = [] ∧ t.snap.paths = [] ∧
        t.snap.old = (if s.snap.phase = 2 then some s.snap.cur else none) ∧ (Map.get ({} : Link) t.links link).marker = true ∧
        (∀ n, n ≠ link → (Map.get ({} : Link) t.links n).marker = false) ∧ (∀ c, (t.core c).cut = false ∧ CoreKept (s.core c) (t.core c) {}) ∧
        t.mem = s.mem ∧ t.ctl = s.ctl ∧ t.out = s.out) ∧
      (on → member → s.snap.phase = 1 → f.offset = s.snap.epoch → l.marker = false →
        exec (.markerReceive link f) s = .next { s with links := Map.put s.links link { l with marker := true } }) ∧
      (¬(on ∧ member ∧ (s.snap.phase ≠ 1 ∧ f.offset = next ∨ s.snap.phase = 1 ∧ f.offset = s.snap.epoch ∧ l.marker = false)) →
        dropped (.markerReceive link f))) ∧
    (f.kind ≠ 2 ∨ 2 ^ 63 ≤ f.offset → exec (.markerReceive link f) s = .next s) ∧
    (f.kind ≠ 2 ∨ f.offset < 2 ^ 63 → exec (.rollbackMarkerReceive link f) s = .next s) ∧
    (f.kind = 2 → 2 ^ 63 ≤ f.offset → (¬ member → dropped (.rollbackMarkerReceive link f)) ∧
      (member → s.snap.held = [] → ∃ t, exec (.rollbackMarkerReceive link f) s = .next t ∧
        t = { s with links := t.links } ∧ (∀ n, n ≠ link → Map.get {} t.links n = Map.get ({} : Link) s.links n) ∧
        Map.get {} t.links link = if l.rollback = true ∧ f.offset % 2 ^ 63 = s.snap.epoch then { l with rollback := false }
          else { l with rbMarker := some (f.offset % 2 ^ 63) })) ∧
    (s.snap.phase ≠ 1 ∨ s.snap.moduleCut = true ∨ s.allCut = false → exec .moduleCut s = .next s) ∧
    (s.snap.phase = 1 → s.snap.moduleCut = false → s.areaFull = false → s.areaNext ≠ 0 → clean → bitAt (s.ctlGet Ctl.PSTBASE).toNat 0 = false →
      let common (t : State) : Prop := exec .moduleCut s = .next t ∧ t.snap.moduleCut = true ∧
        (∀ n, Map.get 0 t.snap.passed n = if n = s.snapTenant then s.snap.epoch else Map.get 0 s.snap.passed n) ∧ t.snap.cur.addr = s.areaNext ∧
        t.ctlGet Ctl.SNAPLAST = BitVec.ofNat 64 s.areaNext ∧ t.out = s.out ++ s.memberLinks.map (fun n => (n, s.markerFlit false s.snap.epoch n)) ∧
        t.snap.onPaths = s.snap.onPaths ++ diePaths.map (fun p => (p, pathFlit s.snap.epoch)) ∧
        t.snap.cur.graphs = (s.graphs.filter fun e => e.2.tenant = s.snapTenant).map (fun e => graphImage e.2) ∧
        t.natAt (s.areaNext + 8) 8 = s.snap.epoch % 2 ^ 64 ∧ t.natAt (s.areaNext + 16) 8 = (s.ctlGet Ctl.SNAPLAST).toNat ∧
        (∀ d, CoreKept (s.core d) (t.core d) {}) ∧ ∀ y, y < s.areaNext → t.byte y = s.byte y
      (s.jobCores = [] → ∃ t, common t ∧ t.snap.cur.contexts = s.snap.cur.contexts) ∧
      ∀ c, s.jobCores = [c] → let k := s.core c
        (k.frozen = true → ∃ t, common t ∧ t.snap.cur.contexts = s.snap.cur.contexts ++ [((s.logicalOf c).getD 0, c, 0)] ∧ t.snap.cur.lossy = true) ∧
        (k.frozen = false → k.haltedTask = none → s.allCut = true → (∀ x y, k.rowBad x y = false) → k.scratchPoison = [] →
          (∀ q : QReg, (k.q q).length ≤ 4 ∧ ∀ e ∈ k.q q, e.poison = false) → s.taskReqs c false = [] → s.taskReqs c true = [] →
          let n := (imageSize (k.spSize / 262144) + 1536 + 65535) / 65536
          let pa (o : Nat) : Nat := s.areaNext + 65536 + o
          head % size + n + 1 ≤ size → head + n + 1 < 2 ^ 32 → (head + 2 ^ 32 - field (s.ctlGet Ctl.SNAPPOS).toNat 32 32) % 2 ^ 32 + n + 1 ≤ size →
          s.areaNext + 65536 * (n + 1) ≤ hbmSize →
          ∃ t, common t ∧ t.snap.cur.contexts = s.snap.cur.contexts ++ [((s.logicalOf c).getD 0, c, pa 0)] ∧ ImageOf t pa k ∧
            imageNat t pa 0 8 = 1 ∧ imageNat t pa 8 8 = k.main.pc.toNat ∧ imageNat t pa 0x18 8 = 0)) ∧
    (s.mayArm die = true ↔ s.snap.phase = 1 ∧ s.snap.moduleCut = true ∧ s.snap.old = none ∧ die ∉ s.snap.armed ∧ die < 8 ∧
      (∀ n ∈ s.memberLinks, (Map.get ({} : Link) s.links n).marker = true) ∧ ∀ d, d < 9 → d ≠ die → 9 * d + die ∈ s.snap.paths) ∧
    (s.mayArm die = false → s.snap.held = [] → exec (.snapshotArm die) s = .next s) ∧
    (s.mayArm die = true → s.snap.held = [] → quietRing → (∀ c ∈ s.jobCores, (s.core c).haltedTask = none) → ∃ t, exec (.snapshotArm die) s = .next t ∧
      (∀ d, d ∈ t.snap.armed ↔ d ∈ s.snap.armed ∨ d = die) ∧ t.snap.phase = (if t.snap.armed.length = 8 then 2 else 1) ∧
      (∀ x ∈ s.tracked, stackOf (x * 65536) / 2 = die → s.pageState x = some 3 → t.pageState x = some 1 ∧ (x, 0, false) ∈ t.snap.cur.granules) ∧
      ∀ c ∈ s.jobCores, t.snap.armed.length = 8 → (t.core c).cut = false ∧ (t.core c).csrGet Csr.SNAPEP = BitVec.ofNat 64 s.snap.epoch) ∧
    (s.pageState g ≠ some 1 → exec (.granuleCopy g) s = .next s ∧ exec (.backgroundCopy g) s = .next s) ∧
    (s.writeWaits g = false → exec (.granuleCopy g) s = .next s) ∧
    (∀ bg : Bool, s.pageState g = some 1 → s.writeWaits g = true ∨ bg = true →
      let copy : Instr := if bg then .backgroundCopy g else .granuleCopy g
      (∀ table : Nat, s.areaFull = false → Memory.wf s.mem = true → s.pageByte g = some table → ¬(s.areaNext ≤ table ∧ table < s.areaNext + 65536) →
        ∃ t, exec copy s = .next t ∧ t.pageState g = some (if bg then 0 else 2) ∧
          (∀ o, o < 65536 → t.byte (s.areaNext + o) = s.byte (g * 65536 + o)) ∧
          (∀ y, y ≠ table → s.pageByte (s.areaNext / 65536) ≠ some y ∨ s.pageState (s.areaNext / 65536) ≠ some 0 →
            ¬(s.areaNext ≤ y ∧ y < s.areaNext + 65536) → t.byte y = s.byte y) ∧
          field (t.ctlGet Ctl.SNAPPOS).toNat 0 32 = (head + 1) % 2 ^ 32 ∧
          (∀ x ∈ s.snap.arming.granules, x.1 = g → ∃ y ∈ t.snap.arming.granules, y.1 = g ∧ y.2.1 = s.areaNext)) ∧
      (s.areaFull = true → quietRing → ∃ t, exec copy s = .next t ∧ t.snap.arming.failed = true ∧
        ∀ x ∈ s.snap.arming.granules, s.pageState x.1 = some 1 → t.pageState x.1 = some 3)) ∧
    (s.mayEnd = false → exec .manifestEnd s = .next s) ∧
    (let m := s.snap.cur;
      s.snap.old = none → s.snap.phase = 2 → (∀ x ∈ m.granules, x.2.1 ≠ 0) → m.failed = false → m.addr ≠ 0 → m.addr % 65536 = 0 →
      m.addr < hbmSize → field (s.ctlGet Ctl.SNAPAREA).toNat 16 24 ≤ m.addr / 65536 →
      m.addr / 65536 < field (s.ctlGet Ctl.SNAPAREA).toNat 16 24 + size → 32 + m.sections.length ≤ 65536 → clean →
      s.pageState (m.addr / 65536) = none → (∀ x y, x = m.addr / 65536 ∨ x ∈ m.granules.map Prod.fst → s.pageByte x = some y → ¬(m.addr ≤ y ∧ y < m.addr + 65536)) →
      ∃ t, exec .manifestEnd s = .next t ∧ t.snap = { s.snap with phase := 0, cur := {} } ∧
        (t.byte (m.addr + 2)).toNat = (if m.lossy then 3 else 1) ∧ t.natAt (m.addr + 32) 4 = m.granules.length ∧
        t.natAt (m.addr + 36) 4 = m.channel.length ∧ t.natAt (m.addr + 40) 4 = m.contexts.length ∧ t.natAt (m.addr + 44) 4 = m.graphs.length ∧
        (∀ x ∈ m.granules, t.pageState x.1 = if s.pageState x.1 = some 2 then some 3 else s.pageState x.1) ∧
        (∀ d, CoreKept (s.core d) (t.core d) {}) ∧ t.ctl = s.ctl)

/-- R126, R131, R296, R302, R361 to R364, R374 to R376, R386, R419 to R421: an error in a protected array is logged, and corrected or left in
what the array holds; a fatal one in a predicate escalates the core. An access of a general core or a device applies at the home slice,
and only a general core reaches the registers; a device's address is physical where the IOMMU passes it on, and while the IOMMU is off
its request does nothing but leave a fault record (their layout is the RISC-V specification's: log 27); a peer core's store makes it
the words' owner, and waits for its link. A scan that ends writes its record and signals, a wrong signature withdraws its core, and a
task of high priority ends it early. -/
def Obligations.ErrorsAndAccesses : Prop :=
  ∀ (s : State) (c : Nat) (p : ArrayPlace) (q : BusAccess) (sig expected : Word64),
    let quietRing := (s.ctlGet Ctl.ERRBASE).getLsbD 63 = false
    let clean := s.owned = [] ∧ s.wordPoison = [] ∧ s.sectorPoison = [] ∧ bitAt (s.ctlGet Ctl.PSTBASE).toNat 0 = false
    let fatal (p : ArrayPlace) (r : State → Prop) : Prop := quietRing → ∃ t, exec (.arrayError p true) s = .next t ∧ r t ∧ t.mem = s.mem
    let owns (a : Nat) : Bool := (Map.find s.owned (a / 4)).any (·.owner = c)
    exec (.scrubVisit c) s = .next s ∧
    (quietRing → (∀ d a, p ≠ .l1 d a) → exec (.arrayError p false) s = .next s) ∧
    (∀ a, quietRing → owns a = false → ∀ x, ∃ t, exec (.arrayError (.l1 c a) x) s = .next t ∧ t = { s with cores := t.cores } ∧
      ∀ d, CoreKept (s.core d) (t.core d) {}) ∧
    (∀ a o i n r slice tenant id (x : Bool), RingReady s → a < 2 ^ 64 → ∀ e ∈ ([(.sector a, 1, stackOf a, a), (.l2 a, 2, sliceOf a, a), (.scratch c o, 3, c, o),
        (.queue c n i, 4, c, 64 * n + i), (.acc c n r, 5, c, 64 * n + r), (.scalar c n, 6, c, n)] : List (ArrayPlace × Nat × Nat × Nat)) ++
        (if owns a then [] else [(.l1 c a, 0, c, a)]),
      ∃ t, exec (.arrayError e.1 x) s = .next t ∧ Logged s t e.2.1 (if x ∧ e.2.1 ≠ 0 then 1 else 0) e.2.2.1 e.2.2.2 ∧
        (∃ t, exec (.arrayError (.pred c n) false) s = .next t ∧ Logged s t 7 0 c n) ∧
        (∃ t, exec (.arrayError (.slice a) false) s = .next t ∧ Logged s t 8 0 (sliceOf a) (a / 4)) ∧
        ∃ t, exec (.arrayError (.routine slice tenant id) x) s = .next t ∧ Logged s t 8 (if x then 4 else 0) slice (routineKey slice tenant id % 16384)) ∧
    (∀ a, fatal (.sector a) fun t => t.poisoned a 1 = true) ∧ (∀ a, fatal (.l2 a) fun t => t.poisoned a 1 = true) ∧
    (∀ o, fatal (.scratch c o) fun t => (t.core c).spBad o 1 = true) ∧
    (∀ (n : QReg) i (e : QEntry), ((s.core c).q n)[i]? = some e → fatal (.queue c n.toNat i) fun t =>
      (t.core c).q n = ((s.core c).q n).set i { e with poison := true }) ∧
    (∀ a r, a < 16 → r < 64 → fatal (.acc c a r) fun t => (t.core c).rowBad a r = true) ∧
    (∀ n : SReg, n ≠ 0 → fatal (.scalar c n.toNat) fun t => (t.core c).sBad n = true) ∧
    (∀ n, c < 320 → fatal (.pred c n) fun t => (t.core c).frozen = true ∧ (t.ctlGet (Ctl.XESC c)).toNat % 256 = 0x18) ∧
    (∀ a, fatal (.slice a) fun t => a / 4 ∈ t.wordPoison ∧ ∀ e ∈ t.owned, e.1 ≠ a / 4) ∧
    (∀ slice tenant id, fatal (.routine slice tenant id) fun t => Map.find t.routines (routineKey slice tenant id) = none) ∧
    (∀ g x, s.pageState g = some x → quietRing → ∃ t, exec (.arrayError (.pageState g) true) s = .next t ∧ t.pageState g = some 3) ∧
    (∀ a w, s.owned = [(a / 4, w)] → w.owner = c → quietRing → a < hbmSize → s.wordPoison = [] → s.sectorPoison = [] →
      bitAt (s.ctlGet Ctl.PSTBASE).toNat 0 = false → ∃ t, exec (.arrayError (.l1 c a) true) s = .next t ∧ t.owned = [] ∧ t.poisoned a 1 = true ∧
        (t.core c).pend.memUe.length = (s.core c).pend.memUe.length + 1) ∧
    (q.peer = none → q.op = .load → s.owned = [] → exec (.generalCoreAccess q) s = .next s) ∧
    (let bare := field (s.ioGet 0x10).toNat 0 4 = 1 ∧ q.ats = 0 ∧ q.addr / 4096 = (q.addr + q.data.length - 1) / 4096;
      (bare → q.peer = none → q.op = .load → s.owned = [] → exec (.deviceRequest q) s = .next s) ∧
      (∀ ins, ins = Instr.generalCoreAccess q ∨ ins = .deviceRequest q ∧ bare → q.peer = none → q.op ≠ .load → q.data ≠ [] →
        q.addr + q.data.length ≤ hbmSize → clean →
        ∃ t, exec ins s = .next t ∧ t.natAt q.addr q.data.length = busApply q.op (8 * q.data.length) (s.natAt q.addr q.data.length) (ofBytes q.data) ∧
          (∀ y, ¬(q.addr ≤ y ∧ y < q.addr + q.data.length) → t.byte y = s.byte y) ∧ t.ctl = s.ctl ∧ ∀ d, CoreKept (s.core d) (t.core d) {}) ∧
      (∀ off size v, off < 0x100000000 → q.op = .store → q.peer = none → q.addr = Ctl.base + off → q.data = toBytes size v → 0 < size → size ≤ 8 →
        exec (.generalCoreAccess q) s = exec (.registerWrite .general off size (BitVec.ofNat 64 (v % 2 ^ (8 * size)))) s ∧
        (bare → exec (.deviceRequest q) s = .next s))) ∧
    (field (s.ioGet 0x10).toNat 0 4 = 0 → q.addr / 4096 = (q.addr + q.data.length - 1) / 4096 → q.dev < 2 ^ 24 → q.addr < 2 ^ 64 →
      let size := 2 ^ (field (s.ioGet 0x28).toNat 0 5 + 1)
      let head := field (s.ioGet 0x30).toNat 0 32
      let tail := field (s.ioGet 0x30).toNat 32 32
      let fqcsr := field (s.ioGet 0x48).toNat 32 32
      let at_ := field (s.ioGet 0x28).toNat 10 44 * 4096 + 32 * tail
      (bitAt fqcsr 16 = false ∨ field fqcsr 8 2 ≠ 0 → exec (.deviceRequest q) s = .next s) ∧
      (bitAt fqcsr 16 = true → field fqcsr 8 2 = 0 → bitAt fqcsr 1 = false → (tail + 1) % size ≠ head → at_ + 32 ≤ hbmSize → clean →
        ∃ t, exec (.deviceRequest q) s = .next t ∧ t.natAt at_ 8 % 4096 = 256 ∧ t.natAt at_ 8 / 2 ^ 40 = max 1 q.dev - 1 ∧ t.natAt (at_ + 16) 8 = q.addr ∧
          (∀ y, ¬(at_ ≤ y ∧ y < at_ + 32) → t.byte y = s.byte y) ∧ field (t.ioGet 0x30).toNat 0 32 = head ∧
          field (t.ioGet 0x30).toNat 32 32 = (tail + 1) % size ∧ t.ctl = s.ctl ∧ ∀ d, CoreKept (s.core d) (t.core d) {})) ∧
    (∀ m w, q.peer = some m → q.op = .store → q.owns = true → q.data = toBytes 4 w → w < 2 ^ 32 → q.addr % 4 = 0 → q.addr + 4 ≤ hbmSize → clean →
      (∀ n, s.transferLink m (q.addr / 128) = some n → s.snap.phase ≠ 1 → (Map.get ({} : Link) s.links n).rollback = true →
        exec (.generalCoreAccess q) s = .next { s with snap := { s.snap with held := s.snap.held ++ [(n, .access { q with dev := 0 })] } }) ∧
      (s.transferLink m (q.addr / 128) = none → ∃ t, exec (.generalCoreAccess q) s = .next t ∧
        t.owned = [(q.addr / 4, { owner := 320 + m, value := BitVec.ofNat 32 w })] ∧ t.mem = s.mem ∧ t.ctl = s.ctl ∧ t.cores = s.cores)) ∧
    (∀ x : Scan, s.scans = [x] → x.target = c → x.core ≠ c → x.header = 0 → x.record + 32 ≤ hbmSize → clean → quietRing → s.frame < 2 ^ 64 → x.sem < 32 →
      let reported (t : State) (status cycles : Nat) (a b : Word64) : Prop := t.scans = [] ∧ t.natAt x.record 4 = status ∧
        t.natAt (x.record + 4) 4 = cycles ∧ t.natAt (x.record + 8) 8 = a.toNat ∧ t.natAt (x.record + 16) 8 = b.toNat ∧
        t.natAt (x.record + 24) 8 = s.frame ∧ (∀ y, ¬(x.record ≤ y ∧ y < x.record + 32) → t.byte y = s.byte y) ∧
        (t.core x.core).w (BitVec.ofNat 5 x.sem) = (s.core x.core).w (BitVec.ofNat 5 x.sem) + 1 ∧
        ∀ d, d ≠ c → CoreKept (s.core d) (t.core d) { sems := if d = x.core then [BitVec.ofNat 5 x.sem] else [] }
      (x.started + 400000 ≤ s.clk → ∃ t, exec (.scanComplete c sig expected) s = .next t ∧
        reported t (if sig = expected then 0 else 1) 400000 sig expected ∧
        ∀ d, d ∈ t.quarantine ↔ d ∈ s.quarantine ∨ sig ≠ expected ∧ d = c) ∧
      (s.clk < x.started + 400000 → exec (.scanComplete c sig expected) s = .next s) ∧
      (s.scanUnwanted c = true → ∃ t, exec (.scanAbort c) s = .next t ∧ reported t 2 (min 400000 (s.clk - x.started)) 0 0 ∧
        t.quarantine = s.quarantine) ∧
      (s.scanUnwanted c = false → exec (.scanAbort c) s = .next s))

/-! ### Faults at issue -/

/-- R76, R78, R79, R341, R342: a bundle of one slot that breaks the form of its instruction, that holds a privileged slot outside the
tender, that names a queue beyond the allotment, or that finds a queue without the entries or the room it needs, enters the tender
at level 1: the records say which check failed and in which position, TBND holds the slot words, and nothing else has changed. The
vector is TVEC, or TVECEM for an opcode that no map lists. -/
def Obligations.IssueFaults : Prop :=
  ∀ (s : State) (ins : Instr) (sl : Slot) (g : Guard) (m : WReg) (d a b : SReg) (n : BitVec 12) (p : Nat) (w : BitVec 44) (e : FormErr),
    let k := s.core s.turn
    let size (q : QReg) : Nat := (k.q q).length
    let pops (q : QReg) : Nat := (sl.qs.filter fun o => o.q = q && !o.peek).length
    let named := sl.qs.map (·.q) ++ sl.push
    let spare (q : QReg) : Prop := size q - pops q + (sl.push.filter (· = q)).length ≤ 4
    let enters (t : State) (order code pos : Nat) (vec : Word64) : Prop :=
      TrapEntered k (t.core s.turn) (BitVec.ofNat 64 (order * 2 ^ 40 + code)) k.ir.cp 0 (2 ^ pos) vec ∧
      (∀ x, x ≠ s.turn → t.core x = s.core x) ∧ t = { s with cores := t.cores } ∧
      ∀ i j, i < 8 → j < 44 → (let x := 32 + 44 * i + j
        ((t.core s.turn).csrGet (Csr.TBND0 + x / 64)).getLsbD (x % 64) = ((Map.find k.ir.words i).getD 0).getLsbD j)
    let tvec := k.csrGet Csr.TVEC
    k.level = 0 → k.skip = 0 → tvec ≠ 0 → k.csrGet Csr.TVECEM ≠ 0 →
      (slotOf ins = some sl → formFault ins = some e →
        ∃ t, exec ins s = .next t ∧ enters t (formCode e).2 (formCode e).1.num sl.pos (if e = .undefinedOp then k.csrGet Csr.TVECEM else tvec)) ∧
      (k.ir.words = [(p, w)] → p < 8 → decodeSlot p (splitSlot w) = .error e →
        enters s.issueLatched (match e with | .undefinedOp => 4 | .illegalBundle => 5 | .illegalFormat => 6)
          (match e with | .undefinedOp => 3 | .illegalBundle => 2 | .illegalFormat => 4) p
          (if e = .undefinedOp then k.csrGet Csr.TVECEM else tvec)) ∧
      (∀ x, (ins, x) ∈ [(.scan g m a b, 7), (.lcmapw g a b, 7), (.ctxsv g a, 7), (.ctxld g a, 7), (.eret g, 7)] →
        ∃ t, exec ins s = .next t ∧ enters t 7 9 x tvec) ∧
      (csrAssigned n = true → (csrPrivWrite n.toNat = true ∨ csrPrivRead n.toNat = true) →
        ins ∈ [.csrw g n a, .csrs g n a, .csrc g n a] → ∃ t, exec ins s = .next t ∧ enters t 7 9 0 tvec) ∧
      (csrAssigned n = true → csrPrivRead n.toNat = true → ∃ t, exec (.csrr g d n) s = .next t ∧ enters t 7 9 0 tvec) ∧
      (slotOf ins = some sl → formFault ins = none → sl.priv = false → (∃ q ∈ named, k.qallot ≤ q.toNat) →
        ∃ t, exec ins s = .next t ∧ enters t 8 5 sl.pos tvec) ∧
      (slotOf ins = some sl → formFault ins = none → sl.priv = false → Ready s sl.guard → (∀ q ∈ named, q.toNat < k.qallot) →
        ((∃ q ∈ named, size q < pops q) → (∀ q ∈ named, pops q ≤ size q → spare q) →
          ∃ t, exec ins s = .next t ∧ enters t 9 7 sl.pos tvec) ∧
        ((∀ q ∈ named, pops q ≤ size q) → (∃ q ∈ named, ¬ spare q) → ∃ t, exec ins s = .next t ∧ enters t 9 6 sl.pos tvec))

/-- R107, R109, R133, R341, R344, R345: a scalar access that is misaligned takes ALIGN, and one that finds no leaf DATA-FAULT, with the
address and the kind of the access. The main pipeline's takes its tender to level 1, the tender's own to level 2 when a page-in could
resolve it; at level 2, and for every other fault on the tender, the core escalates: it freezes, XESC records level and code, and the
general cores are told. -/
def Obligations.AccessFaults : Prop :=
  ∀ (s : State) (g : Guard) (d a : SReg) (i : BitVec 17) (ins : Instr) (n : Nat) (write : Bool),
    let c := s.turn
    let k := s.core c
    let ea := memEa (k.s a) i
    let va := BitVec.ofNat 64 ea
    let cause (code : Nat) : Word64 := BitVec.ofNat 64 ((if write then 3 else 2) * 2 ^ 48 + 9 * 2 ^ 40 + code)
    let missing := vaValid ea = true ∧ ea % n = 0 ∧ s.walk (k.csrGet Csr.VMROOT) ea = none ∧ ∀ e ∈ k.tlb, e.granule ≠ field ea 16 41
    let enters (t : State) (code : Nat) : Prop :=
      TrapEntered k (t.core c) (cause code) k.ir.cp va 1 (k.csrGet Csr.TVEC) ∧ (∀ x, x ≠ c → t.core x = s.core x) ∧ t = { s with cores := t.cores }
    let escalates (t : State) (code : Nat) : Prop :=
      (t.core c).frozen = true ∧ (t.ctlGet (Ctl.XESC c)).toNat = 2 ^ 63 + k.level * 256 + code ∧
      (t.ctlGet (Ctl.XPEND 2 (c / 64))).getLsbD (c % 64) = true ∧ CoreKept k (t.core c) { parts := [.berth] } ∧
      (∀ x, x ≠ c → t.core x = s.core x) ∧ t.mem = s.mem
    ((ins, n, write) ∈ [(.ldb g d a i, 1, false), (.ldbn g d a i, 1, false), (.ldh g d a i, 2, false), (.ldhn g d a i, 2, false),
        (.ldw g d a i, 4, false), (.ldwn g d a i, 4, false), (.ldd g d a i, 8, false), (.stb g d a i, 1, true), (.sth g d a i, 2, true),
        (.stw g d a i, 4, true), (.std g d a i, 8, true)] →
      (Ready s g → k.csrGet Csr.TVEC ≠ 0 →
        (vaValid ea = true → ea % n ≠ 0 → ∃ t, exec ins s = .next t ∧ enters t 0x13) ∧
        (vaValid ea = false ∨ missing → ∃ t, exec ins s = .next t ∧ enters t 0x11)) ∧
      (Tending s g → k.level ≤ 2 → c < 320 →
        (missing → k.level = 1 → k.csrGet Csr.TVEC2 ≠ 0 → ∃ t, exec ins s = .next t ∧ (t.core c).level = 2 ∧
          (t.core c).csrGet Csr.TCAUSE2 = cause 0x11 ∧ (t.core c).csrGet Csr.TPC2 = k.ir.cp ∧ (t.core c).csrGet Csr.TADDR2 = va ∧
          (t.core c).tender = { pc := k.csrGet Csr.TVEC2, hold := [] } ∧ (t.core c).main = k.main ∧
          CoreKept k (t.core c) { csrs := [Csr.TCAUSE2, Csr.TPC2, Csr.TADDR2], parts := [.level] } ∧
          (∀ x, x ≠ c → t.core x = s.core x) ∧ t = { s with cores := t.cores }) ∧
        (missing → k.level = 2 ∨ k.csrGet Csr.TVEC2 = 0 → ∃ t, exec ins s = .next t ∧ escalates t 0x11) ∧
        (vaValid ea = false → ∃ t, exec ins s = .next t ∧ escalates t 0x11) ∧
        (vaValid ea = true → ea % n ≠ 0 → ∃ t, exec ins s = .next t ∧ escalates t 0x13))) ∧
    (∀ sl, slotOf ins = some sl → formFault ins = none → k.level = 1 ∨ k.level = 2 → c < 320 →
      (sl.pos ≠ 0 ∧ sl.pos ≠ 7 ∨ ∃ (w : WReg) (x : DReg) (e : BitVec 8) (z : Bool), ins ∈ [.trap g e, .halt g, .yield g, .nret g, .taskend g,
        .snap g, .cropen g i, .crclose g, .wait g w a, .waitCon g w a, .sysc g w a, .force g x a, .grow g i, .shrink g i, .spawn g z w a,
        .enq g d a, .deq g d a]) →
      ∃ t, exec ins s = .next t ∧ escalates t 2)

/-! ### Decoding, and what a step runs -/

/-- R34, R53, R58, R60 to R65, R281, R403 to R406: every well-formed native slot instruction has one slot word, which the decoder of its
position reads back, operand for operand; as a literal bundle of that slot alone its bits read back too; and every well-formed teller
or Ovnath instruction has a word that the decoder of its slot reads back. -/
def Obligations.RoundTrips : Prop :=
  (∀ i : Instr, (slotOf i).isSome = true → i = .nop ∨ (encodeSlot i).isSome = true) ∧
  (∀ (i : Instr) (sl : Slot) (pos : Nat) (w : SlotWord), WellFormed i = true → encodeSlot i = some (pos, w) →
    decodeSlot pos (splitSlot (packSlot w)) = .ok i ∧ (slotOf i = some sl → sl.pos = pos) ∧
    ∃ x, encode i = some (80, x) ∧ x < 2 ^ 80 ∧ decodeTableWord 80 x = some i) ∧
  encode .nop = some (32, 0) ∧ decodeTableWord 32 0 = some .nop ∧
  (∀ (i : Instr) (q : BitVec 19) (o : BitVec 14) (n : BitVec 13) (t : BitVec 8) (x y z : BitVec 5) (f : BitVec 4) (h j k l : BitVec 3)
    (b : BitVec 1), WellFormed i = true →
    (i ∈ [
      .tellerLdw h j n, .tellerLdd h j n, .tellerStw h j n, .tellerStd h j n, .tellerAdd h j k, .tellerAddImm h j n, .tellerSub h j k,
      .tellerSubImm h j n, .tellerAnd h j k, .tellerAndImm h j n, .tellerOr h j k, .tellerOrImm h j n, .tellerXor h j k,
      .tellerXorImm h j n, .tellerShl h j k, .tellerShlImm h j n, .tellerShrl h j k, .tellerShrlImm h j n, .tellerShra h j k,
      .tellerShraImm h j n, .tellerMin h j k, .tellerMinImm h j n, .tellerMax h j k, .tellerMaxImm h j n, .tellerMinn h j k,
      .tellerMinnImm h j n, .tellerMaxn h j k, .tellerMaxnImm h j n, .tellerFadd h j k l, .tellerFmin h j k l, .tellerFmax h j k l,
      .tellerCmp h j k l, .tellerCmpImm h j k n, .tellerSel h j k l, .tellerSat h j k, .tellerMrg h j k, .tellerLimm h n] →
      ∃ w, encodeWord i = some w ∧ tellerDecode w = some i) ∧
    (i ∈ [
      .ovnAdd x y z, .ovnSub x y z, .ovnMul x y z, .ovnDiv x y z, .ovnAnd x y z, .ovnOr x y z, .ovnXor x y z, .ovnShl x y z,
      .ovnShr x y z, .ovnShra x y z, .ovnAddi x y o, .ovnLi x o, .ovnLis x o, .ovnCmp f x y b h, .ovnLd x y o, .ovnSt x y o] →
      ∃ w, encodeWord i = some w ∧ ovnWordS w = some i) ∧
    (i ∈ [
      .ovnVadd x y z f h, .ovnVsub x y z f h, .ovnVmul x y z f h, .ovnVfma x y z f h, .ovnVmin x y z f h, .ovnVmax x y z f h,
      .ovnVcmp x y z f h, .ovnVsel x y z f, .ovnVcvt x y h f j, .ovnVbc x y f, .ovnVred x y f h, .ovnVdot x y z f h, .ovnVld x y o,
      .ovnVst x y o, .ovnVext x y z f] →
      ∃ w, encodeWord i = some w ∧ ovnWordV w = some i) ∧
    (i ∈ [
      .ovnMz x, .ovnMma x y z f, .ovnMst x y z f h, .ovnMrd x y z] →
      ∃ w, encodeWord i = some w ∧ ovnWordM w = some i) ∧
    (i ∈ [
      .ovnJ q, .ovnJk f o, .ovnCall x q, .ovnRet x, .ovnEnd, .ovnTrap t, .ovnSys x y] →
      ∃ w, encodeWord i = some w ∧ ovnWordW w = some i))

/-- R53 to R58, R60 to R65, R281, R282, R403 to R406: words written out from the spec decode to the instruction that they stand for; the
first two are those of the spec's worked bundle. -/
def Obligations.DecodedWords : Prop :=
  let g : Guard := ⟨false, 0⟩
  let at_ (pos : Nat) (opc : BitVec 8) (dst sa sb : BitVec 6) (mod : BitVec 11) : Except FormErr Instr :=
    decodeSlot pos (splitSlot (opc ++ 0#1 ++ 0#6 ++ dst ++ sa ++ sb ++ mod))
  decodeSlot 0 (splitSlot 0x01001821000#44) = .ok (.add g 3 1 2) ∧
  decodeSlot 1 (splitSlot 0x01002021030#44) = .ok (.vadd g .f32 .rne 4 ⟨1, true⟩ ⟨2, false⟩) ∧
  (literalBundle 0x10020210300100182100000010003 = .ok ⟨false, false, true, 0,
    [some 0x01001821000#44, some 0x01002021030#44, none, none, none, none, none, none], 16⟩) ∧
  at_ 0 0x20 5 6 0b111111 0b11111111111 = .ok (.addi g 5 6 (-1)) ∧
  at_ 0 0x46 7 8 0 0b00000010000 = .ok (.ldd g 7 8 16) ∧
  tellerDecode (0b000001#6 ++ 3#3 ++ 2#3 ++ 0#3 ++ 0#1 ++ 0#3 ++ 4#13) = some (.tellerLdw 3 2 4) ∧
  tellerDecode (0b001000#6 ++ 3#3 ++ 1#3 ++ 0#3 ++ 1#1 ++ 0#3 ++ (-2 : BitVec 13)) = some (.tellerAddImm 3 1 (-2)) ∧
  ovnWordS (0x01#8 ++ 3#5 ++ 1#5 ++ 2#5 ++ 0#9) = some (.ovnAdd 3 1 2) ∧
  ovnWordW (0x05#8 ++ 0#24) = some .ovnEnd

/-- R4, R50, R51, R283, R404, R436: a step runs the instruction that its bytes hold. The next event of the agenda runs by its meaning;
where nothing precedes the next bundle of the core whose turn it is, and the bytes at its code pointer are a literal bundle of one
well-formed instruction, the step is that instruction's meaning in the state that has latched the bundle, and the pipeline has had its
turn; the same of a bundle of one slot however it was fetched; a routine's next word and an Ovnath bundle of one slot run likewise. -/
def Obligations.StepRunsDecoded : Prop :=
  ∀ (s : State) (i : Instr),
    let c := s.turn
    let k := s.core c
    let cp := k.pipe.pc.toNat
    let va := cp - cp % 2
    s.control.tripped = false →
      (∀ rest, s.teller = none → s.agenda = i :: rest → step s = exec i { s with agenda := rest }) ∧
      (∀ t w ws, s.teller = some t → t.code = w :: ws → tellerDecode w = some i → step s = exec i s) ∧
      (∀ x pos w, AtIssue s → (s.ovn.running = false ∨ s.ovn.core ≠ c ∨ k.level ≠ 0) →
        WellFormed i = true → encodeSlot i = some (pos, w) → encode i = some (80, x) → k.pipe.hold = [] →
        cp % 2 = 1 → vaValid cp = true → (s.kernelOf (field (k.csrGet Csr.VMROOT).toNat 44 16) va).isSome = true →
        s.textBytes c .fetch va 4 = .ok (toBytes 4 x) → s.textBytes c .fetch va 10 = .ok (toBytes 10 x) →
        let f : Fetched := {
          cp := k.pipe.pc, next := BitVec.ofNat 64 (va + 10 + 1), header := BitVec.ofNat 32 x, words := [(pos, packSlot w)] }
        step s = onNext State.pipeDone (exec i (s.latch c { f := f, from_ := [(va, 10, .fetch)] }))) ∧
      (∀ g t, AtIssue s → (s.ovn.running = false ∨ s.ovn.core ≠ c ∨ k.level ≠ 0) → s.fetch c k.pipe.pc = .ok g → t = s.latch c g →
        (soleInstr (t.core c).ir.words = some i → step s = onNext State.pipeDone (exec i t)) ∧
        (soleInstr (t.core c).ir.words = none → step s = .next t.issueLatched.pipeDone)) ∧
      (∀ (x : BitVec 128) (j : Nat), AtIssue s → k.lateResult s.clk = false → s.ovn.running = true → s.ovn.core = c → k.level = 0 → k.main.pc.toNat % 16 = 0 →
        vaValid k.main.pc.toNat = true → s.textBytes c .fetch k.main.pc.toNat 16 = .ok (toBytes 16 x.toNat) →
        j < 4 → ovnDecodeSlot x j = .ok (some i) → (∀ m, m < 4 → m ≠ j → ovnSlot x m = 0) →
        step s = onNext State.pipeDone (exec i s))

/-! ### What every step keeps -/

/-- R103: memory keeps its canonical form: every step from a state whose listed bytes rise in address, none of them zero, leaves such a
memory. That an unlisted byte reads as zero is the model's choice (log 1). -/
def Obligations.StepKeepsMemory : Prop :=
  ∀ s t : State, Memory.wf s.mem = true → step s = .next t → Memory.wf t.mem = true
end

