-- ==== Sys2Proof/Laws/Bits.lean ====
section
/-! SUPPORT. Bit fields and byte order: a field read after it is set, and bytes of a number put together again. -/

namespace Sys2Proof.Machine

/-- The bits of a number with one field replaced. -/
theorem testBit_setField (x lo n v i : Nat) :
    (setField x lo n v).testBit i = if lo ≤ i ∧ i < lo + n then v.testBit (i - lo) else x.testBit i := by
  simp only [setField, Nat.testBit_or, Nat.testBit_shiftLeft, Nat.testBit_shiftRight, Nat.testBit_mod_two_pow]
  by_cases h1 : lo + n ≤ i
  · have e : lo + n + (i - (lo + n)) = i := by omega
    have h2 : ¬ i < lo := by omega
    have h3 : ¬ i - lo < n := by omega
    have h4 : ¬ i < lo + n := by omega
    simp [h1, e, h2, h3, h4]
  · by_cases h2 : lo ≤ i
    · have h3 : i - lo < n := by omega
      have h4 : ¬ i < lo := by omega
      have h5 : i < lo + n := by omega
      simp [h1, h2, h3, h4, h5]
    · have h4 : i < lo := by omega
      simp [h1, h2, h4]

/-- The bits of a field. -/
theorem testBit_field (x lo n i : Nat) : (field x lo n).testBit i = (decide (i < n) && x.testBit (lo + i)) := by
  simp [field, Nat.testBit_mod_two_pow, Nat.testBit_shiftRight]

/-- A field reads as what was put there. -/
theorem field_setField_same (x lo n v : Nat) : field (setField x lo n v) lo n = v % 2 ^ n := by
  apply Nat.eq_of_testBit_eq
  intro i
  simp only [testBit_field, testBit_setField, Nat.testBit_mod_two_pow]
  by_cases h : i < n
  · simp [h]
  · simp [h]

/-- A field that another leaves alone. -/
theorem field_setField_ne (x lo n v lo' n' : Nat) (h : lo' + n' ≤ lo ∨ lo + n ≤ lo') :
    field (setField x lo n v) lo' n' = field x lo' n' := by
  apply Nat.eq_of_testBit_eq
  intro i
  simp only [testBit_field, testBit_setField]
  by_cases h1 : i < n'
  · rw [if_neg (by omega)]
  · simp [h1]

@[simp] theorem length_toBytes (n x : Nat) : (toBytes n x).length = n := by
  induction n generalizing x with
  | zero => rfl
  | succ n ih => simp [toBytes, ih]

/-- The bytes of a number put together again (R3). -/
theorem ofBytes_toBytes (n x : Nat) : ofBytes (toBytes n x) = x % 256 ^ n := by
  induction n generalizing x with
  | zero => simp [toBytes, ofBytes, Nat.mod_one]
  | succ n ih =>
    rw [Nat.pow_succ', Nat.mod_mul]
    simp [toBytes, ofBytes, ih]

end Sys2Proof.Machine
end

