-- ==== Sys2Proof/Laws/Maps.lean ====
section
/-! SUPPORT. Tables and vectors: a read after a write, and the canonical form. -/

namespace Sys2Proof.Machine

variable {α : Type}

/-! ### Vectors -/

@[simp] theorem vget_vset_same {n : Nat} (d : α) (v : Vector α n) {k : Nat} (x : α) (h : k < n) : vget d (vset v k x) k = x := by
  simp [vget, vset, h]

theorem vget_vset_ne {n : Nat} (d : α) (v : Vector α n) {k j : Nat} (x : α) (h : k ≠ j) : vget d (vset v k x) j = vget d v j := by
  simp [vget, vset, h]

/-! ### Tables that list every entry -/

theorem Map.find_put (m : Map α) (k : Nat) (v : α) (j : Nat) :
    Map.find (Map.put m k v) j = if k = j then some v else Map.find m j := by
  induction m with
  | nil => simp [Map.put, Map.find]
  | cons e m ih =>
    obtain ⟨a, b⟩ := e
    simp only [Map.put]
    split
    · next h => subst h; simp only [Map.find]; split <;> simp_all
    · split
      · simp only [Map.find]
      · simp only [Map.find, ih]; split <;> split <;> simp_all

@[simp] theorem Map.find_put_same (m : Map α) (k : Nat) (v : α) : Map.find (Map.put m k v) k = some v := by
  simp [Map.find_put]

theorem Map.get_eq_find (d : α) (m : Map α) (k : Nat) : Map.get d m k = (Map.find m k).getD d := by
  induction m with
  | nil => rfl
  | cons e m ih => obtain ⟨a, b⟩ := e; simp only [Map.get, Map.find]; split <;> simp_all

theorem Map.get_put (d : α) (m : Map α) (k : Nat) (v : α) (j : Nat) :
    Map.get d (Map.put m k v) j = if k = j then v else Map.get d m j := by
  simp only [Map.get_eq_find, Map.find_put]; split <;> rfl

@[simp] theorem Map.get_put_same (d : α) (m : Map α) (k : Nat) (v : α) : Map.get d (Map.put m k v) k = v := by
  simp [Map.get_put]

theorem Map.get_put_ne (d : α) (m : Map α) {k j : Nat} (v : α) (h : k ≠ j) :
    Map.get d (Map.put m k v) j = Map.get d m j := by
  simp [Map.get_put, h]

/-- Writing one key twice leaves the later value. -/
@[simp] theorem Map.put_put (m : Map α) (k : Nat) (v w : α) : Map.put (Map.put m k v) k w = Map.put m k w := by
  induction m with
  | nil => simp [Map.put]
  | cons e m ih =>
    obtain ⟨a, b⟩ := e
    simp only [Map.put]
    split
    · simp [Map.put]
    · split
      · simp [Map.put]
      · next h1 h2 => simp [Map.put, h1, h2, ih]

theorem Map.find_erase (m : Map α) (k j : Nat) : Map.find (Map.erase m k) j = if k = j then none else Map.find m j := by
  unfold Map.erase
  induction m with
  | nil => simp [Map.find]
  | cons e m ih =>
    obtain ⟨a, b⟩ := e
    simp only [List.filter]
    by_cases h : a = k
    · subst h
      simp only [bne_self_eq_false, ih, Map.find]
      split <;> rfl
    · have h' : (a != k) = true := by simp [h]
      simp only [h', Map.find, ih]
      by_cases h2 : a = j
      · subst h2; rw [if_pos rfl, if_neg (fun e => h e.symm), if_pos rfl]
      · rw [if_neg h2, if_neg h2]

/-! ### Tables that list what differs from a default -/

variable [DecidableEq α]

/-- A read after a write. -/
theorem Map.get_set (d : α) (m : Map α) (k : Nat) (v : α) (j : Nat) :
    Map.get d (Map.set d m k v) j = if k = j then v else Map.get d m j := by
  unfold Map.set
  split
  · next h => subst h; simp only [Map.get_eq_find, Map.find_erase]; split <;> rfl
  · exact Map.get_put d m k v j

@[simp] theorem Map.get_set_same (d : α) (m : Map α) (k : Nat) (v : α) : Map.get d (Map.set d m k v) k = v := by
  simp [Map.get_set]

/-- A read of another key, whatever its default. -/
theorem Map.get_set_ne (d e : α) (m : Map α) {k j : Nat} (v : α) (h : k ≠ j) :
    Map.get e (Map.set d m k v) j = Map.get e m j := by
  unfold Map.set
  split
  · simp only [Map.get_eq_find, Map.find_erase, if_neg h]
  · exact Map.get_put_ne e m v h

/-- Keys that rise from `lo` on rise from every lower bound. -/
theorem Map.wfFrom_mono {d : α} {lo hi : Nat} {m : Map α} (h : Map.wfFrom d hi m) (le : lo ≤ hi) : Map.wfFrom d lo m := by
  cases m with
  | nil => rfl
  | cons e m => obtain ⟨a, b⟩ := e; simp [Map.wfFrom] at *; exact ⟨⟨by omega, h.1.2⟩, h.2⟩

/-- A key below the first one is not listed. -/
theorem Map.get_below {d : α} {lo k : Nat} {m : Map α} (h : Map.wfFrom d lo m) (lt : k < lo) : Map.get d m k = d := by
  induction m generalizing lo with
  | nil => rfl
  | cons e m ih =>
    obtain ⟨a, b⟩ := e
    simp [Map.wfFrom] at h
    have ne : a ≠ k := by omega
    simp only [Map.get, ne, if_false]
    exact ih h.2 (by omega)

/-- A table filtered keeps the canonical form. -/
theorem Map.wfFrom_filter {d : α} (p : Nat × α → Bool) {lo : Nat} {m : Map α} (h : Map.wfFrom d lo m) :
    Map.wfFrom d lo (m.filter p) := by
  induction m generalizing lo with
  | nil => rfl
  | cons e m ih =>
    obtain ⟨a, b⟩ := e
    simp [Map.wfFrom] at h
    simp only [List.filter]
    split
    · simp [Map.wfFrom]; exact ⟨h.1, ih h.2⟩
    · exact Map.wfFrom_mono (ih h.2) (by omega)

/-- A value that is not the default, put in a table, keeps the canonical form. -/
theorem Map.wfFrom_put {d : α} {lo : Nat} {m : Map α} (h : Map.wfFrom d lo m) {k : Nat} (le : lo ≤ k) {v : α} (ne : v ≠ d) :
    Map.wfFrom d lo (Map.put m k v) := by
  induction m generalizing lo with
  | nil => simp [Map.put, Map.wfFrom, le, ne]
  | cons e m ih =>
    obtain ⟨a, b⟩ := e
    simp [Map.wfFrom] at h
    simp only [Map.put]
    split
    · next h1 => subst h1; simp [Map.wfFrom, le, ne, h.2]
    · split
      · simp [Map.wfFrom]; exact ⟨⟨le, ne⟩, ⟨by omega, h.1.2⟩, h.2⟩
      · simp [Map.wfFrom]; exact ⟨h.1, ih h.2 (by omega)⟩

/-- Writes keep the canonical form. -/
theorem Map.wf_set {d : α} {m : Map α} (h : Map.wf d m) (k : Nat) (v : α) : Map.wf d (Map.set d m k v) := by
  unfold Map.set
  split
  · exact Map.wfFrom_filter _ h
  · exact Map.wfFrom_put h (Nat.zero_le k) (by assumption)

end Sys2Proof.Machine
end

