-- ==== Sys2Proof/Laws/State.lean ====
section
/-! SUPPORT. One lemma per field and update: what each update of a state, a core or its registers leaves as it was, and what a
register reads as after a write. -/

namespace Sys2Proof.Machine

/-! ### Updates of the module's state -/

@[simp] theorem State.setCore_clk (s : State) (c : Nat) (k : Core) : (s.setCore c k).clk = s.clk := rfl
@[simp] theorem State.setCore_turn (s : State) (c : Nat) (k : Core) : (s.setCore c k).turn = s.turn := rfl
@[simp] theorem State.setCore_units (s : State) (c : Nat) (k : Core) : (s.setCore c k).units = s.units := rfl
@[simp] theorem State.setCore_mem (s : State) (c : Nat) (k : Core) : (s.setCore c k).mem = s.mem := rfl
@[simp] theorem State.setCore_owned (s : State) (c : Nat) (k : Core) : (s.setCore c k).owned = s.owned := rfl
@[simp] theorem State.setCore_published (s : State) (c : Nat) (k : Core) : (s.setCore c k).published = s.published := rfl
@[simp] theorem State.setCore_hist (s : State) (c : Nat) (k : Core) : (s.setCore c k).hist = s.hist := rfl
@[simp] theorem State.setCore_histNext (s : State) (c : Nat) (k : Core) : (s.setCore c k).histNext = s.histNext := rfl
@[simp] theorem State.setCore_sectorPoison (s : State) (c : Nat) (k : Core) : (s.setCore c k).sectorPoison = s.sectorPoison := rfl
@[simp] theorem State.setCore_wordPoison (s : State) (c : Nat) (k : Core) : (s.setCore c k).wordPoison = s.wordPoison := rfl
@[simp] theorem State.setCore_codeLines (s : State) (c : Nat) (k : Core) : (s.setCore c k).codeLines = s.codeLines := rfl
@[simp] theorem State.setCore_ctl (s : State) (c : Nat) (k : Core) : (s.setCore c k).ctl = s.ctl := rfl
@[simp] theorem State.setCore_control (s : State) (c : Nat) (k : Core) : (s.setCore c k).control = s.control := rfl
@[simp] theorem State.setCore_iommu (s : State) (c : Nat) (k : Core) : (s.setCore c k).iommu = s.iommu := rfl
@[simp] theorem State.setCore_frame (s : State) (c : Nat) (k : Core) : (s.setCore c k).frame = s.frame := rfl
@[simp] theorem State.setCore_frameDue (s : State) (c : Nat) (k : Core) : (s.setCore c k).frameDue = s.frameDue := rfl
@[simp] theorem State.setCore_tenantFrame (s : State) (c : Nat) (k : Core) : (s.setCore c k).tenantFrame = s.tenantFrame := rfl
@[simp] theorem State.setCore_holds (s : State) (c : Nat) (k : Core) : (s.setCore c k).holds = s.holds := rfl
@[simp] theorem State.setCore_graphs (s : State) (c : Nat) (k : Core) : (s.setCore c k).graphs = s.graphs := rfl
@[simp] theorem State.setCore_graphNext (s : State) (c : Nat) (k : Core) : (s.setCore c k).graphNext = s.graphNext := rfl
@[simp] theorem State.setCore_saved (s : State) (c : Nat) (k : Core) : (s.setCore c k).saved = s.saved := rfl
@[simp] theorem State.setCore_orders (s : State) (c : Nat) (k : Core) : (s.setCore c k).orders = s.orders := rfl
@[simp] theorem State.setCore_quarantine (s : State) (c : Nat) (k : Core) : (s.setCore c k).quarantine = s.quarantine := rfl
@[simp] theorem State.setCore_hwq (s : State) (c : Nat) (k : Core) : (s.setCore c k).hwq = s.hwq := rfl
@[simp] theorem State.setCore_scans (s : State) (c : Nat) (k : Core) : (s.setCore c k).scans = s.scans := rfl
@[simp] theorem State.setCore_links (s : State) (c : Nat) (k : Core) : (s.setCore c k).links = s.links := rfl
@[simp] theorem State.setCore_out (s : State) (c : Nat) (k : Core) : (s.setCore c k).out = s.out := rfl
@[simp] theorem State.setCore_inbound (s : State) (c : Nat) (k : Core) : (s.setCore c k).inbound = s.inbound := rfl
@[simp] theorem State.setCore_snap (s : State) (c : Nat) (k : Core) : (s.setCore c k).snap = s.snap := rfl
@[simp] theorem State.setCore_routines (s : State) (c : Nat) (k : Core) : (s.setCore c k).routines = s.routines := rfl
@[simp] theorem State.setCore_sliceReqs (s : State) (c : Nat) (k : Core) : (s.setCore c k).sliceReqs = s.sliceReqs := rfl
@[simp] theorem State.setCore_teller (s : State) (c : Nat) (k : Core) : (s.setCore c k).teller = s.teller := rfl
@[simp] theorem State.setCore_ovn (s : State) (c : Nat) (k : Core) : (s.setCore c k).ovn = s.ovn := rfl
@[simp] theorem State.setCore_agenda (s : State) (c : Nat) (k : Core) : (s.setCore c k).agenda = s.agenda := rfl
@[simp] theorem State.setCore_free (s : State) (c : Nat) (k : Core) : (s.setCore c k).free = s.free := rfl
@[simp] theorem State.onCore_clk (s : State) (c : Nat) (f : Core → Core) : (s.onCore c f).clk = s.clk := rfl
@[simp] theorem State.onCore_turn (s : State) (c : Nat) (f : Core → Core) : (s.onCore c f).turn = s.turn := rfl
@[simp] theorem State.onCore_units (s : State) (c : Nat) (f : Core → Core) : (s.onCore c f).units = s.units := rfl
@[simp] theorem State.onCore_mem (s : State) (c : Nat) (f : Core → Core) : (s.onCore c f).mem = s.mem := rfl
@[simp] theorem State.onCore_owned (s : State) (c : Nat) (f : Core → Core) : (s.onCore c f).owned = s.owned := rfl
@[simp] theorem State.onCore_published (s : State) (c : Nat) (f : Core → Core) : (s.onCore c f).published = s.published := rfl
@[simp] theorem State.onCore_hist (s : State) (c : Nat) (f : Core → Core) : (s.onCore c f).hist = s.hist := rfl
@[simp] theorem State.onCore_histNext (s : State) (c : Nat) (f : Core → Core) : (s.onCore c f).histNext = s.histNext := rfl
@[simp] theorem State.onCore_sectorPoison (s : State) (c : Nat) (f : Core → Core) : (s.onCore c f).sectorPoison = s.sectorPoison := rfl
@[simp] theorem State.onCore_wordPoison (s : State) (c : Nat) (f : Core → Core) : (s.onCore c f).wordPoison = s.wordPoison := rfl
@[simp] theorem State.onCore_codeLines (s : State) (c : Nat) (f : Core → Core) : (s.onCore c f).codeLines = s.codeLines := rfl
@[simp] theorem State.onCore_ctl (s : State) (c : Nat) (f : Core → Core) : (s.onCore c f).ctl = s.ctl := rfl
@[simp] theorem State.onCore_control (s : State) (c : Nat) (f : Core → Core) : (s.onCore c f).control = s.control := rfl
@[simp] theorem State.onCore_iommu (s : State) (c : Nat) (f : Core → Core) : (s.onCore c f).iommu = s.iommu := rfl
@[simp] theorem State.onCore_frame (s : State) (c : Nat) (f : Core → Core) : (s.onCore c f).frame = s.frame := rfl
@[simp] theorem State.onCore_frameDue (s : State) (c : Nat) (f : Core → Core) : (s.onCore c f).frameDue = s.frameDue := rfl
@[simp] theorem State.onCore_tenantFrame (s : State) (c : Nat) (f : Core → Core) : (s.onCore c f).tenantFrame = s.tenantFrame := rfl
@[simp] theorem State.onCore_holds (s : State) (c : Nat) (f : Core → Core) : (s.onCore c f).holds = s.holds := rfl
@[simp] theorem State.onCore_graphs (s : State) (c : Nat) (f : Core → Core) : (s.onCore c f).graphs = s.graphs := rfl
@[simp] theorem State.onCore_graphNext (s : State) (c : Nat) (f : Core → Core) : (s.onCore c f).graphNext = s.graphNext := rfl
@[simp] theorem State.onCore_saved (s : State) (c : Nat) (f : Core → Core) : (s.onCore c f).saved = s.saved := rfl
@[simp] theorem State.onCore_orders (s : State) (c : Nat) (f : Core → Core) : (s.onCore c f).orders = s.orders := rfl
@[simp] theorem State.onCore_quarantine (s : State) (c : Nat) (f : Core → Core) : (s.onCore c f).quarantine = s.quarantine := rfl
@[simp] theorem State.onCore_hwq (s : State) (c : Nat) (f : Core → Core) : (s.onCore c f).hwq = s.hwq := rfl
@[simp] theorem State.onCore_scans (s : State) (c : Nat) (f : Core → Core) : (s.onCore c f).scans = s.scans := rfl
@[simp] theorem State.onCore_links (s : State) (c : Nat) (f : Core → Core) : (s.onCore c f).links = s.links := rfl
@[simp] theorem State.onCore_out (s : State) (c : Nat) (f : Core → Core) : (s.onCore c f).out = s.out := rfl
@[simp] theorem State.onCore_inbound (s : State) (c : Nat) (f : Core → Core) : (s.onCore c f).inbound = s.inbound := rfl
@[simp] theorem State.onCore_snap (s : State) (c : Nat) (f : Core → Core) : (s.onCore c f).snap = s.snap := rfl
@[simp] theorem State.onCore_routines (s : State) (c : Nat) (f : Core → Core) : (s.onCore c f).routines = s.routines := rfl
@[simp] theorem State.onCore_sliceReqs (s : State) (c : Nat) (f : Core → Core) : (s.onCore c f).sliceReqs = s.sliceReqs := rfl
@[simp] theorem State.onCore_teller (s : State) (c : Nat) (f : Core → Core) : (s.onCore c f).teller = s.teller := rfl
@[simp] theorem State.onCore_ovn (s : State) (c : Nat) (f : Core → Core) : (s.onCore c f).ovn = s.ovn := rfl
@[simp] theorem State.onCore_agenda (s : State) (c : Nat) (f : Core → Core) : (s.onCore c f).agenda = s.agenda := rfl
@[simp] theorem State.onCore_free (s : State) (c : Nat) (f : Core → Core) : (s.onCore c f).free = s.free := rfl
@[simp] theorem State.drew_clk (s : State) (n : Nat) : (s.drew n).clk = s.clk := rfl
@[simp] theorem State.drew_turn (s : State) (n : Nat) : (s.drew n).turn = s.turn := rfl
@[simp] theorem State.drew_units (s : State) (n : Nat) : (s.drew n).units = s.units := rfl
@[simp] theorem State.drew_cores (s : State) (n : Nat) : (s.drew n).cores = s.cores := rfl
@[simp] theorem State.drew_mem (s : State) (n : Nat) : (s.drew n).mem = s.mem := rfl
@[simp] theorem State.drew_owned (s : State) (n : Nat) : (s.drew n).owned = s.owned := rfl
@[simp] theorem State.drew_published (s : State) (n : Nat) : (s.drew n).published = s.published := rfl
@[simp] theorem State.drew_hist (s : State) (n : Nat) : (s.drew n).hist = s.hist := rfl
@[simp] theorem State.drew_histNext (s : State) (n : Nat) : (s.drew n).histNext = s.histNext := rfl
@[simp] theorem State.drew_sectorPoison (s : State) (n : Nat) : (s.drew n).sectorPoison = s.sectorPoison := rfl
@[simp] theorem State.drew_wordPoison (s : State) (n : Nat) : (s.drew n).wordPoison = s.wordPoison := rfl
@[simp] theorem State.drew_codeLines (s : State) (n : Nat) : (s.drew n).codeLines = s.codeLines := rfl
@[simp] theorem State.drew_ctl (s : State) (n : Nat) : (s.drew n).ctl = s.ctl := rfl
@[simp] theorem State.drew_control (s : State) (n : Nat) : (s.drew n).control = s.control := rfl
@[simp] theorem State.drew_iommu (s : State) (n : Nat) : (s.drew n).iommu = s.iommu := rfl
@[simp] theorem State.drew_frame (s : State) (n : Nat) : (s.drew n).frame = s.frame := rfl
@[simp] theorem State.drew_frameDue (s : State) (n : Nat) : (s.drew n).frameDue = s.frameDue := rfl
@[simp] theorem State.drew_tenantFrame (s : State) (n : Nat) : (s.drew n).tenantFrame = s.tenantFrame := rfl
@[simp] theorem State.drew_holds (s : State) (n : Nat) : (s.drew n).holds = s.holds := rfl
@[simp] theorem State.drew_graphs (s : State) (n : Nat) : (s.drew n).graphs = s.graphs := rfl
@[simp] theorem State.drew_graphNext (s : State) (n : Nat) : (s.drew n).graphNext = s.graphNext := rfl
@[simp] theorem State.drew_saved (s : State) (n : Nat) : (s.drew n).saved = s.saved := rfl
@[simp] theorem State.drew_orders (s : State) (n : Nat) : (s.drew n).orders = s.orders := rfl
@[simp] theorem State.drew_quarantine (s : State) (n : Nat) : (s.drew n).quarantine = s.quarantine := rfl
@[simp] theorem State.drew_hwq (s : State) (n : Nat) : (s.drew n).hwq = s.hwq := rfl
@[simp] theorem State.drew_scans (s : State) (n : Nat) : (s.drew n).scans = s.scans := rfl
@[simp] theorem State.drew_links (s : State) (n : Nat) : (s.drew n).links = s.links := rfl
@[simp] theorem State.drew_out (s : State) (n : Nat) : (s.drew n).out = s.out := rfl
@[simp] theorem State.drew_inbound (s : State) (n : Nat) : (s.drew n).inbound = s.inbound := rfl
@[simp] theorem State.drew_snap (s : State) (n : Nat) : (s.drew n).snap = s.snap := rfl
@[simp] theorem State.drew_routines (s : State) (n : Nat) : (s.drew n).routines = s.routines := rfl
@[simp] theorem State.drew_sliceReqs (s : State) (n : Nat) : (s.drew n).sliceReqs = s.sliceReqs := rfl
@[simp] theorem State.drew_teller (s : State) (n : Nat) : (s.drew n).teller = s.teller := rfl
@[simp] theorem State.drew_ovn (s : State) (n : Nat) : (s.drew n).ovn = s.ovn := rfl
@[simp] theorem State.drew_agenda (s : State) (n : Nat) : (s.drew n).agenda = s.agenda := rfl
@[simp] theorem State.ctlPut_clk (s : State) (o : Nat) (v : Word64) : (s.ctlPut o v).clk = s.clk := rfl
@[simp] theorem State.ctlPut_turn (s : State) (o : Nat) (v : Word64) : (s.ctlPut o v).turn = s.turn := rfl
@[simp] theorem State.ctlPut_units (s : State) (o : Nat) (v : Word64) : (s.ctlPut o v).units = s.units := rfl
@[simp] theorem State.ctlPut_cores (s : State) (o : Nat) (v : Word64) : (s.ctlPut o v).cores = s.cores := rfl
@[simp] theorem State.ctlPut_mem (s : State) (o : Nat) (v : Word64) : (s.ctlPut o v).mem = s.mem := rfl
@[simp] theorem State.ctlPut_owned (s : State) (o : Nat) (v : Word64) : (s.ctlPut o v).owned = s.owned := rfl
@[simp] theorem State.ctlPut_published (s : State) (o : Nat) (v : Word64) : (s.ctlPut o v).published = s.published := rfl
@[simp] theorem State.ctlPut_hist (s : State) (o : Nat) (v : Word64) : (s.ctlPut o v).hist = s.hist := rfl
@[simp] theorem State.ctlPut_histNext (s : State) (o : Nat) (v : Word64) : (s.ctlPut o v).histNext = s.histNext := rfl
@[simp] theorem State.ctlPut_sectorPoison (s : State) (o : Nat) (v : Word64) : (s.ctlPut o v).sectorPoison = s.sectorPoison := rfl
@[simp] theorem State.ctlPut_wordPoison (s : State) (o : Nat) (v : Word64) : (s.ctlPut o v).wordPoison = s.wordPoison := rfl
@[simp] theorem State.ctlPut_codeLines (s : State) (o : Nat) (v : Word64) : (s.ctlPut o v).codeLines = s.codeLines := rfl
@[simp] theorem State.ctlPut_control (s : State) (o : Nat) (v : Word64) : (s.ctlPut o v).control = s.control := rfl
@[simp] theorem State.ctlPut_iommu (s : State) (o : Nat) (v : Word64) : (s.ctlPut o v).iommu = s.iommu := rfl
@[simp] theorem State.ctlPut_frame (s : State) (o : Nat) (v : Word64) : (s.ctlPut o v).frame = s.frame := rfl
@[simp] theorem State.ctlPut_frameDue (s : State) (o : Nat) (v : Word64) : (s.ctlPut o v).frameDue = s.frameDue := rfl
@[simp] theorem State.ctlPut_tenantFrame (s : State) (o : Nat) (v : Word64) : (s.ctlPut o v).tenantFrame = s.tenantFrame := rfl
@[simp] theorem State.ctlPut_holds (s : State) (o : Nat) (v : Word64) : (s.ctlPut o v).holds = s.holds := rfl
@[simp] theorem State.ctlPut_graphs (s : State) (o : Nat) (v : Word64) : (s.ctlPut o v).graphs = s.graphs := rfl
@[simp] theorem State.ctlPut_graphNext (s : State) (o : Nat) (v : Word64) : (s.ctlPut o v).graphNext = s.graphNext := rfl
@[simp] theorem State.ctlPut_saved (s : State) (o : Nat) (v : Word64) : (s.ctlPut o v).saved = s.saved := rfl
@[simp] theorem State.ctlPut_orders (s : State) (o : Nat) (v : Word64) : (s.ctlPut o v).orders = s.orders := rfl
@[simp] theorem State.ctlPut_quarantine (s : State) (o : Nat) (v : Word64) : (s.ctlPut o v).quarantine = s.quarantine := rfl
@[simp] theorem State.ctlPut_hwq (s : State) (o : Nat) (v : Word64) : (s.ctlPut o v).hwq = s.hwq := rfl
@[simp] theorem State.ctlPut_scans (s : State) (o : Nat) (v : Word64) : (s.ctlPut o v).scans = s.scans := rfl
@[simp] theorem State.ctlPut_links (s : State) (o : Nat) (v : Word64) : (s.ctlPut o v).links = s.links := rfl
@[simp] theorem State.ctlPut_out (s : State) (o : Nat) (v : Word64) : (s.ctlPut o v).out = s.out := rfl
@[simp] theorem State.ctlPut_inbound (s : State) (o : Nat) (v : Word64) : (s.ctlPut o v).inbound = s.inbound := rfl
@[simp] theorem State.ctlPut_snap (s : State) (o : Nat) (v : Word64) : (s.ctlPut o v).snap = s.snap := rfl
@[simp] theorem State.ctlPut_routines (s : State) (o : Nat) (v : Word64) : (s.ctlPut o v).routines = s.routines := rfl
@[simp] theorem State.ctlPut_sliceReqs (s : State) (o : Nat) (v : Word64) : (s.ctlPut o v).sliceReqs = s.sliceReqs := rfl
@[simp] theorem State.ctlPut_teller (s : State) (o : Nat) (v : Word64) : (s.ctlPut o v).teller = s.teller := rfl
@[simp] theorem State.ctlPut_ovn (s : State) (o : Nat) (v : Word64) : (s.ctlPut o v).ovn = s.ovn := rfl
@[simp] theorem State.ctlPut_agenda (s : State) (o : Nat) (v : Word64) : (s.ctlPut o v).agenda = s.agenda := rfl
@[simp] theorem State.ctlPut_free (s : State) (o : Nat) (v : Word64) : (s.ctlPut o v).free = s.free := rfl
@[simp] theorem State.setByte_clk (s : State) (a : Nat) (b : Byte) : (s.setByte a b).clk = s.clk := rfl
@[simp] theorem State.setByte_turn (s : State) (a : Nat) (b : Byte) : (s.setByte a b).turn = s.turn := rfl
@[simp] theorem State.setByte_units (s : State) (a : Nat) (b : Byte) : (s.setByte a b).units = s.units := rfl
@[simp] theorem State.setByte_cores (s : State) (a : Nat) (b : Byte) : (s.setByte a b).cores = s.cores := rfl
@[simp] theorem State.setByte_owned (s : State) (a : Nat) (b : Byte) : (s.setByte a b).owned = s.owned := rfl
@[simp] theorem State.setByte_published (s : State) (a : Nat) (b : Byte) : (s.setByte a b).published = s.published := rfl
@[simp] theorem State.setByte_hist (s : State) (a : Nat) (b : Byte) : (s.setByte a b).hist = s.hist := rfl
@[simp] theorem State.setByte_histNext (s : State) (a : Nat) (b : Byte) : (s.setByte a b).histNext = s.histNext := rfl
@[simp] theorem State.setByte_sectorPoison (s : State) (a : Nat) (b : Byte) : (s.setByte a b).sectorPoison = s.sectorPoison := rfl
@[simp] theorem State.setByte_wordPoison (s : State) (a : Nat) (b : Byte) : (s.setByte a b).wordPoison = s.wordPoison := rfl
@[simp] theorem State.setByte_codeLines (s : State) (a : Nat) (b : Byte) : (s.setByte a b).codeLines = s.codeLines := rfl
@[simp] theorem State.setByte_ctl (s : State) (a : Nat) (b : Byte) : (s.setByte a b).ctl = s.ctl := rfl
@[simp] theorem State.setByte_control (s : State) (a : Nat) (b : Byte) : (s.setByte a b).control = s.control := rfl
@[simp] theorem State.setByte_iommu (s : State) (a : Nat) (b : Byte) : (s.setByte a b).iommu = s.iommu := rfl
@[simp] theorem State.setByte_frame (s : State) (a : Nat) (b : Byte) : (s.setByte a b).frame = s.frame := rfl
@[simp] theorem State.setByte_frameDue (s : State) (a : Nat) (b : Byte) : (s.setByte a b).frameDue = s.frameDue := rfl
@[simp] theorem State.setByte_tenantFrame (s : State) (a : Nat) (b : Byte) : (s.setByte a b).tenantFrame = s.tenantFrame := rfl
@[simp] theorem State.setByte_holds (s : State) (a : Nat) (b : Byte) : (s.setByte a b).holds = s.holds := rfl
@[simp] theorem State.setByte_graphs (s : State) (a : Nat) (b : Byte) : (s.setByte a b).graphs = s.graphs := rfl
@[simp] theorem State.setByte_graphNext (s : State) (a : Nat) (b : Byte) : (s.setByte a b).graphNext = s.graphNext := rfl
@[simp] theorem State.setByte_saved (s : State) (a : Nat) (b : Byte) : (s.setByte a b).saved = s.saved := rfl
@[simp] theorem State.setByte_orders (s : State) (a : Nat) (b : Byte) : (s.setByte a b).orders = s.orders := rfl
@[simp] theorem State.setByte_quarantine (s : State) (a : Nat) (b : Byte) : (s.setByte a b).quarantine = s.quarantine := rfl
@[simp] theorem State.setByte_hwq (s : State) (a : Nat) (b : Byte) : (s.setByte a b).hwq = s.hwq := rfl
@[simp] theorem State.setByte_scans (s : State) (a : Nat) (b : Byte) : (s.setByte a b).scans = s.scans := rfl
@[simp] theorem State.setByte_links (s : State) (a : Nat) (b : Byte) : (s.setByte a b).links = s.links := rfl
@[simp] theorem State.setByte_out (s : State) (a : Nat) (b : Byte) : (s.setByte a b).out = s.out := rfl
@[simp] theorem State.setByte_inbound (s : State) (a : Nat) (b : Byte) : (s.setByte a b).inbound = s.inbound := rfl
@[simp] theorem State.setByte_snap (s : State) (a : Nat) (b : Byte) : (s.setByte a b).snap = s.snap := rfl
@[simp] theorem State.setByte_routines (s : State) (a : Nat) (b : Byte) : (s.setByte a b).routines = s.routines := rfl
@[simp] theorem State.setByte_sliceReqs (s : State) (a : Nat) (b : Byte) : (s.setByte a b).sliceReqs = s.sliceReqs := rfl
@[simp] theorem State.setByte_teller (s : State) (a : Nat) (b : Byte) : (s.setByte a b).teller = s.teller := rfl
@[simp] theorem State.setByte_ovn (s : State) (a : Nat) (b : Byte) : (s.setByte a b).ovn = s.ovn := rfl
@[simp] theorem State.setByte_agenda (s : State) (a : Nat) (b : Byte) : (s.setByte a b).agenda = s.agenda := rfl
@[simp] theorem State.setByte_free (s : State) (a : Nat) (b : Byte) : (s.setByte a b).free = s.free := rfl

@[simp] theorem State.setCore_core_same (s : State) (c : Nat) (k : Core) : (s.setCore c k).core c = k := by
  simp [State.setCore, State.core]
theorem State.setCore_core_ne (s : State) {c d : Nat} (k : Core) (h : d ≠ c) : (s.setCore c k).core d = s.core d := by
  simp [State.setCore, State.core, Map.get_put_ne _ _ _ (Ne.symm h)]
@[simp] theorem State.onCore_core_same (s : State) (c : Nat) (f : Core → Core) : (s.onCore c f).core c = f (s.core c) := by
  simp [State.onCore]
theorem State.onCore_core_ne (s : State) {c d : Nat} (f : Core → Core) (h : d ≠ c) : (s.onCore c f).core d = s.core d := by
  simp [State.onCore, State.setCore_core_ne _ _ h]
@[simp] theorem State.setCore_setCore (s : State) (c : Nat) (k l : Core) : (s.setCore c k).setCore c l = s.setCore c l := by
  simp [State.setCore]
@[simp] theorem State.drew_core (s : State) (n c : Nat) : (s.drew n).core c = s.core c := rfl
@[simp] theorem State.ctlPut_core (s : State) (o : Nat) (v : Word64) (c : Nat) : (s.ctlPut o v).core c = s.core c := rfl
@[simp] theorem State.setByte_core (s : State) (a : Nat) (b : Byte) (c : Nat) : (s.setByte a b).core c = s.core c := rfl
@[simp] theorem State.setCore_byte (s : State) (c : Nat) (k : Core) (a : Nat) : (s.setCore c k).byte a = s.byte a := rfl
@[simp] theorem State.onCore_byte (s : State) (c : Nat) (f : Core → Core) (a : Nat) : (s.onCore c f).byte a = s.byte a := rfl
@[simp] theorem State.drew_byte (s : State) (n a : Nat) : (s.drew n).byte a = s.byte a := rfl
@[simp] theorem State.ctlPut_byte (s : State) (o : Nat) (v : Word64) (a : Nat) : (s.ctlPut o v).byte a = s.byte a := rfl
@[simp] theorem State.setCore_ctlGet (s : State) (c : Nat) (k : Core) (o : Nat) : (s.setCore c k).ctlGet o = s.ctlGet o := rfl
@[simp] theorem State.drew_ctlGet (s : State) (n o : Nat) : (s.drew n).ctlGet o = s.ctlGet o := rfl
@[simp] theorem State.setByte_ctlGet (s : State) (a : Nat) (b : Byte) (o : Nat) : (s.setByte a b).ctlGet o = s.ctlGet o := rfl

/-! ### Updates of a core that no register number switches off -/

@[simp] theorem Core.setD_main (k : Core) (n : DReg) (v : Desc) (m : Bool) : (k.setD n v m).main = k.main := rfl
@[simp] theorem Core.setD_tender (k : Core) (n : DReg) (v : Desc) (m : Bool) : (k.setD n v m).tender = k.tender := rfl
@[simp] theorem Core.setD_ir (k : Core) (n : DReg) (v : Desc) (m : Bool) : (k.setD n v m).ir = k.ir := rfl
@[simp] theorem Core.setD_csr (k : Core) (n : DReg) (v : Desc) (m : Bool) : (k.setD n v m).csr = k.csr := rfl
@[simp] theorem Core.setD_windows (k : Core) (n : DReg) (v : Desc) (m : Bool) : (k.setD n v m).windows = k.windows := rfl
@[simp] theorem Core.setD_fmtPend (k : Core) (n : DReg) (v : Desc) (m : Bool) : (k.setD n v m).fmtPend = k.fmtPend := rfl
@[simp] theorem Core.setD_nt (k : Core) (n : DReg) (v : Desc) (m : Bool) : (k.setD n v m).nt = k.nt := rfl
@[simp] theorem Core.setD_ntCount (k : Core) (n : DReg) (v : Desc) (m : Bool) : (k.setD n v m).ntCount = k.ntCount := rfl
@[simp] theorem Core.setD_scratch (k : Core) (n : DReg) (v : Desc) (m : Bool) : (k.setD n v m).scratch = k.scratch := rfl
@[simp] theorem Core.setD_scratchPoison (k : Core) (n : DReg) (v : Desc) (m : Bool) : (k.setD n v m).scratchPoison = k.scratchPoison := rfl
@[simp] theorem Core.setD_tiles (k : Core) (n : DReg) (v : Desc) (m : Bool) : (k.setD n v m).tiles = k.tiles := rfl
@[simp] theorem Core.setD_junk (k : Core) (n : DReg) (v : Desc) (m : Bool) : (k.setD n v m).junk = k.junk := rfl
@[simp] theorem Core.setD_passes (k : Core) (n : DReg) (v : Desc) (m : Bool) : (k.setD n v m).passes = k.passes := rfl
@[simp] theorem Core.setD_mstores (k : Core) (n : DReg) (v : Desc) (m : Bool) : (k.setD n v m).mstores = k.mstores := rfl
@[simp] theorem Core.setD_matFree (k : Core) (n : DReg) (v : Desc) (m : Bool) : (k.setD n v m).matFree = k.matFree := rfl
@[simp] theorem Core.setD_e0 (k : Core) (n : DReg) (v : Desc) (m : Bool) : (k.setD n v m).e0 = k.e0 := rfl
@[simp] theorem Core.setD_e1 (k : Core) (n : DReg) (v : Desc) (m : Bool) : (k.setD n v m).e1 = k.e1 := rfl
@[simp] theorem Core.setD_tickets (k : Core) (n : DReg) (v : Desc) (m : Bool) : (k.setD n v m).tickets = k.tickets := rfl
@[simp] theorem Core.setD_blocks (k : Core) (n : DReg) (v : Desc) (m : Bool) : (k.setD n v m).blocks = k.blocks := rfl
@[simp] theorem Core.setD_notice (k : Core) (n : DReg) (v : Desc) (m : Bool) : (k.setD n v m).notice = k.notice := rfl
@[simp] theorem Core.setD_pend (k : Core) (n : DReg) (v : Desc) (m : Bool) : (k.setD n v m).pend = k.pend := rfl
@[simp] theorem Core.setD_contain (k : Core) (n : DReg) (v : Desc) (m : Bool) : (k.setD n v m).contain = k.contain := rfl
@[simp] theorem Core.setD_berth (k : Core) (n : DReg) (v : Desc) (m : Bool) : (k.setD n v m).berth = k.berth := rfl
@[simp] theorem Core.setD_tlb (k : Core) (n : DReg) (v : Desc) (m : Bool) : (k.setD n v m).tlb = k.tlb := rfl
@[simp] theorem Core.setD_icache (k : Core) (n : DReg) (v : Desc) (m : Bool) : (k.setD n v m).icache = k.icache := rfl
@[simp] theorem Core.setD_dcache (k : Core) (n : DReg) (v : Desc) (m : Bool) : (k.setD n v m).dcache = k.dcache := rfl
@[simp] theorem Core.setD_ord (k : Core) (n : DReg) (v : Desc) (m : Bool) : (k.setD n v m).ord = k.ord := rfl
@[simp] theorem Core.setD_toPublish (k : Core) (n : DReg) (v : Desc) (m : Bool) : (k.setD n v m).toPublish = k.toPublish := rfl
@[simp] theorem Core.setD_seen (k : Core) (n : DReg) (v : Desc) (m : Bool) : (k.setD n v m).seen = k.seen := rfl
@[simp] theorem Core.setD_oldCode (k : Core) (n : DReg) (v : Desc) (m : Bool) : (k.setD n v m).oldCode = k.oldCode := rfl
@[simp] theorem Core.setD_ltime (k : Core) (n : DReg) (v : Desc) (m : Bool) : (k.setD n v m).ltime = k.ltime := rfl
@[simp] theorem Core.setD_task (k : Core) (n : DReg) (v : Desc) (m : Bool) : (k.setD n v m).task = k.task := rfl
@[simp] theorem Core.setD_savedTask (k : Core) (n : DReg) (v : Desc) (m : Bool) : (k.setD n v m).savedTask = k.savedTask := rfl
@[simp] theorem Core.setD_level (k : Core) (n : DReg) (v : Desc) (m : Bool) : (k.setD n v m).level = k.level := rfl
@[simp] theorem Core.setD_entering (k : Core) (n : DReg) (v : Desc) (m : Bool) : (k.setD n v m).entering = k.entering := rfl
@[simp] theorem Core.setD_lowHold (k : Core) (n : DReg) (v : Desc) (m : Bool) : (k.setD n v m).lowHold = k.lowHold := rfl
@[simp] theorem Core.setD_frozen (k : Core) (n : DReg) (v : Desc) (m : Bool) : (k.setD n v m).frozen = k.frozen := rfl
@[simp] theorem Core.setD_skip (k : Core) (n : DReg) (v : Desc) (m : Bool) : (k.setD n v m).skip = k.skip := rfl
@[simp] theorem Core.setD_stall (k : Core) (n : DReg) (v : Desc) (m : Bool) : (k.setD n v m).stall = k.stall := rfl
@[simp] theorem Core.setD_idleFrames (k : Core) (n : DReg) (v : Desc) (m : Bool) : (k.setD n v m).idleFrames = k.idleFrames := rfl
@[simp] theorem Core.setD_enqFrames (k : Core) (n : DReg) (v : Desc) (m : Bool) : (k.setD n v m).enqFrames = k.enqFrames := rfl
@[simp] theorem Core.setD_enqWaits (k : Core) (n : DReg) (v : Desc) (m : Bool) : (k.setD n v m).enqWaits = k.enqWaits := rfl
@[simp] theorem Core.setD_saving (k : Core) (n : DReg) (v : Desc) (m : Bool) : (k.setD n v m).saving = k.saving := rfl
@[simp] theorem Core.setD_pagein (k : Core) (n : DReg) (v : Desc) (m : Bool) : (k.setD n v m).pagein = k.pagein := rfl
@[simp] theorem Core.setD_pageinAns (k : Core) (n : DReg) (v : Desc) (m : Bool) : (k.setD n v m).pageinAns = k.pageinAns := rfl
@[simp] theorem Core.setD_syscSeq (k : Core) (n : DReg) (v : Desc) (m : Bool) : (k.setD n v m).syscSeq = k.syscSeq := rfl
@[simp] theorem Core.setD_syscOpen (k : Core) (n : DReg) (v : Desc) (m : Bool) : (k.setD n v m).syscOpen = k.syscOpen := rfl
@[simp] theorem Core.setD_syscSem (k : Core) (n : DReg) (v : Desc) (m : Bool) : (k.setD n v m).syscSem = k.syscSem := rfl
@[simp] theorem Core.setD_lastImage (k : Core) (n : DReg) (v : Desc) (m : Bool) : (k.setD n v m).lastImage = k.lastImage := rfl
@[simp] theorem Core.setD_cut (k : Core) (n : DReg) (v : Desc) (m : Bool) : (k.setD n v m).cut = k.cut := rfl
@[simp] theorem Core.setD_cutAge (k : Core) (n : DReg) (v : Desc) (m : Bool) : (k.setD n v m).cutAge = k.cutAge := rfl
@[simp] theorem Core.setD_served (k : Core) (n : DReg) (v : Desc) (m : Bool) : (k.setD n v m).served = k.served := rfl
@[simp] theorem Core.setG_main (k : Core) (n : GReg) (v : BitVec 128) : (k.setG n v).main = k.main := rfl
@[simp] theorem Core.setG_tender (k : Core) (n : GReg) (v : BitVec 128) : (k.setG n v).tender = k.tender := rfl
@[simp] theorem Core.setG_ir (k : Core) (n : GReg) (v : BitVec 128) : (k.setG n v).ir = k.ir := rfl
@[simp] theorem Core.setG_csr (k : Core) (n : GReg) (v : BitVec 128) : (k.setG n v).csr = k.csr := rfl
@[simp] theorem Core.setG_windows (k : Core) (n : GReg) (v : BitVec 128) : (k.setG n v).windows = k.windows := rfl
@[simp] theorem Core.setG_fmtPend (k : Core) (n : GReg) (v : BitVec 128) : (k.setG n v).fmtPend = k.fmtPend := rfl
@[simp] theorem Core.setG_nt (k : Core) (n : GReg) (v : BitVec 128) : (k.setG n v).nt = k.nt := rfl
@[simp] theorem Core.setG_ntCount (k : Core) (n : GReg) (v : BitVec 128) : (k.setG n v).ntCount = k.ntCount := rfl
@[simp] theorem Core.setG_scratch (k : Core) (n : GReg) (v : BitVec 128) : (k.setG n v).scratch = k.scratch := rfl
@[simp] theorem Core.setG_scratchPoison (k : Core) (n : GReg) (v : BitVec 128) : (k.setG n v).scratchPoison = k.scratchPoison := rfl
@[simp] theorem Core.setG_tiles (k : Core) (n : GReg) (v : BitVec 128) : (k.setG n v).tiles = k.tiles := rfl
@[simp] theorem Core.setG_junk (k : Core) (n : GReg) (v : BitVec 128) : (k.setG n v).junk = k.junk := rfl
@[simp] theorem Core.setG_passes (k : Core) (n : GReg) (v : BitVec 128) : (k.setG n v).passes = k.passes := rfl
@[simp] theorem Core.setG_mstores (k : Core) (n : GReg) (v : BitVec 128) : (k.setG n v).mstores = k.mstores := rfl
@[simp] theorem Core.setG_matFree (k : Core) (n : GReg) (v : BitVec 128) : (k.setG n v).matFree = k.matFree := rfl
@[simp] theorem Core.setG_e0 (k : Core) (n : GReg) (v : BitVec 128) : (k.setG n v).e0 = k.e0 := rfl
@[simp] theorem Core.setG_e1 (k : Core) (n : GReg) (v : BitVec 128) : (k.setG n v).e1 = k.e1 := rfl
@[simp] theorem Core.setG_tickets (k : Core) (n : GReg) (v : BitVec 128) : (k.setG n v).tickets = k.tickets := rfl
@[simp] theorem Core.setG_blocks (k : Core) (n : GReg) (v : BitVec 128) : (k.setG n v).blocks = k.blocks := rfl
@[simp] theorem Core.setG_notice (k : Core) (n : GReg) (v : BitVec 128) : (k.setG n v).notice = k.notice := rfl
@[simp] theorem Core.setG_pend (k : Core) (n : GReg) (v : BitVec 128) : (k.setG n v).pend = k.pend := rfl
@[simp] theorem Core.setG_contain (k : Core) (n : GReg) (v : BitVec 128) : (k.setG n v).contain = k.contain := rfl
@[simp] theorem Core.setG_berth (k : Core) (n : GReg) (v : BitVec 128) : (k.setG n v).berth = k.berth := rfl
@[simp] theorem Core.setG_tlb (k : Core) (n : GReg) (v : BitVec 128) : (k.setG n v).tlb = k.tlb := rfl
@[simp] theorem Core.setG_icache (k : Core) (n : GReg) (v : BitVec 128) : (k.setG n v).icache = k.icache := rfl
@[simp] theorem Core.setG_dcache (k : Core) (n : GReg) (v : BitVec 128) : (k.setG n v).dcache = k.dcache := rfl
@[simp] theorem Core.setG_ord (k : Core) (n : GReg) (v : BitVec 128) : (k.setG n v).ord = k.ord := rfl
@[simp] theorem Core.setG_toPublish (k : Core) (n : GReg) (v : BitVec 128) : (k.setG n v).toPublish = k.toPublish := rfl
@[simp] theorem Core.setG_seen (k : Core) (n : GReg) (v : BitVec 128) : (k.setG n v).seen = k.seen := rfl
@[simp] theorem Core.setG_oldCode (k : Core) (n : GReg) (v : BitVec 128) : (k.setG n v).oldCode = k.oldCode := rfl
@[simp] theorem Core.setG_ltime (k : Core) (n : GReg) (v : BitVec 128) : (k.setG n v).ltime = k.ltime := rfl
@[simp] theorem Core.setG_task (k : Core) (n : GReg) (v : BitVec 128) : (k.setG n v).task = k.task := rfl
@[simp] theorem Core.setG_savedTask (k : Core) (n : GReg) (v : BitVec 128) : (k.setG n v).savedTask = k.savedTask := rfl
@[simp] theorem Core.setG_level (k : Core) (n : GReg) (v : BitVec 128) : (k.setG n v).level = k.level := rfl
@[simp] theorem Core.setG_entering (k : Core) (n : GReg) (v : BitVec 128) : (k.setG n v).entering = k.entering := rfl
@[simp] theorem Core.setG_lowHold (k : Core) (n : GReg) (v : BitVec 128) : (k.setG n v).lowHold = k.lowHold := rfl
@[simp] theorem Core.setG_frozen (k : Core) (n : GReg) (v : BitVec 128) : (k.setG n v).frozen = k.frozen := rfl
@[simp] theorem Core.setG_skip (k : Core) (n : GReg) (v : BitVec 128) : (k.setG n v).skip = k.skip := rfl
@[simp] theorem Core.setG_stall (k : Core) (n : GReg) (v : BitVec 128) : (k.setG n v).stall = k.stall := rfl
@[simp] theorem Core.setG_idleFrames (k : Core) (n : GReg) (v : BitVec 128) : (k.setG n v).idleFrames = k.idleFrames := rfl
@[simp] theorem Core.setG_enqFrames (k : Core) (n : GReg) (v : BitVec 128) : (k.setG n v).enqFrames = k.enqFrames := rfl
@[simp] theorem Core.setG_enqWaits (k : Core) (n : GReg) (v : BitVec 128) : (k.setG n v).enqWaits = k.enqWaits := rfl
@[simp] theorem Core.setG_saving (k : Core) (n : GReg) (v : BitVec 128) : (k.setG n v).saving = k.saving := rfl
@[simp] theorem Core.setG_pagein (k : Core) (n : GReg) (v : BitVec 128) : (k.setG n v).pagein = k.pagein := rfl
@[simp] theorem Core.setG_pageinAns (k : Core) (n : GReg) (v : BitVec 128) : (k.setG n v).pageinAns = k.pageinAns := rfl
@[simp] theorem Core.setG_syscSeq (k : Core) (n : GReg) (v : BitVec 128) : (k.setG n v).syscSeq = k.syscSeq := rfl
@[simp] theorem Core.setG_syscOpen (k : Core) (n : GReg) (v : BitVec 128) : (k.setG n v).syscOpen = k.syscOpen := rfl
@[simp] theorem Core.setG_syscSem (k : Core) (n : GReg) (v : BitVec 128) : (k.setG n v).syscSem = k.syscSem := rfl
@[simp] theorem Core.setG_lastImage (k : Core) (n : GReg) (v : BitVec 128) : (k.setG n v).lastImage = k.lastImage := rfl
@[simp] theorem Core.setG_cut (k : Core) (n : GReg) (v : BitVec 128) : (k.setG n v).cut = k.cut := rfl
@[simp] theorem Core.setG_cutAge (k : Core) (n : GReg) (v : BitVec 128) : (k.setG n v).cutAge = k.cutAge := rfl
@[simp] theorem Core.setG_served (k : Core) (n : GReg) (v : BitVec 128) : (k.setG n v).served = k.served := rfl
@[simp] theorem Core.setW_main (k : Core) (n : WReg) (v : BitVec 32) : (k.setW n v).main = k.main := rfl
@[simp] theorem Core.setW_tender (k : Core) (n : WReg) (v : BitVec 32) : (k.setW n v).tender = k.tender := rfl
@[simp] theorem Core.setW_ir (k : Core) (n : WReg) (v : BitVec 32) : (k.setW n v).ir = k.ir := rfl
@[simp] theorem Core.setW_csr (k : Core) (n : WReg) (v : BitVec 32) : (k.setW n v).csr = k.csr := rfl
@[simp] theorem Core.setW_windows (k : Core) (n : WReg) (v : BitVec 32) : (k.setW n v).windows = k.windows := rfl
@[simp] theorem Core.setW_fmtPend (k : Core) (n : WReg) (v : BitVec 32) : (k.setW n v).fmtPend = k.fmtPend := rfl
@[simp] theorem Core.setW_nt (k : Core) (n : WReg) (v : BitVec 32) : (k.setW n v).nt = k.nt := rfl
@[simp] theorem Core.setW_ntCount (k : Core) (n : WReg) (v : BitVec 32) : (k.setW n v).ntCount = k.ntCount := rfl
@[simp] theorem Core.setW_scratch (k : Core) (n : WReg) (v : BitVec 32) : (k.setW n v).scratch = k.scratch := rfl
@[simp] theorem Core.setW_scratchPoison (k : Core) (n : WReg) (v : BitVec 32) : (k.setW n v).scratchPoison = k.scratchPoison := rfl
@[simp] theorem Core.setW_tiles (k : Core) (n : WReg) (v : BitVec 32) : (k.setW n v).tiles = k.tiles := rfl
@[simp] theorem Core.setW_junk (k : Core) (n : WReg) (v : BitVec 32) : (k.setW n v).junk = k.junk := rfl
@[simp] theorem Core.setW_passes (k : Core) (n : WReg) (v : BitVec 32) : (k.setW n v).passes = k.passes := rfl
@[simp] theorem Core.setW_mstores (k : Core) (n : WReg) (v : BitVec 32) : (k.setW n v).mstores = k.mstores := rfl
@[simp] theorem Core.setW_matFree (k : Core) (n : WReg) (v : BitVec 32) : (k.setW n v).matFree = k.matFree := rfl
@[simp] theorem Core.setW_e0 (k : Core) (n : WReg) (v : BitVec 32) : (k.setW n v).e0 = k.e0 := rfl
@[simp] theorem Core.setW_e1 (k : Core) (n : WReg) (v : BitVec 32) : (k.setW n v).e1 = k.e1 := rfl
@[simp] theorem Core.setW_tickets (k : Core) (n : WReg) (v : BitVec 32) : (k.setW n v).tickets = k.tickets := rfl
@[simp] theorem Core.setW_blocks (k : Core) (n : WReg) (v : BitVec 32) : (k.setW n v).blocks = k.blocks := rfl
@[simp] theorem Core.setW_notice (k : Core) (n : WReg) (v : BitVec 32) : (k.setW n v).notice = k.notice := rfl
@[simp] theorem Core.setW_pend (k : Core) (n : WReg) (v : BitVec 32) : (k.setW n v).pend = k.pend := rfl
@[simp] theorem Core.setW_contain (k : Core) (n : WReg) (v : BitVec 32) : (k.setW n v).contain = k.contain := rfl
@[simp] theorem Core.setW_berth (k : Core) (n : WReg) (v : BitVec 32) : (k.setW n v).berth = k.berth := rfl
@[simp] theorem Core.setW_tlb (k : Core) (n : WReg) (v : BitVec 32) : (k.setW n v).tlb = k.tlb := rfl
@[simp] theorem Core.setW_icache (k : Core) (n : WReg) (v : BitVec 32) : (k.setW n v).icache = k.icache := rfl
@[simp] theorem Core.setW_dcache (k : Core) (n : WReg) (v : BitVec 32) : (k.setW n v).dcache = k.dcache := rfl
@[simp] theorem Core.setW_ord (k : Core) (n : WReg) (v : BitVec 32) : (k.setW n v).ord = k.ord := rfl
@[simp] theorem Core.setW_toPublish (k : Core) (n : WReg) (v : BitVec 32) : (k.setW n v).toPublish = k.toPublish := rfl
@[simp] theorem Core.setW_seen (k : Core) (n : WReg) (v : BitVec 32) : (k.setW n v).seen = k.seen := rfl
@[simp] theorem Core.setW_oldCode (k : Core) (n : WReg) (v : BitVec 32) : (k.setW n v).oldCode = k.oldCode := rfl
@[simp] theorem Core.setW_ltime (k : Core) (n : WReg) (v : BitVec 32) : (k.setW n v).ltime = k.ltime := rfl
@[simp] theorem Core.setW_task (k : Core) (n : WReg) (v : BitVec 32) : (k.setW n v).task = k.task := rfl
@[simp] theorem Core.setW_savedTask (k : Core) (n : WReg) (v : BitVec 32) : (k.setW n v).savedTask = k.savedTask := rfl
@[simp] theorem Core.setW_level (k : Core) (n : WReg) (v : BitVec 32) : (k.setW n v).level = k.level := rfl
@[simp] theorem Core.setW_entering (k : Core) (n : WReg) (v : BitVec 32) : (k.setW n v).entering = k.entering := rfl
@[simp] theorem Core.setW_lowHold (k : Core) (n : WReg) (v : BitVec 32) : (k.setW n v).lowHold = k.lowHold := rfl
@[simp] theorem Core.setW_frozen (k : Core) (n : WReg) (v : BitVec 32) : (k.setW n v).frozen = k.frozen := rfl
@[simp] theorem Core.setW_skip (k : Core) (n : WReg) (v : BitVec 32) : (k.setW n v).skip = k.skip := rfl
@[simp] theorem Core.setW_stall (k : Core) (n : WReg) (v : BitVec 32) : (k.setW n v).stall = k.stall := rfl
@[simp] theorem Core.setW_idleFrames (k : Core) (n : WReg) (v : BitVec 32) : (k.setW n v).idleFrames = k.idleFrames := rfl
@[simp] theorem Core.setW_enqFrames (k : Core) (n : WReg) (v : BitVec 32) : (k.setW n v).enqFrames = k.enqFrames := rfl
@[simp] theorem Core.setW_enqWaits (k : Core) (n : WReg) (v : BitVec 32) : (k.setW n v).enqWaits = k.enqWaits := rfl
@[simp] theorem Core.setW_saving (k : Core) (n : WReg) (v : BitVec 32) : (k.setW n v).saving = k.saving := rfl
@[simp] theorem Core.setW_pagein (k : Core) (n : WReg) (v : BitVec 32) : (k.setW n v).pagein = k.pagein := rfl
@[simp] theorem Core.setW_pageinAns (k : Core) (n : WReg) (v : BitVec 32) : (k.setW n v).pageinAns = k.pageinAns := rfl
@[simp] theorem Core.setW_syscSeq (k : Core) (n : WReg) (v : BitVec 32) : (k.setW n v).syscSeq = k.syscSeq := rfl
@[simp] theorem Core.setW_syscOpen (k : Core) (n : WReg) (v : BitVec 32) : (k.setW n v).syscOpen = k.syscOpen := rfl
@[simp] theorem Core.setW_syscSem (k : Core) (n : WReg) (v : BitVec 32) : (k.setW n v).syscSem = k.syscSem := rfl
@[simp] theorem Core.setW_lastImage (k : Core) (n : WReg) (v : BitVec 32) : (k.setW n v).lastImage = k.lastImage := rfl
@[simp] theorem Core.setW_cut (k : Core) (n : WReg) (v : BitVec 32) : (k.setW n v).cut = k.cut := rfl
@[simp] theorem Core.setW_cutAge (k : Core) (n : WReg) (v : BitVec 32) : (k.setW n v).cutAge = k.cutAge := rfl
@[simp] theorem Core.setW_served (k : Core) (n : WReg) (v : BitVec 32) : (k.setW n v).served = k.served := rfl
@[simp] theorem Core.setQ_main (k : Core) (n : QReg) (v : List QEntry) : (k.setQ n v).main = k.main := rfl
@[simp] theorem Core.setQ_tender (k : Core) (n : QReg) (v : List QEntry) : (k.setQ n v).tender = k.tender := rfl
@[simp] theorem Core.setQ_ir (k : Core) (n : QReg) (v : List QEntry) : (k.setQ n v).ir = k.ir := rfl
@[simp] theorem Core.setQ_csr (k : Core) (n : QReg) (v : List QEntry) : (k.setQ n v).csr = k.csr := rfl
@[simp] theorem Core.setQ_windows (k : Core) (n : QReg) (v : List QEntry) : (k.setQ n v).windows = k.windows := rfl
@[simp] theorem Core.setQ_fmtPend (k : Core) (n : QReg) (v : List QEntry) : (k.setQ n v).fmtPend = k.fmtPend := rfl
@[simp] theorem Core.setQ_nt (k : Core) (n : QReg) (v : List QEntry) : (k.setQ n v).nt = k.nt := rfl
@[simp] theorem Core.setQ_ntCount (k : Core) (n : QReg) (v : List QEntry) : (k.setQ n v).ntCount = k.ntCount := rfl
@[simp] theorem Core.setQ_scratch (k : Core) (n : QReg) (v : List QEntry) : (k.setQ n v).scratch = k.scratch := rfl
@[simp] theorem Core.setQ_scratchPoison (k : Core) (n : QReg) (v : List QEntry) : (k.setQ n v).scratchPoison = k.scratchPoison := rfl
@[simp] theorem Core.setQ_tiles (k : Core) (n : QReg) (v : List QEntry) : (k.setQ n v).tiles = k.tiles := rfl
@[simp] theorem Core.setQ_junk (k : Core) (n : QReg) (v : List QEntry) : (k.setQ n v).junk = k.junk := rfl
@[simp] theorem Core.setQ_passes (k : Core) (n : QReg) (v : List QEntry) : (k.setQ n v).passes = k.passes := rfl
@[simp] theorem Core.setQ_mstores (k : Core) (n : QReg) (v : List QEntry) : (k.setQ n v).mstores = k.mstores := rfl
@[simp] theorem Core.setQ_matFree (k : Core) (n : QReg) (v : List QEntry) : (k.setQ n v).matFree = k.matFree := rfl
@[simp] theorem Core.setQ_e0 (k : Core) (n : QReg) (v : List QEntry) : (k.setQ n v).e0 = k.e0 := rfl
@[simp] theorem Core.setQ_e1 (k : Core) (n : QReg) (v : List QEntry) : (k.setQ n v).e1 = k.e1 := rfl
@[simp] theorem Core.setQ_tickets (k : Core) (n : QReg) (v : List QEntry) : (k.setQ n v).tickets = k.tickets := rfl
@[simp] theorem Core.setQ_blocks (k : Core) (n : QReg) (v : List QEntry) : (k.setQ n v).blocks = k.blocks := rfl
@[simp] theorem Core.setQ_notice (k : Core) (n : QReg) (v : List QEntry) : (k.setQ n v).notice = k.notice := rfl
@[simp] theorem Core.setQ_pend (k : Core) (n : QReg) (v : List QEntry) : (k.setQ n v).pend = k.pend := rfl
@[simp] theorem Core.setQ_contain (k : Core) (n : QReg) (v : List QEntry) : (k.setQ n v).contain = k.contain := rfl
@[simp] theorem Core.setQ_berth (k : Core) (n : QReg) (v : List QEntry) : (k.setQ n v).berth = k.berth := rfl
@[simp] theorem Core.setQ_tlb (k : Core) (n : QReg) (v : List QEntry) : (k.setQ n v).tlb = k.tlb := rfl
@[simp] theorem Core.setQ_icache (k : Core) (n : QReg) (v : List QEntry) : (k.setQ n v).icache = k.icache := rfl
@[simp] theorem Core.setQ_dcache (k : Core) (n : QReg) (v : List QEntry) : (k.setQ n v).dcache = k.dcache := rfl
@[simp] theorem Core.setQ_ord (k : Core) (n : QReg) (v : List QEntry) : (k.setQ n v).ord = k.ord := rfl
@[simp] theorem Core.setQ_toPublish (k : Core) (n : QReg) (v : List QEntry) : (k.setQ n v).toPublish = k.toPublish := rfl
@[simp] theorem Core.setQ_seen (k : Core) (n : QReg) (v : List QEntry) : (k.setQ n v).seen = k.seen := rfl
@[simp] theorem Core.setQ_oldCode (k : Core) (n : QReg) (v : List QEntry) : (k.setQ n v).oldCode = k.oldCode := rfl
@[simp] theorem Core.setQ_ltime (k : Core) (n : QReg) (v : List QEntry) : (k.setQ n v).ltime = k.ltime := rfl
@[simp] theorem Core.setQ_task (k : Core) (n : QReg) (v : List QEntry) : (k.setQ n v).task = k.task := rfl
@[simp] theorem Core.setQ_savedTask (k : Core) (n : QReg) (v : List QEntry) : (k.setQ n v).savedTask = k.savedTask := rfl
@[simp] theorem Core.setQ_level (k : Core) (n : QReg) (v : List QEntry) : (k.setQ n v).level = k.level := rfl
@[simp] theorem Core.setQ_entering (k : Core) (n : QReg) (v : List QEntry) : (k.setQ n v).entering = k.entering := rfl
@[simp] theorem Core.setQ_lowHold (k : Core) (n : QReg) (v : List QEntry) : (k.setQ n v).lowHold = k.lowHold := rfl
@[simp] theorem Core.setQ_frozen (k : Core) (n : QReg) (v : List QEntry) : (k.setQ n v).frozen = k.frozen := rfl
@[simp] theorem Core.setQ_skip (k : Core) (n : QReg) (v : List QEntry) : (k.setQ n v).skip = k.skip := rfl
@[simp] theorem Core.setQ_stall (k : Core) (n : QReg) (v : List QEntry) : (k.setQ n v).stall = k.stall := rfl
@[simp] theorem Core.setQ_idleFrames (k : Core) (n : QReg) (v : List QEntry) : (k.setQ n v).idleFrames = k.idleFrames := rfl
@[simp] theorem Core.setQ_enqFrames (k : Core) (n : QReg) (v : List QEntry) : (k.setQ n v).enqFrames = k.enqFrames := rfl
@[simp] theorem Core.setQ_enqWaits (k : Core) (n : QReg) (v : List QEntry) : (k.setQ n v).enqWaits = k.enqWaits := rfl
@[simp] theorem Core.setQ_saving (k : Core) (n : QReg) (v : List QEntry) : (k.setQ n v).saving = k.saving := rfl
@[simp] theorem Core.setQ_pagein (k : Core) (n : QReg) (v : List QEntry) : (k.setQ n v).pagein = k.pagein := rfl
@[simp] theorem Core.setQ_pageinAns (k : Core) (n : QReg) (v : List QEntry) : (k.setQ n v).pageinAns = k.pageinAns := rfl
@[simp] theorem Core.setQ_syscSeq (k : Core) (n : QReg) (v : List QEntry) : (k.setQ n v).syscSeq = k.syscSeq := rfl
@[simp] theorem Core.setQ_syscOpen (k : Core) (n : QReg) (v : List QEntry) : (k.setQ n v).syscOpen = k.syscOpen := rfl
@[simp] theorem Core.setQ_syscSem (k : Core) (n : QReg) (v : List QEntry) : (k.setQ n v).syscSem = k.syscSem := rfl
@[simp] theorem Core.setQ_lastImage (k : Core) (n : QReg) (v : List QEntry) : (k.setQ n v).lastImage = k.lastImage := rfl
@[simp] theorem Core.setQ_cut (k : Core) (n : QReg) (v : List QEntry) : (k.setQ n v).cut = k.cut := rfl
@[simp] theorem Core.setQ_cutAge (k : Core) (n : QReg) (v : List QEntry) : (k.setQ n v).cutAge = k.cutAge := rfl
@[simp] theorem Core.setQ_served (k : Core) (n : QReg) (v : List QEntry) : (k.setQ n v).served = k.served := rfl
@[simp] theorem Core.setRow_main (k : Core) (a r : Nat) (v : Vec) : (k.setRow a r v).main = k.main := rfl
@[simp] theorem Core.setRow_tender (k : Core) (a r : Nat) (v : Vec) : (k.setRow a r v).tender = k.tender := rfl
@[simp] theorem Core.setRow_ir (k : Core) (a r : Nat) (v : Vec) : (k.setRow a r v).ir = k.ir := rfl
@[simp] theorem Core.setRow_csr (k : Core) (a r : Nat) (v : Vec) : (k.setRow a r v).csr = k.csr := rfl
@[simp] theorem Core.setRow_windows (k : Core) (a r : Nat) (v : Vec) : (k.setRow a r v).windows = k.windows := rfl
@[simp] theorem Core.setRow_fmtPend (k : Core) (a r : Nat) (v : Vec) : (k.setRow a r v).fmtPend = k.fmtPend := rfl
@[simp] theorem Core.setRow_nt (k : Core) (a r : Nat) (v : Vec) : (k.setRow a r v).nt = k.nt := rfl
@[simp] theorem Core.setRow_ntCount (k : Core) (a r : Nat) (v : Vec) : (k.setRow a r v).ntCount = k.ntCount := rfl
@[simp] theorem Core.setRow_scratch (k : Core) (a r : Nat) (v : Vec) : (k.setRow a r v).scratch = k.scratch := rfl
@[simp] theorem Core.setRow_scratchPoison (k : Core) (a r : Nat) (v : Vec) : (k.setRow a r v).scratchPoison = k.scratchPoison := rfl
@[simp] theorem Core.setRow_tiles (k : Core) (a r : Nat) (v : Vec) : (k.setRow a r v).tiles = k.tiles := rfl
@[simp] theorem Core.setRow_junk (k : Core) (a r : Nat) (v : Vec) : (k.setRow a r v).junk = k.junk := rfl
@[simp] theorem Core.setRow_passes (k : Core) (a r : Nat) (v : Vec) : (k.setRow a r v).passes = k.passes := rfl
@[simp] theorem Core.setRow_mstores (k : Core) (a r : Nat) (v : Vec) : (k.setRow a r v).mstores = k.mstores := rfl
@[simp] theorem Core.setRow_matFree (k : Core) (a r : Nat) (v : Vec) : (k.setRow a r v).matFree = k.matFree := rfl
@[simp] theorem Core.setRow_e0 (k : Core) (a r : Nat) (v : Vec) : (k.setRow a r v).e0 = k.e0 := rfl
@[simp] theorem Core.setRow_e1 (k : Core) (a r : Nat) (v : Vec) : (k.setRow a r v).e1 = k.e1 := rfl
@[simp] theorem Core.setRow_tickets (k : Core) (a r : Nat) (v : Vec) : (k.setRow a r v).tickets = k.tickets := rfl
@[simp] theorem Core.setRow_blocks (k : Core) (a r : Nat) (v : Vec) : (k.setRow a r v).blocks = k.blocks := rfl
@[simp] theorem Core.setRow_notice (k : Core) (a r : Nat) (v : Vec) : (k.setRow a r v).notice = k.notice := rfl
@[simp] theorem Core.setRow_pend (k : Core) (a r : Nat) (v : Vec) : (k.setRow a r v).pend = k.pend := rfl
@[simp] theorem Core.setRow_contain (k : Core) (a r : Nat) (v : Vec) : (k.setRow a r v).contain = k.contain := rfl
@[simp] theorem Core.setRow_berth (k : Core) (a r : Nat) (v : Vec) : (k.setRow a r v).berth = k.berth := rfl
@[simp] theorem Core.setRow_tlb (k : Core) (a r : Nat) (v : Vec) : (k.setRow a r v).tlb = k.tlb := rfl
@[simp] theorem Core.setRow_icache (k : Core) (a r : Nat) (v : Vec) : (k.setRow a r v).icache = k.icache := rfl
@[simp] theorem Core.setRow_dcache (k : Core) (a r : Nat) (v : Vec) : (k.setRow a r v).dcache = k.dcache := rfl
@[simp] theorem Core.setRow_ord (k : Core) (a r : Nat) (v : Vec) : (k.setRow a r v).ord = k.ord := rfl
@[simp] theorem Core.setRow_toPublish (k : Core) (a r : Nat) (v : Vec) : (k.setRow a r v).toPublish = k.toPublish := rfl
@[simp] theorem Core.setRow_seen (k : Core) (a r : Nat) (v : Vec) : (k.setRow a r v).seen = k.seen := rfl
@[simp] theorem Core.setRow_oldCode (k : Core) (a r : Nat) (v : Vec) : (k.setRow a r v).oldCode = k.oldCode := rfl
@[simp] theorem Core.setRow_ltime (k : Core) (a r : Nat) (v : Vec) : (k.setRow a r v).ltime = k.ltime := rfl
@[simp] theorem Core.setRow_task (k : Core) (a r : Nat) (v : Vec) : (k.setRow a r v).task = k.task := rfl
@[simp] theorem Core.setRow_savedTask (k : Core) (a r : Nat) (v : Vec) : (k.setRow a r v).savedTask = k.savedTask := rfl
@[simp] theorem Core.setRow_level (k : Core) (a r : Nat) (v : Vec) : (k.setRow a r v).level = k.level := rfl
@[simp] theorem Core.setRow_entering (k : Core) (a r : Nat) (v : Vec) : (k.setRow a r v).entering = k.entering := rfl
@[simp] theorem Core.setRow_lowHold (k : Core) (a r : Nat) (v : Vec) : (k.setRow a r v).lowHold = k.lowHold := rfl
@[simp] theorem Core.setRow_frozen (k : Core) (a r : Nat) (v : Vec) : (k.setRow a r v).frozen = k.frozen := rfl
@[simp] theorem Core.setRow_skip (k : Core) (a r : Nat) (v : Vec) : (k.setRow a r v).skip = k.skip := rfl
@[simp] theorem Core.setRow_stall (k : Core) (a r : Nat) (v : Vec) : (k.setRow a r v).stall = k.stall := rfl
@[simp] theorem Core.setRow_idleFrames (k : Core) (a r : Nat) (v : Vec) : (k.setRow a r v).idleFrames = k.idleFrames := rfl
@[simp] theorem Core.setRow_enqFrames (k : Core) (a r : Nat) (v : Vec) : (k.setRow a r v).enqFrames = k.enqFrames := rfl
@[simp] theorem Core.setRow_enqWaits (k : Core) (a r : Nat) (v : Vec) : (k.setRow a r v).enqWaits = k.enqWaits := rfl
@[simp] theorem Core.setRow_saving (k : Core) (a r : Nat) (v : Vec) : (k.setRow a r v).saving = k.saving := rfl
@[simp] theorem Core.setRow_pagein (k : Core) (a r : Nat) (v : Vec) : (k.setRow a r v).pagein = k.pagein := rfl
@[simp] theorem Core.setRow_pageinAns (k : Core) (a r : Nat) (v : Vec) : (k.setRow a r v).pageinAns = k.pageinAns := rfl
@[simp] theorem Core.setRow_syscSeq (k : Core) (a r : Nat) (v : Vec) : (k.setRow a r v).syscSeq = k.syscSeq := rfl
@[simp] theorem Core.setRow_syscOpen (k : Core) (a r : Nat) (v : Vec) : (k.setRow a r v).syscOpen = k.syscOpen := rfl
@[simp] theorem Core.setRow_syscSem (k : Core) (a r : Nat) (v : Vec) : (k.setRow a r v).syscSem = k.syscSem := rfl
@[simp] theorem Core.setRow_lastImage (k : Core) (a r : Nat) (v : Vec) : (k.setRow a r v).lastImage = k.lastImage := rfl
@[simp] theorem Core.setRow_cut (k : Core) (a r : Nat) (v : Vec) : (k.setRow a r v).cut = k.cut := rfl
@[simp] theorem Core.setRow_cutAge (k : Core) (a r : Nat) (v : Vec) : (k.setRow a r v).cutAge = k.cutAge := rfl
@[simp] theorem Core.setRow_served (k : Core) (a r : Nat) (v : Vec) : (k.setRow a r v).served = k.served := rfl
@[simp] theorem Core.setRowBad_main (k : Core) (a r : Nat) (b : Bool) : (k.setRowBad a r b).main = k.main := rfl
@[simp] theorem Core.setRowBad_tender (k : Core) (a r : Nat) (b : Bool) : (k.setRowBad a r b).tender = k.tender := rfl
@[simp] theorem Core.setRowBad_ir (k : Core) (a r : Nat) (b : Bool) : (k.setRowBad a r b).ir = k.ir := rfl
@[simp] theorem Core.setRowBad_csr (k : Core) (a r : Nat) (b : Bool) : (k.setRowBad a r b).csr = k.csr := rfl
@[simp] theorem Core.setRowBad_windows (k : Core) (a r : Nat) (b : Bool) : (k.setRowBad a r b).windows = k.windows := rfl
@[simp] theorem Core.setRowBad_fmtPend (k : Core) (a r : Nat) (b : Bool) : (k.setRowBad a r b).fmtPend = k.fmtPend := rfl
@[simp] theorem Core.setRowBad_nt (k : Core) (a r : Nat) (b : Bool) : (k.setRowBad a r b).nt = k.nt := rfl
@[simp] theorem Core.setRowBad_ntCount (k : Core) (a r : Nat) (b : Bool) : (k.setRowBad a r b).ntCount = k.ntCount := rfl
@[simp] theorem Core.setRowBad_scratch (k : Core) (a r : Nat) (b : Bool) : (k.setRowBad a r b).scratch = k.scratch := rfl
@[simp] theorem Core.setRowBad_scratchPoison (k : Core) (a r : Nat) (b : Bool) : (k.setRowBad a r b).scratchPoison = k.scratchPoison := rfl
@[simp] theorem Core.setRowBad_tiles (k : Core) (a r : Nat) (b : Bool) : (k.setRowBad a r b).tiles = k.tiles := rfl
@[simp] theorem Core.setRowBad_junk (k : Core) (a r : Nat) (b : Bool) : (k.setRowBad a r b).junk = k.junk := rfl
@[simp] theorem Core.setRowBad_passes (k : Core) (a r : Nat) (b : Bool) : (k.setRowBad a r b).passes = k.passes := rfl
@[simp] theorem Core.setRowBad_mstores (k : Core) (a r : Nat) (b : Bool) : (k.setRowBad a r b).mstores = k.mstores := rfl
@[simp] theorem Core.setRowBad_matFree (k : Core) (a r : Nat) (b : Bool) : (k.setRowBad a r b).matFree = k.matFree := rfl
@[simp] theorem Core.setRowBad_e0 (k : Core) (a r : Nat) (b : Bool) : (k.setRowBad a r b).e0 = k.e0 := rfl
@[simp] theorem Core.setRowBad_e1 (k : Core) (a r : Nat) (b : Bool) : (k.setRowBad a r b).e1 = k.e1 := rfl
@[simp] theorem Core.setRowBad_tickets (k : Core) (a r : Nat) (b : Bool) : (k.setRowBad a r b).tickets = k.tickets := rfl
@[simp] theorem Core.setRowBad_blocks (k : Core) (a r : Nat) (b : Bool) : (k.setRowBad a r b).blocks = k.blocks := rfl
@[simp] theorem Core.setRowBad_notice (k : Core) (a r : Nat) (b : Bool) : (k.setRowBad a r b).notice = k.notice := rfl
@[simp] theorem Core.setRowBad_pend (k : Core) (a r : Nat) (b : Bool) : (k.setRowBad a r b).pend = k.pend := rfl
@[simp] theorem Core.setRowBad_contain (k : Core) (a r : Nat) (b : Bool) : (k.setRowBad a r b).contain = k.contain := rfl
@[simp] theorem Core.setRowBad_berth (k : Core) (a r : Nat) (b : Bool) : (k.setRowBad a r b).berth = k.berth := rfl
@[simp] theorem Core.setRowBad_tlb (k : Core) (a r : Nat) (b : Bool) : (k.setRowBad a r b).tlb = k.tlb := rfl
@[simp] theorem Core.setRowBad_icache (k : Core) (a r : Nat) (b : Bool) : (k.setRowBad a r b).icache = k.icache := rfl
@[simp] theorem Core.setRowBad_dcache (k : Core) (a r : Nat) (b : Bool) : (k.setRowBad a r b).dcache = k.dcache := rfl
@[simp] theorem Core.setRowBad_ord (k : Core) (a r : Nat) (b : Bool) : (k.setRowBad a r b).ord = k.ord := rfl
@[simp] theorem Core.setRowBad_toPublish (k : Core) (a r : Nat) (b : Bool) : (k.setRowBad a r b).toPublish = k.toPublish := rfl
@[simp] theorem Core.setRowBad_seen (k : Core) (a r : Nat) (b : Bool) : (k.setRowBad a r b).seen = k.seen := rfl
@[simp] theorem Core.setRowBad_oldCode (k : Core) (a r : Nat) (b : Bool) : (k.setRowBad a r b).oldCode = k.oldCode := rfl
@[simp] theorem Core.setRowBad_ltime (k : Core) (a r : Nat) (b : Bool) : (k.setRowBad a r b).ltime = k.ltime := rfl
@[simp] theorem Core.setRowBad_task (k : Core) (a r : Nat) (b : Bool) : (k.setRowBad a r b).task = k.task := rfl
@[simp] theorem Core.setRowBad_savedTask (k : Core) (a r : Nat) (b : Bool) : (k.setRowBad a r b).savedTask = k.savedTask := rfl
@[simp] theorem Core.setRowBad_level (k : Core) (a r : Nat) (b : Bool) : (k.setRowBad a r b).level = k.level := rfl
@[simp] theorem Core.setRowBad_entering (k : Core) (a r : Nat) (b : Bool) : (k.setRowBad a r b).entering = k.entering := rfl
@[simp] theorem Core.setRowBad_lowHold (k : Core) (a r : Nat) (b : Bool) : (k.setRowBad a r b).lowHold = k.lowHold := rfl
@[simp] theorem Core.setRowBad_frozen (k : Core) (a r : Nat) (b : Bool) : (k.setRowBad a r b).frozen = k.frozen := rfl
@[simp] theorem Core.setRowBad_skip (k : Core) (a r : Nat) (b : Bool) : (k.setRowBad a r b).skip = k.skip := rfl
@[simp] theorem Core.setRowBad_stall (k : Core) (a r : Nat) (b : Bool) : (k.setRowBad a r b).stall = k.stall := rfl
@[simp] theorem Core.setRowBad_idleFrames (k : Core) (a r : Nat) (b : Bool) : (k.setRowBad a r b).idleFrames = k.idleFrames := rfl
@[simp] theorem Core.setRowBad_enqFrames (k : Core) (a r : Nat) (b : Bool) : (k.setRowBad a r b).enqFrames = k.enqFrames := rfl
@[simp] theorem Core.setRowBad_enqWaits (k : Core) (a r : Nat) (b : Bool) : (k.setRowBad a r b).enqWaits = k.enqWaits := rfl
@[simp] theorem Core.setRowBad_saving (k : Core) (a r : Nat) (b : Bool) : (k.setRowBad a r b).saving = k.saving := rfl
@[simp] theorem Core.setRowBad_pagein (k : Core) (a r : Nat) (b : Bool) : (k.setRowBad a r b).pagein = k.pagein := rfl
@[simp] theorem Core.setRowBad_pageinAns (k : Core) (a r : Nat) (b : Bool) : (k.setRowBad a r b).pageinAns = k.pageinAns := rfl
@[simp] theorem Core.setRowBad_syscSeq (k : Core) (a r : Nat) (b : Bool) : (k.setRowBad a r b).syscSeq = k.syscSeq := rfl
@[simp] theorem Core.setRowBad_syscOpen (k : Core) (a r : Nat) (b : Bool) : (k.setRowBad a r b).syscOpen = k.syscOpen := rfl
@[simp] theorem Core.setRowBad_syscSem (k : Core) (a r : Nat) (b : Bool) : (k.setRowBad a r b).syscSem = k.syscSem := rfl
@[simp] theorem Core.setRowBad_lastImage (k : Core) (a r : Nat) (b : Bool) : (k.setRowBad a r b).lastImage = k.lastImage := rfl
@[simp] theorem Core.setRowBad_cut (k : Core) (a r : Nat) (b : Bool) : (k.setRowBad a r b).cut = k.cut := rfl
@[simp] theorem Core.setRowBad_cutAge (k : Core) (a r : Nat) (b : Bool) : (k.setRowBad a r b).cutAge = k.cutAge := rfl
@[simp] theorem Core.setRowBad_served (k : Core) (a r : Nat) (b : Bool) : (k.setRowBad a r b).served = k.served := rfl
@[simp] theorem Core.csrPut_regs (k : Core) (n : Nat) (v : Word64) : (k.csrPut n v).regs = k.regs := rfl
@[simp] theorem Core.csrPut_main (k : Core) (n : Nat) (v : Word64) : (k.csrPut n v).main = k.main := rfl
@[simp] theorem Core.csrPut_tender (k : Core) (n : Nat) (v : Word64) : (k.csrPut n v).tender = k.tender := rfl
@[simp] theorem Core.csrPut_ir (k : Core) (n : Nat) (v : Word64) : (k.csrPut n v).ir = k.ir := rfl
@[simp] theorem Core.csrPut_windows (k : Core) (n : Nat) (v : Word64) : (k.csrPut n v).windows = k.windows := rfl
@[simp] theorem Core.csrPut_fmtPend (k : Core) (n : Nat) (v : Word64) : (k.csrPut n v).fmtPend = k.fmtPend := rfl
@[simp] theorem Core.csrPut_nt (k : Core) (n : Nat) (v : Word64) : (k.csrPut n v).nt = k.nt := rfl
@[simp] theorem Core.csrPut_ntCount (k : Core) (n : Nat) (v : Word64) : (k.csrPut n v).ntCount = k.ntCount := rfl
@[simp] theorem Core.csrPut_scratch (k : Core) (n : Nat) (v : Word64) : (k.csrPut n v).scratch = k.scratch := rfl
@[simp] theorem Core.csrPut_scratchPoison (k : Core) (n : Nat) (v : Word64) : (k.csrPut n v).scratchPoison = k.scratchPoison := rfl
@[simp] theorem Core.csrPut_tiles (k : Core) (n : Nat) (v : Word64) : (k.csrPut n v).tiles = k.tiles := rfl
@[simp] theorem Core.csrPut_junk (k : Core) (n : Nat) (v : Word64) : (k.csrPut n v).junk = k.junk := rfl
@[simp] theorem Core.csrPut_passes (k : Core) (n : Nat) (v : Word64) : (k.csrPut n v).passes = k.passes := rfl
@[simp] theorem Core.csrPut_mstores (k : Core) (n : Nat) (v : Word64) : (k.csrPut n v).mstores = k.mstores := rfl
@[simp] theorem Core.csrPut_matFree (k : Core) (n : Nat) (v : Word64) : (k.csrPut n v).matFree = k.matFree := rfl
@[simp] theorem Core.csrPut_e0 (k : Core) (n : Nat) (v : Word64) : (k.csrPut n v).e0 = k.e0 := rfl
@[simp] theorem Core.csrPut_e1 (k : Core) (n : Nat) (v : Word64) : (k.csrPut n v).e1 = k.e1 := rfl
@[simp] theorem Core.csrPut_tickets (k : Core) (n : Nat) (v : Word64) : (k.csrPut n v).tickets = k.tickets := rfl
@[simp] theorem Core.csrPut_blocks (k : Core) (n : Nat) (v : Word64) : (k.csrPut n v).blocks = k.blocks := rfl
@[simp] theorem Core.csrPut_notice (k : Core) (n : Nat) (v : Word64) : (k.csrPut n v).notice = k.notice := rfl
@[simp] theorem Core.csrPut_pend (k : Core) (n : Nat) (v : Word64) : (k.csrPut n v).pend = k.pend := rfl
@[simp] theorem Core.csrPut_contain (k : Core) (n : Nat) (v : Word64) : (k.csrPut n v).contain = k.contain := rfl
@[simp] theorem Core.csrPut_berth (k : Core) (n : Nat) (v : Word64) : (k.csrPut n v).berth = k.berth := rfl
@[simp] theorem Core.csrPut_tlb (k : Core) (n : Nat) (v : Word64) : (k.csrPut n v).tlb = k.tlb := rfl
@[simp] theorem Core.csrPut_icache (k : Core) (n : Nat) (v : Word64) : (k.csrPut n v).icache = k.icache := rfl
@[simp] theorem Core.csrPut_dcache (k : Core) (n : Nat) (v : Word64) : (k.csrPut n v).dcache = k.dcache := rfl
@[simp] theorem Core.csrPut_ord (k : Core) (n : Nat) (v : Word64) : (k.csrPut n v).ord = k.ord := rfl
@[simp] theorem Core.csrPut_toPublish (k : Core) (n : Nat) (v : Word64) : (k.csrPut n v).toPublish = k.toPublish := rfl
@[simp] theorem Core.csrPut_seen (k : Core) (n : Nat) (v : Word64) : (k.csrPut n v).seen = k.seen := rfl
@[simp] theorem Core.csrPut_oldCode (k : Core) (n : Nat) (v : Word64) : (k.csrPut n v).oldCode = k.oldCode := rfl
@[simp] theorem Core.csrPut_ltime (k : Core) (n : Nat) (v : Word64) : (k.csrPut n v).ltime = k.ltime := rfl
@[simp] theorem Core.csrPut_task (k : Core) (n : Nat) (v : Word64) : (k.csrPut n v).task = k.task := rfl
@[simp] theorem Core.csrPut_savedTask (k : Core) (n : Nat) (v : Word64) : (k.csrPut n v).savedTask = k.savedTask := rfl
@[simp] theorem Core.csrPut_level (k : Core) (n : Nat) (v : Word64) : (k.csrPut n v).level = k.level := rfl
@[simp] theorem Core.csrPut_entering (k : Core) (n : Nat) (v : Word64) : (k.csrPut n v).entering = k.entering := rfl
@[simp] theorem Core.csrPut_lowHold (k : Core) (n : Nat) (v : Word64) : (k.csrPut n v).lowHold = k.lowHold := rfl
@[simp] theorem Core.csrPut_frozen (k : Core) (n : Nat) (v : Word64) : (k.csrPut n v).frozen = k.frozen := rfl
@[simp] theorem Core.csrPut_skip (k : Core) (n : Nat) (v : Word64) : (k.csrPut n v).skip = k.skip := rfl
@[simp] theorem Core.csrPut_stall (k : Core) (n : Nat) (v : Word64) : (k.csrPut n v).stall = k.stall := rfl
@[simp] theorem Core.csrPut_idleFrames (k : Core) (n : Nat) (v : Word64) : (k.csrPut n v).idleFrames = k.idleFrames := rfl
@[simp] theorem Core.csrPut_enqFrames (k : Core) (n : Nat) (v : Word64) : (k.csrPut n v).enqFrames = k.enqFrames := rfl
@[simp] theorem Core.csrPut_enqWaits (k : Core) (n : Nat) (v : Word64) : (k.csrPut n v).enqWaits = k.enqWaits := rfl
@[simp] theorem Core.csrPut_saving (k : Core) (n : Nat) (v : Word64) : (k.csrPut n v).saving = k.saving := rfl
@[simp] theorem Core.csrPut_pagein (k : Core) (n : Nat) (v : Word64) : (k.csrPut n v).pagein = k.pagein := rfl
@[simp] theorem Core.csrPut_pageinAns (k : Core) (n : Nat) (v : Word64) : (k.csrPut n v).pageinAns = k.pageinAns := rfl
@[simp] theorem Core.csrPut_syscSeq (k : Core) (n : Nat) (v : Word64) : (k.csrPut n v).syscSeq = k.syscSeq := rfl
@[simp] theorem Core.csrPut_syscOpen (k : Core) (n : Nat) (v : Word64) : (k.csrPut n v).syscOpen = k.syscOpen := rfl
@[simp] theorem Core.csrPut_syscSem (k : Core) (n : Nat) (v : Word64) : (k.csrPut n v).syscSem = k.syscSem := rfl
@[simp] theorem Core.csrPut_lastImage (k : Core) (n : Nat) (v : Word64) : (k.csrPut n v).lastImage = k.lastImage := rfl
@[simp] theorem Core.csrPut_cut (k : Core) (n : Nat) (v : Word64) : (k.csrPut n v).cut = k.cut := rfl
@[simp] theorem Core.csrPut_cutAge (k : Core) (n : Nat) (v : Word64) : (k.csrPut n v).cutAge = k.cutAge := rfl
@[simp] theorem Core.csrPut_served (k : Core) (n : Nat) (v : Word64) : (k.csrPut n v).served = k.served := rfl
@[simp] theorem Core.addWindow_regs (k : Core) (clk : Nat) (r : RegName) (b : Nat) (f : Flags) : (k.addWindow clk r b f).regs = k.regs := rfl
@[simp] theorem Core.addWindow_main (k : Core) (clk : Nat) (r : RegName) (b : Nat) (f : Flags) : (k.addWindow clk r b f).main = k.main := rfl
@[simp] theorem Core.addWindow_tender (k : Core) (clk : Nat) (r : RegName) (b : Nat) (f : Flags) : (k.addWindow clk r b f).tender = k.tender := rfl
@[simp] theorem Core.addWindow_ir (k : Core) (clk : Nat) (r : RegName) (b : Nat) (f : Flags) : (k.addWindow clk r b f).ir = k.ir := rfl
@[simp] theorem Core.addWindow_csr (k : Core) (clk : Nat) (r : RegName) (b : Nat) (f : Flags) : (k.addWindow clk r b f).csr = k.csr := rfl
@[simp] theorem Core.addWindow_fmtPend (k : Core) (clk : Nat) (r : RegName) (b : Nat) (f : Flags) : (k.addWindow clk r b f).fmtPend = k.fmtPend := rfl
@[simp] theorem Core.addWindow_nt (k : Core) (clk : Nat) (r : RegName) (b : Nat) (f : Flags) : (k.addWindow clk r b f).nt = k.nt := rfl
@[simp] theorem Core.addWindow_ntCount (k : Core) (clk : Nat) (r : RegName) (b : Nat) (f : Flags) : (k.addWindow clk r b f).ntCount = k.ntCount := rfl
@[simp] theorem Core.addWindow_scratch (k : Core) (clk : Nat) (r : RegName) (b : Nat) (f : Flags) : (k.addWindow clk r b f).scratch = k.scratch := rfl
@[simp] theorem Core.addWindow_scratchPoison (k : Core) (clk : Nat) (r : RegName) (b : Nat) (f : Flags) : (k.addWindow clk r b f).scratchPoison = k.scratchPoison := rfl
@[simp] theorem Core.addWindow_tiles (k : Core) (clk : Nat) (r : RegName) (b : Nat) (f : Flags) : (k.addWindow clk r b f).tiles = k.tiles := rfl
@[simp] theorem Core.addWindow_junk (k : Core) (clk : Nat) (r : RegName) (b : Nat) (f : Flags) : (k.addWindow clk r b f).junk = k.junk := rfl
@[simp] theorem Core.addWindow_passes (k : Core) (clk : Nat) (r : RegName) (b : Nat) (f : Flags) : (k.addWindow clk r b f).passes = k.passes := rfl
@[simp] theorem Core.addWindow_mstores (k : Core) (clk : Nat) (r : RegName) (b : Nat) (f : Flags) : (k.addWindow clk r b f).mstores = k.mstores := rfl
@[simp] theorem Core.addWindow_matFree (k : Core) (clk : Nat) (r : RegName) (b : Nat) (f : Flags) : (k.addWindow clk r b f).matFree = k.matFree := rfl
@[simp] theorem Core.addWindow_e0 (k : Core) (clk : Nat) (r : RegName) (b : Nat) (f : Flags) : (k.addWindow clk r b f).e0 = k.e0 := rfl
@[simp] theorem Core.addWindow_e1 (k : Core) (clk : Nat) (r : RegName) (b : Nat) (f : Flags) : (k.addWindow clk r b f).e1 = k.e1 := rfl
@[simp] theorem Core.addWindow_tickets (k : Core) (clk : Nat) (r : RegName) (b : Nat) (f : Flags) : (k.addWindow clk r b f).tickets = k.tickets := rfl
@[simp] theorem Core.addWindow_blocks (k : Core) (clk : Nat) (r : RegName) (b : Nat) (f : Flags) : (k.addWindow clk r b f).blocks = k.blocks := rfl
@[simp] theorem Core.addWindow_notice (k : Core) (clk : Nat) (r : RegName) (b : Nat) (f : Flags) : (k.addWindow clk r b f).notice = k.notice := rfl
@[simp] theorem Core.addWindow_pend (k : Core) (clk : Nat) (r : RegName) (b : Nat) (f : Flags) : (k.addWindow clk r b f).pend = k.pend := rfl
@[simp] theorem Core.addWindow_contain (k : Core) (clk : Nat) (r : RegName) (b : Nat) (f : Flags) : (k.addWindow clk r b f).contain = k.contain := rfl
@[simp] theorem Core.addWindow_berth (k : Core) (clk : Nat) (r : RegName) (b : Nat) (f : Flags) : (k.addWindow clk r b f).berth = k.berth := rfl
@[simp] theorem Core.addWindow_tlb (k : Core) (clk : Nat) (r : RegName) (b : Nat) (f : Flags) : (k.addWindow clk r b f).tlb = k.tlb := rfl
@[simp] theorem Core.addWindow_icache (k : Core) (clk : Nat) (r : RegName) (b : Nat) (f : Flags) : (k.addWindow clk r b f).icache = k.icache := rfl
@[simp] theorem Core.addWindow_dcache (k : Core) (clk : Nat) (r : RegName) (b : Nat) (f : Flags) : (k.addWindow clk r b f).dcache = k.dcache := rfl
@[simp] theorem Core.addWindow_ord (k : Core) (clk : Nat) (r : RegName) (b : Nat) (f : Flags) : (k.addWindow clk r b f).ord = k.ord := rfl
@[simp] theorem Core.addWindow_toPublish (k : Core) (clk : Nat) (r : RegName) (b : Nat) (f : Flags) : (k.addWindow clk r b f).toPublish = k.toPublish := rfl
@[simp] theorem Core.addWindow_seen (k : Core) (clk : Nat) (r : RegName) (b : Nat) (f : Flags) : (k.addWindow clk r b f).seen = k.seen := rfl
@[simp] theorem Core.addWindow_oldCode (k : Core) (clk : Nat) (r : RegName) (b : Nat) (f : Flags) : (k.addWindow clk r b f).oldCode = k.oldCode := rfl
@[simp] theorem Core.addWindow_ltime (k : Core) (clk : Nat) (r : RegName) (b : Nat) (f : Flags) : (k.addWindow clk r b f).ltime = k.ltime := rfl
@[simp] theorem Core.addWindow_task (k : Core) (clk : Nat) (r : RegName) (b : Nat) (f : Flags) : (k.addWindow clk r b f).task = k.task := rfl
@[simp] theorem Core.addWindow_savedTask (k : Core) (clk : Nat) (r : RegName) (b : Nat) (f : Flags) : (k.addWindow clk r b f).savedTask = k.savedTask := rfl
@[simp] theorem Core.addWindow_level (k : Core) (clk : Nat) (r : RegName) (b : Nat) (f : Flags) : (k.addWindow clk r b f).level = k.level := rfl
@[simp] theorem Core.addWindow_entering (k : Core) (clk : Nat) (r : RegName) (b : Nat) (f : Flags) : (k.addWindow clk r b f).entering = k.entering := rfl
@[simp] theorem Core.addWindow_lowHold (k : Core) (clk : Nat) (r : RegName) (b : Nat) (f : Flags) : (k.addWindow clk r b f).lowHold = k.lowHold := rfl
@[simp] theorem Core.addWindow_frozen (k : Core) (clk : Nat) (r : RegName) (b : Nat) (f : Flags) : (k.addWindow clk r b f).frozen = k.frozen := rfl
@[simp] theorem Core.addWindow_skip (k : Core) (clk : Nat) (r : RegName) (b : Nat) (f : Flags) : (k.addWindow clk r b f).skip = k.skip := rfl
@[simp] theorem Core.addWindow_stall (k : Core) (clk : Nat) (r : RegName) (b : Nat) (f : Flags) : (k.addWindow clk r b f).stall = k.stall := rfl
@[simp] theorem Core.addWindow_idleFrames (k : Core) (clk : Nat) (r : RegName) (b : Nat) (f : Flags) : (k.addWindow clk r b f).idleFrames = k.idleFrames := rfl
@[simp] theorem Core.addWindow_enqFrames (k : Core) (clk : Nat) (r : RegName) (b : Nat) (f : Flags) : (k.addWindow clk r b f).enqFrames = k.enqFrames := rfl
@[simp] theorem Core.addWindow_enqWaits (k : Core) (clk : Nat) (r : RegName) (b : Nat) (f : Flags) : (k.addWindow clk r b f).enqWaits = k.enqWaits := rfl
@[simp] theorem Core.addWindow_saving (k : Core) (clk : Nat) (r : RegName) (b : Nat) (f : Flags) : (k.addWindow clk r b f).saving = k.saving := rfl
@[simp] theorem Core.addWindow_pagein (k : Core) (clk : Nat) (r : RegName) (b : Nat) (f : Flags) : (k.addWindow clk r b f).pagein = k.pagein := rfl
@[simp] theorem Core.addWindow_pageinAns (k : Core) (clk : Nat) (r : RegName) (b : Nat) (f : Flags) : (k.addWindow clk r b f).pageinAns = k.pageinAns := rfl
@[simp] theorem Core.addWindow_syscSeq (k : Core) (clk : Nat) (r : RegName) (b : Nat) (f : Flags) : (k.addWindow clk r b f).syscSeq = k.syscSeq := rfl
@[simp] theorem Core.addWindow_syscOpen (k : Core) (clk : Nat) (r : RegName) (b : Nat) (f : Flags) : (k.addWindow clk r b f).syscOpen = k.syscOpen := rfl
@[simp] theorem Core.addWindow_syscSem (k : Core) (clk : Nat) (r : RegName) (b : Nat) (f : Flags) : (k.addWindow clk r b f).syscSem = k.syscSem := rfl
@[simp] theorem Core.addWindow_lastImage (k : Core) (clk : Nat) (r : RegName) (b : Nat) (f : Flags) : (k.addWindow clk r b f).lastImage = k.lastImage := rfl
@[simp] theorem Core.addWindow_cut (k : Core) (clk : Nat) (r : RegName) (b : Nat) (f : Flags) : (k.addWindow clk r b f).cut = k.cut := rfl
@[simp] theorem Core.addWindow_cutAge (k : Core) (clk : Nat) (r : RegName) (b : Nat) (f : Flags) : (k.addWindow clk r b f).cutAge = k.cutAge := rfl
@[simp] theorem Core.addWindow_served (k : Core) (clk : Nat) (r : RegName) (b : Nat) (f : Flags) : (k.addWindow clk r b f).served = k.served := rfl
@[simp] theorem Core.supersede_regs (k : Core) (r : RegName) : (k.supersede r).regs = k.regs := rfl
@[simp] theorem Core.supersede_main (k : Core) (r : RegName) : (k.supersede r).main = k.main := rfl
@[simp] theorem Core.supersede_tender (k : Core) (r : RegName) : (k.supersede r).tender = k.tender := rfl
@[simp] theorem Core.supersede_ir (k : Core) (r : RegName) : (k.supersede r).ir = k.ir := rfl
@[simp] theorem Core.supersede_csr (k : Core) (r : RegName) : (k.supersede r).csr = k.csr := rfl
@[simp] theorem Core.supersede_fmtPend (k : Core) (r : RegName) : (k.supersede r).fmtPend = k.fmtPend := rfl
@[simp] theorem Core.supersede_nt (k : Core) (r : RegName) : (k.supersede r).nt = k.nt := rfl
@[simp] theorem Core.supersede_ntCount (k : Core) (r : RegName) : (k.supersede r).ntCount = k.ntCount := rfl
@[simp] theorem Core.supersede_scratch (k : Core) (r : RegName) : (k.supersede r).scratch = k.scratch := rfl
@[simp] theorem Core.supersede_scratchPoison (k : Core) (r : RegName) : (k.supersede r).scratchPoison = k.scratchPoison := rfl
@[simp] theorem Core.supersede_tiles (k : Core) (r : RegName) : (k.supersede r).tiles = k.tiles := rfl
@[simp] theorem Core.supersede_junk (k : Core) (r : RegName) : (k.supersede r).junk = k.junk := rfl
@[simp] theorem Core.supersede_passes (k : Core) (r : RegName) : (k.supersede r).passes = k.passes := rfl
@[simp] theorem Core.supersede_mstores (k : Core) (r : RegName) : (k.supersede r).mstores = k.mstores := rfl
@[simp] theorem Core.supersede_matFree (k : Core) (r : RegName) : (k.supersede r).matFree = k.matFree := rfl
@[simp] theorem Core.supersede_e0 (k : Core) (r : RegName) : (k.supersede r).e0 = k.e0 := rfl
@[simp] theorem Core.supersede_e1 (k : Core) (r : RegName) : (k.supersede r).e1 = k.e1 := rfl
@[simp] theorem Core.supersede_tickets (k : Core) (r : RegName) : (k.supersede r).tickets = k.tickets := rfl
@[simp] theorem Core.supersede_blocks (k : Core) (r : RegName) : (k.supersede r).blocks = k.blocks := rfl
@[simp] theorem Core.supersede_notice (k : Core) (r : RegName) : (k.supersede r).notice = k.notice := rfl
@[simp] theorem Core.supersede_pend (k : Core) (r : RegName) : (k.supersede r).pend = k.pend := rfl
@[simp] theorem Core.supersede_contain (k : Core) (r : RegName) : (k.supersede r).contain = k.contain := rfl
@[simp] theorem Core.supersede_berth (k : Core) (r : RegName) : (k.supersede r).berth = k.berth := rfl
@[simp] theorem Core.supersede_tlb (k : Core) (r : RegName) : (k.supersede r).tlb = k.tlb := rfl
@[simp] theorem Core.supersede_icache (k : Core) (r : RegName) : (k.supersede r).icache = k.icache := rfl
@[simp] theorem Core.supersede_dcache (k : Core) (r : RegName) : (k.supersede r).dcache = k.dcache := rfl
@[simp] theorem Core.supersede_ord (k : Core) (r : RegName) : (k.supersede r).ord = k.ord := rfl
@[simp] theorem Core.supersede_toPublish (k : Core) (r : RegName) : (k.supersede r).toPublish = k.toPublish := rfl
@[simp] theorem Core.supersede_seen (k : Core) (r : RegName) : (k.supersede r).seen = k.seen := rfl
@[simp] theorem Core.supersede_oldCode (k : Core) (r : RegName) : (k.supersede r).oldCode = k.oldCode := rfl
@[simp] theorem Core.supersede_ltime (k : Core) (r : RegName) : (k.supersede r).ltime = k.ltime := rfl
@[simp] theorem Core.supersede_task (k : Core) (r : RegName) : (k.supersede r).task = k.task := rfl
@[simp] theorem Core.supersede_savedTask (k : Core) (r : RegName) : (k.supersede r).savedTask = k.savedTask := rfl
@[simp] theorem Core.supersede_level (k : Core) (r : RegName) : (k.supersede r).level = k.level := rfl
@[simp] theorem Core.supersede_entering (k : Core) (r : RegName) : (k.supersede r).entering = k.entering := rfl
@[simp] theorem Core.supersede_lowHold (k : Core) (r : RegName) : (k.supersede r).lowHold = k.lowHold := rfl
@[simp] theorem Core.supersede_frozen (k : Core) (r : RegName) : (k.supersede r).frozen = k.frozen := rfl
@[simp] theorem Core.supersede_skip (k : Core) (r : RegName) : (k.supersede r).skip = k.skip := rfl
@[simp] theorem Core.supersede_stall (k : Core) (r : RegName) : (k.supersede r).stall = k.stall := rfl
@[simp] theorem Core.supersede_idleFrames (k : Core) (r : RegName) : (k.supersede r).idleFrames = k.idleFrames := rfl
@[simp] theorem Core.supersede_enqFrames (k : Core) (r : RegName) : (k.supersede r).enqFrames = k.enqFrames := rfl
@[simp] theorem Core.supersede_enqWaits (k : Core) (r : RegName) : (k.supersede r).enqWaits = k.enqWaits := rfl
@[simp] theorem Core.supersede_saving (k : Core) (r : RegName) : (k.supersede r).saving = k.saving := rfl
@[simp] theorem Core.supersede_pagein (k : Core) (r : RegName) : (k.supersede r).pagein = k.pagein := rfl
@[simp] theorem Core.supersede_pageinAns (k : Core) (r : RegName) : (k.supersede r).pageinAns = k.pageinAns := rfl
@[simp] theorem Core.supersede_syscSeq (k : Core) (r : RegName) : (k.supersede r).syscSeq = k.syscSeq := rfl
@[simp] theorem Core.supersede_syscOpen (k : Core) (r : RegName) : (k.supersede r).syscOpen = k.syscOpen := rfl
@[simp] theorem Core.supersede_syscSem (k : Core) (r : RegName) : (k.supersede r).syscSem = k.syscSem := rfl
@[simp] theorem Core.supersede_lastImage (k : Core) (r : RegName) : (k.supersede r).lastImage = k.lastImage := rfl
@[simp] theorem Core.supersede_cut (k : Core) (r : RegName) : (k.supersede r).cut = k.cut := rfl
@[simp] theorem Core.supersede_cutAge (k : Core) (r : RegName) : (k.supersede r).cutAge = k.cutAge := rfl
@[simp] theorem Core.supersede_served (k : Core) (r : RegName) : (k.supersede r).served = k.served := rfl

/-! ### Updates of a core that register 0 discards (R16) -/

@[simp] theorem Core.setS_main (k : Core) (n : SReg) (v : Word64) : (k.setS n v).main = k.main := by unfold Core.setS; split <;> rfl
@[simp] theorem Core.setS_tender (k : Core) (n : SReg) (v : Word64) : (k.setS n v).tender = k.tender := by unfold Core.setS; split <;> rfl
@[simp] theorem Core.setS_ir (k : Core) (n : SReg) (v : Word64) : (k.setS n v).ir = k.ir := by unfold Core.setS; split <;> rfl
@[simp] theorem Core.setS_csr (k : Core) (n : SReg) (v : Word64) : (k.setS n v).csr = k.csr := by unfold Core.setS; split <;> rfl
@[simp] theorem Core.setS_windows (k : Core) (n : SReg) (v : Word64) : (k.setS n v).windows = k.windows := by unfold Core.setS; split <;> rfl
@[simp] theorem Core.setS_fmtPend (k : Core) (n : SReg) (v : Word64) : (k.setS n v).fmtPend = k.fmtPend := by unfold Core.setS; split <;> rfl
@[simp] theorem Core.setS_nt (k : Core) (n : SReg) (v : Word64) : (k.setS n v).nt = k.nt := by unfold Core.setS; split <;> rfl
@[simp] theorem Core.setS_ntCount (k : Core) (n : SReg) (v : Word64) : (k.setS n v).ntCount = k.ntCount := by unfold Core.setS; split <;> rfl
@[simp] theorem Core.setS_scratch (k : Core) (n : SReg) (v : Word64) : (k.setS n v).scratch = k.scratch := by unfold Core.setS; split <;> rfl
@[simp] theorem Core.setS_scratchPoison (k : Core) (n : SReg) (v : Word64) : (k.setS n v).scratchPoison = k.scratchPoison := by unfold Core.setS; split <;> rfl
@[simp] theorem Core.setS_tiles (k : Core) (n : SReg) (v : Word64) : (k.setS n v).tiles = k.tiles := by unfold Core.setS; split <;> rfl
@[simp] theorem Core.setS_junk (k : Core) (n : SReg) (v : Word64) : (k.setS n v).junk = k.junk := by unfold Core.setS; split <;> rfl
@[simp] theorem Core.setS_passes (k : Core) (n : SReg) (v : Word64) : (k.setS n v).passes = k.passes := by unfold Core.setS; split <;> rfl
@[simp] theorem Core.setS_mstores (k : Core) (n : SReg) (v : Word64) : (k.setS n v).mstores = k.mstores := by unfold Core.setS; split <;> rfl
@[simp] theorem Core.setS_matFree (k : Core) (n : SReg) (v : Word64) : (k.setS n v).matFree = k.matFree := by unfold Core.setS; split <;> rfl
@[simp] theorem Core.setS_e0 (k : Core) (n : SReg) (v : Word64) : (k.setS n v).e0 = k.e0 := by unfold Core.setS; split <;> rfl
@[simp] theorem Core.setS_e1 (k : Core) (n : SReg) (v : Word64) : (k.setS n v).e1 = k.e1 := by unfold Core.setS; split <;> rfl
@[simp] theorem Core.setS_tickets (k : Core) (n : SReg) (v : Word64) : (k.setS n v).tickets = k.tickets := by unfold Core.setS; split <;> rfl
@[simp] theorem Core.setS_blocks (k : Core) (n : SReg) (v : Word64) : (k.setS n v).blocks = k.blocks := by unfold Core.setS; split <;> rfl
@[simp] theorem Core.setS_notice (k : Core) (n : SReg) (v : Word64) : (k.setS n v).notice = k.notice := by unfold Core.setS; split <;> rfl
@[simp] theorem Core.setS_pend (k : Core) (n : SReg) (v : Word64) : (k.setS n v).pend = k.pend := by unfold Core.setS; split <;> rfl
@[simp] theorem Core.setS_contain (k : Core) (n : SReg) (v : Word64) : (k.setS n v).contain = k.contain := by unfold Core.setS; split <;> rfl
@[simp] theorem Core.setS_berth (k : Core) (n : SReg) (v : Word64) : (k.setS n v).berth = k.berth := by unfold Core.setS; split <;> rfl
@[simp] theorem Core.setS_tlb (k : Core) (n : SReg) (v : Word64) : (k.setS n v).tlb = k.tlb := by unfold Core.setS; split <;> rfl
@[simp] theorem Core.setS_icache (k : Core) (n : SReg) (v : Word64) : (k.setS n v).icache = k.icache := by unfold Core.setS; split <;> rfl
@[simp] theorem Core.setS_dcache (k : Core) (n : SReg) (v : Word64) : (k.setS n v).dcache = k.dcache := by unfold Core.setS; split <;> rfl
@[simp] theorem Core.setS_ord (k : Core) (n : SReg) (v : Word64) : (k.setS n v).ord = k.ord := by unfold Core.setS; split <;> rfl
@[simp] theorem Core.setS_toPublish (k : Core) (n : SReg) (v : Word64) : (k.setS n v).toPublish = k.toPublish := by unfold Core.setS; split <;> rfl
@[simp] theorem Core.setS_seen (k : Core) (n : SReg) (v : Word64) : (k.setS n v).seen = k.seen := by unfold Core.setS; split <;> rfl
@[simp] theorem Core.setS_oldCode (k : Core) (n : SReg) (v : Word64) : (k.setS n v).oldCode = k.oldCode := by unfold Core.setS; split <;> rfl
@[simp] theorem Core.setS_ltime (k : Core) (n : SReg) (v : Word64) : (k.setS n v).ltime = k.ltime := by unfold Core.setS; split <;> rfl
@[simp] theorem Core.setS_task (k : Core) (n : SReg) (v : Word64) : (k.setS n v).task = k.task := by unfold Core.setS; split <;> rfl
@[simp] theorem Core.setS_savedTask (k : Core) (n : SReg) (v : Word64) : (k.setS n v).savedTask = k.savedTask := by unfold Core.setS; split <;> rfl
@[simp] theorem Core.setS_level (k : Core) (n : SReg) (v : Word64) : (k.setS n v).level = k.level := by unfold Core.setS; split <;> rfl
@[simp] theorem Core.setS_entering (k : Core) (n : SReg) (v : Word64) : (k.setS n v).entering = k.entering := by unfold Core.setS; split <;> rfl
@[simp] theorem Core.setS_lowHold (k : Core) (n : SReg) (v : Word64) : (k.setS n v).lowHold = k.lowHold := by unfold Core.setS; split <;> rfl
@[simp] theorem Core.setS_frozen (k : Core) (n : SReg) (v : Word64) : (k.setS n v).frozen = k.frozen := by unfold Core.setS; split <;> rfl
@[simp] theorem Core.setS_skip (k : Core) (n : SReg) (v : Word64) : (k.setS n v).skip = k.skip := by unfold Core.setS; split <;> rfl
@[simp] theorem Core.setS_stall (k : Core) (n : SReg) (v : Word64) : (k.setS n v).stall = k.stall := by unfold Core.setS; split <;> rfl
@[simp] theorem Core.setS_idleFrames (k : Core) (n : SReg) (v : Word64) : (k.setS n v).idleFrames = k.idleFrames := by unfold Core.setS; split <;> rfl
@[simp] theorem Core.setS_enqFrames (k : Core) (n : SReg) (v : Word64) : (k.setS n v).enqFrames = k.enqFrames := by unfold Core.setS; split <;> rfl
@[simp] theorem Core.setS_enqWaits (k : Core) (n : SReg) (v : Word64) : (k.setS n v).enqWaits = k.enqWaits := by unfold Core.setS; split <;> rfl
@[simp] theorem Core.setS_saving (k : Core) (n : SReg) (v : Word64) : (k.setS n v).saving = k.saving := by unfold Core.setS; split <;> rfl
@[simp] theorem Core.setS_pagein (k : Core) (n : SReg) (v : Word64) : (k.setS n v).pagein = k.pagein := by unfold Core.setS; split <;> rfl
@[simp] theorem Core.setS_pageinAns (k : Core) (n : SReg) (v : Word64) : (k.setS n v).pageinAns = k.pageinAns := by unfold Core.setS; split <;> rfl
@[simp] theorem Core.setS_syscSeq (k : Core) (n : SReg) (v : Word64) : (k.setS n v).syscSeq = k.syscSeq := by unfold Core.setS; split <;> rfl
@[simp] theorem Core.setS_syscOpen (k : Core) (n : SReg) (v : Word64) : (k.setS n v).syscOpen = k.syscOpen := by unfold Core.setS; split <;> rfl
@[simp] theorem Core.setS_syscSem (k : Core) (n : SReg) (v : Word64) : (k.setS n v).syscSem = k.syscSem := by unfold Core.setS; split <;> rfl
@[simp] theorem Core.setS_lastImage (k : Core) (n : SReg) (v : Word64) : (k.setS n v).lastImage = k.lastImage := by unfold Core.setS; split <;> rfl
@[simp] theorem Core.setS_cut (k : Core) (n : SReg) (v : Word64) : (k.setS n v).cut = k.cut := by unfold Core.setS; split <;> rfl
@[simp] theorem Core.setS_cutAge (k : Core) (n : SReg) (v : Word64) : (k.setS n v).cutAge = k.cutAge := by unfold Core.setS; split <;> rfl
@[simp] theorem Core.setS_served (k : Core) (n : SReg) (v : Word64) : (k.setS n v).served = k.served := by unfold Core.setS; split <;> rfl
@[simp] theorem Core.setP_main (k : Core) (n : PReg) (b : Bool) : (k.setP n b).main = k.main := by unfold Core.setP; split <;> rfl
@[simp] theorem Core.setP_tender (k : Core) (n : PReg) (b : Bool) : (k.setP n b).tender = k.tender := by unfold Core.setP; split <;> rfl
@[simp] theorem Core.setP_ir (k : Core) (n : PReg) (b : Bool) : (k.setP n b).ir = k.ir := by unfold Core.setP; split <;> rfl
@[simp] theorem Core.setP_csr (k : Core) (n : PReg) (b : Bool) : (k.setP n b).csr = k.csr := by unfold Core.setP; split <;> rfl
@[simp] theorem Core.setP_windows (k : Core) (n : PReg) (b : Bool) : (k.setP n b).windows = k.windows := by unfold Core.setP; split <;> rfl
@[simp] theorem Core.setP_fmtPend (k : Core) (n : PReg) (b : Bool) : (k.setP n b).fmtPend = k.fmtPend := by unfold Core.setP; split <;> rfl
@[simp] theorem Core.setP_nt (k : Core) (n : PReg) (b : Bool) : (k.setP n b).nt = k.nt := by unfold Core.setP; split <;> rfl
@[simp] theorem Core.setP_ntCount (k : Core) (n : PReg) (b : Bool) : (k.setP n b).ntCount = k.ntCount := by unfold Core.setP; split <;> rfl
@[simp] theorem Core.setP_scratch (k : Core) (n : PReg) (b : Bool) : (k.setP n b).scratch = k.scratch := by unfold Core.setP; split <;> rfl
@[simp] theorem Core.setP_scratchPoison (k : Core) (n : PReg) (b : Bool) : (k.setP n b).scratchPoison = k.scratchPoison := by unfold Core.setP; split <;> rfl
@[simp] theorem Core.setP_tiles (k : Core) (n : PReg) (b : Bool) : (k.setP n b).tiles = k.tiles := by unfold Core.setP; split <;> rfl
@[simp] theorem Core.setP_junk (k : Core) (n : PReg) (b : Bool) : (k.setP n b).junk = k.junk := by unfold Core.setP; split <;> rfl
@[simp] theorem Core.setP_passes (k : Core) (n : PReg) (b : Bool) : (k.setP n b).passes = k.passes := by unfold Core.setP; split <;> rfl
@[simp] theorem Core.setP_mstores (k : Core) (n : PReg) (b : Bool) : (k.setP n b).mstores = k.mstores := by unfold Core.setP; split <;> rfl
@[simp] theorem Core.setP_matFree (k : Core) (n : PReg) (b : Bool) : (k.setP n b).matFree = k.matFree := by unfold Core.setP; split <;> rfl
@[simp] theorem Core.setP_e0 (k : Core) (n : PReg) (b : Bool) : (k.setP n b).e0 = k.e0 := by unfold Core.setP; split <;> rfl
@[simp] theorem Core.setP_e1 (k : Core) (n : PReg) (b : Bool) : (k.setP n b).e1 = k.e1 := by unfold Core.setP; split <;> rfl
@[simp] theorem Core.setP_tickets (k : Core) (n : PReg) (b : Bool) : (k.setP n b).tickets = k.tickets := by unfold Core.setP; split <;> rfl
@[simp] theorem Core.setP_blocks (k : Core) (n : PReg) (b : Bool) : (k.setP n b).blocks = k.blocks := by unfold Core.setP; split <;> rfl
@[simp] theorem Core.setP_notice (k : Core) (n : PReg) (b : Bool) : (k.setP n b).notice = k.notice := by unfold Core.setP; split <;> rfl
@[simp] theorem Core.setP_pend (k : Core) (n : PReg) (b : Bool) : (k.setP n b).pend = k.pend := by unfold Core.setP; split <;> rfl
@[simp] theorem Core.setP_contain (k : Core) (n : PReg) (b : Bool) : (k.setP n b).contain = k.contain := by unfold Core.setP; split <;> rfl
@[simp] theorem Core.setP_berth (k : Core) (n : PReg) (b : Bool) : (k.setP n b).berth = k.berth := by unfold Core.setP; split <;> rfl
@[simp] theorem Core.setP_tlb (k : Core) (n : PReg) (b : Bool) : (k.setP n b).tlb = k.tlb := by unfold Core.setP; split <;> rfl
@[simp] theorem Core.setP_icache (k : Core) (n : PReg) (b : Bool) : (k.setP n b).icache = k.icache := by unfold Core.setP; split <;> rfl
@[simp] theorem Core.setP_dcache (k : Core) (n : PReg) (b : Bool) : (k.setP n b).dcache = k.dcache := by unfold Core.setP; split <;> rfl
@[simp] theorem Core.setP_ord (k : Core) (n : PReg) (b : Bool) : (k.setP n b).ord = k.ord := by unfold Core.setP; split <;> rfl
@[simp] theorem Core.setP_toPublish (k : Core) (n : PReg) (b : Bool) : (k.setP n b).toPublish = k.toPublish := by unfold Core.setP; split <;> rfl
@[simp] theorem Core.setP_seen (k : Core) (n : PReg) (b : Bool) : (k.setP n b).seen = k.seen := by unfold Core.setP; split <;> rfl
@[simp] theorem Core.setP_oldCode (k : Core) (n : PReg) (b : Bool) : (k.setP n b).oldCode = k.oldCode := by unfold Core.setP; split <;> rfl
@[simp] theorem Core.setP_ltime (k : Core) (n : PReg) (b : Bool) : (k.setP n b).ltime = k.ltime := by unfold Core.setP; split <;> rfl
@[simp] theorem Core.setP_task (k : Core) (n : PReg) (b : Bool) : (k.setP n b).task = k.task := by unfold Core.setP; split <;> rfl
@[simp] theorem Core.setP_savedTask (k : Core) (n : PReg) (b : Bool) : (k.setP n b).savedTask = k.savedTask := by unfold Core.setP; split <;> rfl
@[simp] theorem Core.setP_level (k : Core) (n : PReg) (b : Bool) : (k.setP n b).level = k.level := by unfold Core.setP; split <;> rfl
@[simp] theorem Core.setP_entering (k : Core) (n : PReg) (b : Bool) : (k.setP n b).entering = k.entering := by unfold Core.setP; split <;> rfl
@[simp] theorem Core.setP_lowHold (k : Core) (n : PReg) (b : Bool) : (k.setP n b).lowHold = k.lowHold := by unfold Core.setP; split <;> rfl
@[simp] theorem Core.setP_frozen (k : Core) (n : PReg) (b : Bool) : (k.setP n b).frozen = k.frozen := by unfold Core.setP; split <;> rfl
@[simp] theorem Core.setP_skip (k : Core) (n : PReg) (b : Bool) : (k.setP n b).skip = k.skip := by unfold Core.setP; split <;> rfl
@[simp] theorem Core.setP_stall (k : Core) (n : PReg) (b : Bool) : (k.setP n b).stall = k.stall := by unfold Core.setP; split <;> rfl
@[simp] theorem Core.setP_idleFrames (k : Core) (n : PReg) (b : Bool) : (k.setP n b).idleFrames = k.idleFrames := by unfold Core.setP; split <;> rfl
@[simp] theorem Core.setP_enqFrames (k : Core) (n : PReg) (b : Bool) : (k.setP n b).enqFrames = k.enqFrames := by unfold Core.setP; split <;> rfl
@[simp] theorem Core.setP_enqWaits (k : Core) (n : PReg) (b : Bool) : (k.setP n b).enqWaits = k.enqWaits := by unfold Core.setP; split <;> rfl
@[simp] theorem Core.setP_saving (k : Core) (n : PReg) (b : Bool) : (k.setP n b).saving = k.saving := by unfold Core.setP; split <;> rfl
@[simp] theorem Core.setP_pagein (k : Core) (n : PReg) (b : Bool) : (k.setP n b).pagein = k.pagein := by unfold Core.setP; split <;> rfl
@[simp] theorem Core.setP_pageinAns (k : Core) (n : PReg) (b : Bool) : (k.setP n b).pageinAns = k.pageinAns := by unfold Core.setP; split <;> rfl
@[simp] theorem Core.setP_syscSeq (k : Core) (n : PReg) (b : Bool) : (k.setP n b).syscSeq = k.syscSeq := by unfold Core.setP; split <;> rfl
@[simp] theorem Core.setP_syscOpen (k : Core) (n : PReg) (b : Bool) : (k.setP n b).syscOpen = k.syscOpen := by unfold Core.setP; split <;> rfl
@[simp] theorem Core.setP_syscSem (k : Core) (n : PReg) (b : Bool) : (k.setP n b).syscSem = k.syscSem := by unfold Core.setP; split <;> rfl
@[simp] theorem Core.setP_lastImage (k : Core) (n : PReg) (b : Bool) : (k.setP n b).lastImage = k.lastImage := by unfold Core.setP; split <;> rfl
@[simp] theorem Core.setP_cut (k : Core) (n : PReg) (b : Bool) : (k.setP n b).cut = k.cut := by unfold Core.setP; split <;> rfl
@[simp] theorem Core.setP_cutAge (k : Core) (n : PReg) (b : Bool) : (k.setP n b).cutAge = k.cutAge := by unfold Core.setP; split <;> rfl
@[simp] theorem Core.setP_served (k : Core) (n : PReg) (b : Bool) : (k.setP n b).served = k.served := by unfold Core.setP; split <;> rfl
@[simp] theorem Core.setSBad_main (k : Core) (n : SReg) (b : Bool) : (k.setSBad n b).main = k.main := by unfold Core.setSBad; split <;> rfl
@[simp] theorem Core.setSBad_tender (k : Core) (n : SReg) (b : Bool) : (k.setSBad n b).tender = k.tender := by unfold Core.setSBad; split <;> rfl
@[simp] theorem Core.setSBad_ir (k : Core) (n : SReg) (b : Bool) : (k.setSBad n b).ir = k.ir := by unfold Core.setSBad; split <;> rfl
@[simp] theorem Core.setSBad_csr (k : Core) (n : SReg) (b : Bool) : (k.setSBad n b).csr = k.csr := by unfold Core.setSBad; split <;> rfl
@[simp] theorem Core.setSBad_windows (k : Core) (n : SReg) (b : Bool) : (k.setSBad n b).windows = k.windows := by unfold Core.setSBad; split <;> rfl
@[simp] theorem Core.setSBad_fmtPend (k : Core) (n : SReg) (b : Bool) : (k.setSBad n b).fmtPend = k.fmtPend := by unfold Core.setSBad; split <;> rfl
@[simp] theorem Core.setSBad_nt (k : Core) (n : SReg) (b : Bool) : (k.setSBad n b).nt = k.nt := by unfold Core.setSBad; split <;> rfl
@[simp] theorem Core.setSBad_ntCount (k : Core) (n : SReg) (b : Bool) : (k.setSBad n b).ntCount = k.ntCount := by unfold Core.setSBad; split <;> rfl
@[simp] theorem Core.setSBad_scratch (k : Core) (n : SReg) (b : Bool) : (k.setSBad n b).scratch = k.scratch := by unfold Core.setSBad; split <;> rfl
@[simp] theorem Core.setSBad_scratchPoison (k : Core) (n : SReg) (b : Bool) : (k.setSBad n b).scratchPoison = k.scratchPoison := by unfold Core.setSBad; split <;> rfl
@[simp] theorem Core.setSBad_tiles (k : Core) (n : SReg) (b : Bool) : (k.setSBad n b).tiles = k.tiles := by unfold Core.setSBad; split <;> rfl
@[simp] theorem Core.setSBad_junk (k : Core) (n : SReg) (b : Bool) : (k.setSBad n b).junk = k.junk := by unfold Core.setSBad; split <;> rfl
@[simp] theorem Core.setSBad_passes (k : Core) (n : SReg) (b : Bool) : (k.setSBad n b).passes = k.passes := by unfold Core.setSBad; split <;> rfl
@[simp] theorem Core.setSBad_mstores (k : Core) (n : SReg) (b : Bool) : (k.setSBad n b).mstores = k.mstores := by unfold Core.setSBad; split <;> rfl
@[simp] theorem Core.setSBad_matFree (k : Core) (n : SReg) (b : Bool) : (k.setSBad n b).matFree = k.matFree := by unfold Core.setSBad; split <;> rfl
@[simp] theorem Core.setSBad_e0 (k : Core) (n : SReg) (b : Bool) : (k.setSBad n b).e0 = k.e0 := by unfold Core.setSBad; split <;> rfl
@[simp] theorem Core.setSBad_e1 (k : Core) (n : SReg) (b : Bool) : (k.setSBad n b).e1 = k.e1 := by unfold Core.setSBad; split <;> rfl
@[simp] theorem Core.setSBad_tickets (k : Core) (n : SReg) (b : Bool) : (k.setSBad n b).tickets = k.tickets := by unfold Core.setSBad; split <;> rfl
@[simp] theorem Core.setSBad_blocks (k : Core) (n : SReg) (b : Bool) : (k.setSBad n b).blocks = k.blocks := by unfold Core.setSBad; split <;> rfl
@[simp] theorem Core.setSBad_notice (k : Core) (n : SReg) (b : Bool) : (k.setSBad n b).notice = k.notice := by unfold Core.setSBad; split <;> rfl
@[simp] theorem Core.setSBad_pend (k : Core) (n : SReg) (b : Bool) : (k.setSBad n b).pend = k.pend := by unfold Core.setSBad; split <;> rfl
@[simp] theorem Core.setSBad_contain (k : Core) (n : SReg) (b : Bool) : (k.setSBad n b).contain = k.contain := by unfold Core.setSBad; split <;> rfl
@[simp] theorem Core.setSBad_berth (k : Core) (n : SReg) (b : Bool) : (k.setSBad n b).berth = k.berth := by unfold Core.setSBad; split <;> rfl
@[simp] theorem Core.setSBad_tlb (k : Core) (n : SReg) (b : Bool) : (k.setSBad n b).tlb = k.tlb := by unfold Core.setSBad; split <;> rfl
@[simp] theorem Core.setSBad_icache (k : Core) (n : SReg) (b : Bool) : (k.setSBad n b).icache = k.icache := by unfold Core.setSBad; split <;> rfl
@[simp] theorem Core.setSBad_dcache (k : Core) (n : SReg) (b : Bool) : (k.setSBad n b).dcache = k.dcache := by unfold Core.setSBad; split <;> rfl
@[simp] theorem Core.setSBad_ord (k : Core) (n : SReg) (b : Bool) : (k.setSBad n b).ord = k.ord := by unfold Core.setSBad; split <;> rfl
@[simp] theorem Core.setSBad_toPublish (k : Core) (n : SReg) (b : Bool) : (k.setSBad n b).toPublish = k.toPublish := by unfold Core.setSBad; split <;> rfl
@[simp] theorem Core.setSBad_seen (k : Core) (n : SReg) (b : Bool) : (k.setSBad n b).seen = k.seen := by unfold Core.setSBad; split <;> rfl
@[simp] theorem Core.setSBad_oldCode (k : Core) (n : SReg) (b : Bool) : (k.setSBad n b).oldCode = k.oldCode := by unfold Core.setSBad; split <;> rfl
@[simp] theorem Core.setSBad_ltime (k : Core) (n : SReg) (b : Bool) : (k.setSBad n b).ltime = k.ltime := by unfold Core.setSBad; split <;> rfl
@[simp] theorem Core.setSBad_task (k : Core) (n : SReg) (b : Bool) : (k.setSBad n b).task = k.task := by unfold Core.setSBad; split <;> rfl
@[simp] theorem Core.setSBad_savedTask (k : Core) (n : SReg) (b : Bool) : (k.setSBad n b).savedTask = k.savedTask := by unfold Core.setSBad; split <;> rfl
@[simp] theorem Core.setSBad_level (k : Core) (n : SReg) (b : Bool) : (k.setSBad n b).level = k.level := by unfold Core.setSBad; split <;> rfl
@[simp] theorem Core.setSBad_entering (k : Core) (n : SReg) (b : Bool) : (k.setSBad n b).entering = k.entering := by unfold Core.setSBad; split <;> rfl
@[simp] theorem Core.setSBad_lowHold (k : Core) (n : SReg) (b : Bool) : (k.setSBad n b).lowHold = k.lowHold := by unfold Core.setSBad; split <;> rfl
@[simp] theorem Core.setSBad_frozen (k : Core) (n : SReg) (b : Bool) : (k.setSBad n b).frozen = k.frozen := by unfold Core.setSBad; split <;> rfl
@[simp] theorem Core.setSBad_skip (k : Core) (n : SReg) (b : Bool) : (k.setSBad n b).skip = k.skip := by unfold Core.setSBad; split <;> rfl
@[simp] theorem Core.setSBad_stall (k : Core) (n : SReg) (b : Bool) : (k.setSBad n b).stall = k.stall := by unfold Core.setSBad; split <;> rfl
@[simp] theorem Core.setSBad_idleFrames (k : Core) (n : SReg) (b : Bool) : (k.setSBad n b).idleFrames = k.idleFrames := by unfold Core.setSBad; split <;> rfl
@[simp] theorem Core.setSBad_enqFrames (k : Core) (n : SReg) (b : Bool) : (k.setSBad n b).enqFrames = k.enqFrames := by unfold Core.setSBad; split <;> rfl
@[simp] theorem Core.setSBad_enqWaits (k : Core) (n : SReg) (b : Bool) : (k.setSBad n b).enqWaits = k.enqWaits := by unfold Core.setSBad; split <;> rfl
@[simp] theorem Core.setSBad_saving (k : Core) (n : SReg) (b : Bool) : (k.setSBad n b).saving = k.saving := by unfold Core.setSBad; split <;> rfl
@[simp] theorem Core.setSBad_pagein (k : Core) (n : SReg) (b : Bool) : (k.setSBad n b).pagein = k.pagein := by unfold Core.setSBad; split <;> rfl
@[simp] theorem Core.setSBad_pageinAns (k : Core) (n : SReg) (b : Bool) : (k.setSBad n b).pageinAns = k.pageinAns := by unfold Core.setSBad; split <;> rfl
@[simp] theorem Core.setSBad_syscSeq (k : Core) (n : SReg) (b : Bool) : (k.setSBad n b).syscSeq = k.syscSeq := by unfold Core.setSBad; split <;> rfl
@[simp] theorem Core.setSBad_syscOpen (k : Core) (n : SReg) (b : Bool) : (k.setSBad n b).syscOpen = k.syscOpen := by unfold Core.setSBad; split <;> rfl
@[simp] theorem Core.setSBad_syscSem (k : Core) (n : SReg) (b : Bool) : (k.setSBad n b).syscSem = k.syscSem := by unfold Core.setSBad; split <;> rfl
@[simp] theorem Core.setSBad_lastImage (k : Core) (n : SReg) (b : Bool) : (k.setSBad n b).lastImage = k.lastImage := by unfold Core.setSBad; split <;> rfl
@[simp] theorem Core.setSBad_cut (k : Core) (n : SReg) (b : Bool) : (k.setSBad n b).cut = k.cut := by unfold Core.setSBad; split <;> rfl
@[simp] theorem Core.setSBad_cutAge (k : Core) (n : SReg) (b : Bool) : (k.setSBad n b).cutAge = k.cutAge := by unfold Core.setSBad; split <;> rfl
@[simp] theorem Core.setSBad_served (k : Core) (n : SReg) (b : Bool) : (k.setSBad n b).served = k.served := by unfold Core.setSBad; split <;> rfl

/-! ### What a write of one register file leaves of the others -/

@[simp] theorem Core.setD_regs_s (k : Core) (n : DReg) (v : Desc) (m : Bool) : (k.setD n v m).regs.s = k.regs.s := rfl
@[simp] theorem Core.setD_regs_p (k : Core) (n : DReg) (v : Desc) (m : Bool) : (k.setD n v m).regs.p = k.regs.p := rfl
@[simp] theorem Core.setD_regs_g (k : Core) (n : DReg) (v : Desc) (m : Bool) : (k.setD n v m).regs.g = k.regs.g := rfl
@[simp] theorem Core.setD_regs_w (k : Core) (n : DReg) (v : Desc) (m : Bool) : (k.setD n v m).regs.w = k.regs.w := rfl
@[simp] theorem Core.setD_regs_cseq (k : Core) (n : DReg) (v : Desc) (m : Bool) : (k.setD n v m).regs.cseq = k.regs.cseq := rfl
@[simp] theorem Core.setD_regs_q (k : Core) (n : DReg) (v : Desc) (m : Bool) : (k.setD n v m).regs.q = k.regs.q := rfl
@[simp] theorem Core.setD_regs_acc (k : Core) (n : DReg) (v : Desc) (m : Bool) : (k.setD n v m).regs.acc = k.regs.acc := rfl
@[simp] theorem Core.setD_regs_sPoison (k : Core) (n : DReg) (v : Desc) (m : Bool) : (k.setD n v m).regs.sPoison = k.regs.sPoison := rfl
@[simp] theorem Core.setD_regs_accPoison (k : Core) (n : DReg) (v : Desc) (m : Bool) : (k.setD n v m).regs.accPoison = k.regs.accPoison := rfl
@[simp] theorem Core.setG_regs_s (k : Core) (n : GReg) (v : BitVec 128) : (k.setG n v).regs.s = k.regs.s := rfl
@[simp] theorem Core.setG_regs_p (k : Core) (n : GReg) (v : BitVec 128) : (k.setG n v).regs.p = k.regs.p := rfl
@[simp] theorem Core.setG_regs_d (k : Core) (n : GReg) (v : BitVec 128) : (k.setG n v).regs.d = k.regs.d := rfl
@[simp] theorem Core.setG_regs_dpend (k : Core) (n : GReg) (v : BitVec 128) : (k.setG n v).regs.dpend = k.regs.dpend := rfl
@[simp] theorem Core.setG_regs_w (k : Core) (n : GReg) (v : BitVec 128) : (k.setG n v).regs.w = k.regs.w := rfl
@[simp] theorem Core.setG_regs_cseq (k : Core) (n : GReg) (v : BitVec 128) : (k.setG n v).regs.cseq = k.regs.cseq := rfl
@[simp] theorem Core.setG_regs_q (k : Core) (n : GReg) (v : BitVec 128) : (k.setG n v).regs.q = k.regs.q := rfl
@[simp] theorem Core.setG_regs_acc (k : Core) (n : GReg) (v : BitVec 128) : (k.setG n v).regs.acc = k.regs.acc := rfl
@[simp] theorem Core.setG_regs_sPoison (k : Core) (n : GReg) (v : BitVec 128) : (k.setG n v).regs.sPoison = k.regs.sPoison := rfl
@[simp] theorem Core.setG_regs_accPoison (k : Core) (n : GReg) (v : BitVec 128) : (k.setG n v).regs.accPoison = k.regs.accPoison := rfl
@[simp] theorem Core.setW_regs_s (k : Core) (n : WReg) (v : BitVec 32) : (k.setW n v).regs.s = k.regs.s := rfl
@[simp] theorem Core.setW_regs_p (k : Core) (n : WReg) (v : BitVec 32) : (k.setW n v).regs.p = k.regs.p := rfl
@[simp] theorem Core.setW_regs_d (k : Core) (n : WReg) (v : BitVec 32) : (k.setW n v).regs.d = k.regs.d := rfl
@[simp] theorem Core.setW_regs_dpend (k : Core) (n : WReg) (v : BitVec 32) : (k.setW n v).regs.dpend = k.regs.dpend := rfl
@[simp] theorem Core.setW_regs_g (k : Core) (n : WReg) (v : BitVec 32) : (k.setW n v).regs.g = k.regs.g := rfl
@[simp] theorem Core.setW_regs_cseq (k : Core) (n : WReg) (v : BitVec 32) : (k.setW n v).regs.cseq = k.regs.cseq := rfl
@[simp] theorem Core.setW_regs_q (k : Core) (n : WReg) (v : BitVec 32) : (k.setW n v).regs.q = k.regs.q := rfl
@[simp] theorem Core.setW_regs_acc (k : Core) (n : WReg) (v : BitVec 32) : (k.setW n v).regs.acc = k.regs.acc := rfl
@[simp] theorem Core.setW_regs_sPoison (k : Core) (n : WReg) (v : BitVec 32) : (k.setW n v).regs.sPoison = k.regs.sPoison := rfl
@[simp] theorem Core.setW_regs_accPoison (k : Core) (n : WReg) (v : BitVec 32) : (k.setW n v).regs.accPoison = k.regs.accPoison := rfl
@[simp] theorem Core.setQ_regs_s (k : Core) (n : QReg) (v : List QEntry) : (k.setQ n v).regs.s = k.regs.s := rfl
@[simp] theorem Core.setQ_regs_p (k : Core) (n : QReg) (v : List QEntry) : (k.setQ n v).regs.p = k.regs.p := rfl
@[simp] theorem Core.setQ_regs_d (k : Core) (n : QReg) (v : List QEntry) : (k.setQ n v).regs.d = k.regs.d := rfl
@[simp] theorem Core.setQ_regs_dpend (k : Core) (n : QReg) (v : List QEntry) : (k.setQ n v).regs.dpend = k.regs.dpend := rfl
@[simp] theorem Core.setQ_regs_g (k : Core) (n : QReg) (v : List QEntry) : (k.setQ n v).regs.g = k.regs.g := rfl
@[simp] theorem Core.setQ_regs_w (k : Core) (n : QReg) (v : List QEntry) : (k.setQ n v).regs.w = k.regs.w := rfl
@[simp] theorem Core.setQ_regs_cseq (k : Core) (n : QReg) (v : List QEntry) : (k.setQ n v).regs.cseq = k.regs.cseq := rfl
@[simp] theorem Core.setQ_regs_acc (k : Core) (n : QReg) (v : List QEntry) : (k.setQ n v).regs.acc = k.regs.acc := rfl
@[simp] theorem Core.setQ_regs_sPoison (k : Core) (n : QReg) (v : List QEntry) : (k.setQ n v).regs.sPoison = k.regs.sPoison := rfl
@[simp] theorem Core.setQ_regs_accPoison (k : Core) (n : QReg) (v : List QEntry) : (k.setQ n v).regs.accPoison = k.regs.accPoison := rfl
@[simp] theorem Core.setRow_regs_s (k : Core) (a r : Nat) (v : Vec) : (k.setRow a r v).regs.s = k.regs.s := rfl
@[simp] theorem Core.setRow_regs_p (k : Core) (a r : Nat) (v : Vec) : (k.setRow a r v).regs.p = k.regs.p := rfl
@[simp] theorem Core.setRow_regs_d (k : Core) (a r : Nat) (v : Vec) : (k.setRow a r v).regs.d = k.regs.d := rfl
@[simp] theorem Core.setRow_regs_dpend (k : Core) (a r : Nat) (v : Vec) : (k.setRow a r v).regs.dpend = k.regs.dpend := rfl
@[simp] theorem Core.setRow_regs_g (k : Core) (a r : Nat) (v : Vec) : (k.setRow a r v).regs.g = k.regs.g := rfl
@[simp] theorem Core.setRow_regs_w (k : Core) (a r : Nat) (v : Vec) : (k.setRow a r v).regs.w = k.regs.w := rfl
@[simp] theorem Core.setRow_regs_cseq (k : Core) (a r : Nat) (v : Vec) : (k.setRow a r v).regs.cseq = k.regs.cseq := rfl
@[simp] theorem Core.setRow_regs_q (k : Core) (a r : Nat) (v : Vec) : (k.setRow a r v).regs.q = k.regs.q := rfl
@[simp] theorem Core.setRow_regs_sPoison (k : Core) (a r : Nat) (v : Vec) : (k.setRow a r v).regs.sPoison = k.regs.sPoison := rfl
@[simp] theorem Core.setRow_regs_accPoison (k : Core) (a r : Nat) (v : Vec) : (k.setRow a r v).regs.accPoison = k.regs.accPoison := rfl
@[simp] theorem Core.setRowBad_regs_s (k : Core) (a r : Nat) (b : Bool) : (k.setRowBad a r b).regs.s = k.regs.s := rfl
@[simp] theorem Core.setRowBad_regs_p (k : Core) (a r : Nat) (b : Bool) : (k.setRowBad a r b).regs.p = k.regs.p := rfl
@[simp] theorem Core.setRowBad_regs_d (k : Core) (a r : Nat) (b : Bool) : (k.setRowBad a r b).regs.d = k.regs.d := rfl
@[simp] theorem Core.setRowBad_regs_dpend (k : Core) (a r : Nat) (b : Bool) : (k.setRowBad a r b).regs.dpend = k.regs.dpend := rfl
@[simp] theorem Core.setRowBad_regs_g (k : Core) (a r : Nat) (b : Bool) : (k.setRowBad a r b).regs.g = k.regs.g := rfl
@[simp] theorem Core.setRowBad_regs_w (k : Core) (a r : Nat) (b : Bool) : (k.setRowBad a r b).regs.w = k.regs.w := rfl
@[simp] theorem Core.setRowBad_regs_cseq (k : Core) (a r : Nat) (b : Bool) : (k.setRowBad a r b).regs.cseq = k.regs.cseq := rfl
@[simp] theorem Core.setRowBad_regs_q (k : Core) (a r : Nat) (b : Bool) : (k.setRowBad a r b).regs.q = k.regs.q := rfl
@[simp] theorem Core.setRowBad_regs_acc (k : Core) (a r : Nat) (b : Bool) : (k.setRowBad a r b).regs.acc = k.regs.acc := rfl
@[simp] theorem Core.setRowBad_regs_sPoison (k : Core) (a r : Nat) (b : Bool) : (k.setRowBad a r b).regs.sPoison = k.regs.sPoison := rfl
@[simp] theorem Core.setS_regs_p (k : Core) (n : SReg) (v : Word64) : (k.setS n v).regs.p = k.regs.p := by unfold Core.setS; split <;> rfl
@[simp] theorem Core.setS_regs_d (k : Core) (n : SReg) (v : Word64) : (k.setS n v).regs.d = k.regs.d := by unfold Core.setS; split <;> rfl
@[simp] theorem Core.setS_regs_dpend (k : Core) (n : SReg) (v : Word64) : (k.setS n v).regs.dpend = k.regs.dpend := by unfold Core.setS; split <;> rfl
@[simp] theorem Core.setS_regs_g (k : Core) (n : SReg) (v : Word64) : (k.setS n v).regs.g = k.regs.g := by unfold Core.setS; split <;> rfl
@[simp] theorem Core.setS_regs_w (k : Core) (n : SReg) (v : Word64) : (k.setS n v).regs.w = k.regs.w := by unfold Core.setS; split <;> rfl
@[simp] theorem Core.setS_regs_cseq (k : Core) (n : SReg) (v : Word64) : (k.setS n v).regs.cseq = k.regs.cseq := by unfold Core.setS; split <;> rfl
@[simp] theorem Core.setS_regs_q (k : Core) (n : SReg) (v : Word64) : (k.setS n v).regs.q = k.regs.q := by unfold Core.setS; split <;> rfl
@[simp] theorem Core.setS_regs_acc (k : Core) (n : SReg) (v : Word64) : (k.setS n v).regs.acc = k.regs.acc := by unfold Core.setS; split <;> rfl
@[simp] theorem Core.setS_regs_sPoison (k : Core) (n : SReg) (v : Word64) : (k.setS n v).regs.sPoison = k.regs.sPoison := by unfold Core.setS; split <;> rfl
@[simp] theorem Core.setS_regs_accPoison (k : Core) (n : SReg) (v : Word64) : (k.setS n v).regs.accPoison = k.regs.accPoison := by unfold Core.setS; split <;> rfl
@[simp] theorem Core.setP_regs_s (k : Core) (n : PReg) (b : Bool) : (k.setP n b).regs.s = k.regs.s := by unfold Core.setP; split <;> rfl
@[simp] theorem Core.setP_regs_d (k : Core) (n : PReg) (b : Bool) : (k.setP n b).regs.d = k.regs.d := by unfold Core.setP; split <;> rfl
@[simp] theorem Core.setP_regs_dpend (k : Core) (n : PReg) (b : Bool) : (k.setP n b).regs.dpend = k.regs.dpend := by unfold Core.setP; split <;> rfl
@[simp] theorem Core.setP_regs_g (k : Core) (n : PReg) (b : Bool) : (k.setP n b).regs.g = k.regs.g := by unfold Core.setP; split <;> rfl
@[simp] theorem Core.setP_regs_w (k : Core) (n : PReg) (b : Bool) : (k.setP n b).regs.w = k.regs.w := by unfold Core.setP; split <;> rfl
@[simp] theorem Core.setP_regs_cseq (k : Core) (n : PReg) (b : Bool) : (k.setP n b).regs.cseq = k.regs.cseq := by unfold Core.setP; split <;> rfl
@[simp] theorem Core.setP_regs_q (k : Core) (n : PReg) (b : Bool) : (k.setP n b).regs.q = k.regs.q := by unfold Core.setP; split <;> rfl
@[simp] theorem Core.setP_regs_acc (k : Core) (n : PReg) (b : Bool) : (k.setP n b).regs.acc = k.regs.acc := by unfold Core.setP; split <;> rfl
@[simp] theorem Core.setP_regs_sPoison (k : Core) (n : PReg) (b : Bool) : (k.setP n b).regs.sPoison = k.regs.sPoison := by unfold Core.setP; split <;> rfl
@[simp] theorem Core.setP_regs_accPoison (k : Core) (n : PReg) (b : Bool) : (k.setP n b).regs.accPoison = k.regs.accPoison := by unfold Core.setP; split <;> rfl
@[simp] theorem Core.setSBad_regs_s (k : Core) (n : SReg) (b : Bool) : (k.setSBad n b).regs.s = k.regs.s := by unfold Core.setSBad; split <;> rfl
@[simp] theorem Core.setSBad_regs_p (k : Core) (n : SReg) (b : Bool) : (k.setSBad n b).regs.p = k.regs.p := by unfold Core.setSBad; split <;> rfl
@[simp] theorem Core.setSBad_regs_d (k : Core) (n : SReg) (b : Bool) : (k.setSBad n b).regs.d = k.regs.d := by unfold Core.setSBad; split <;> rfl
@[simp] theorem Core.setSBad_regs_dpend (k : Core) (n : SReg) (b : Bool) : (k.setSBad n b).regs.dpend = k.regs.dpend := by unfold Core.setSBad; split <;> rfl
@[simp] theorem Core.setSBad_regs_g (k : Core) (n : SReg) (b : Bool) : (k.setSBad n b).regs.g = k.regs.g := by unfold Core.setSBad; split <;> rfl
@[simp] theorem Core.setSBad_regs_w (k : Core) (n : SReg) (b : Bool) : (k.setSBad n b).regs.w = k.regs.w := by unfold Core.setSBad; split <;> rfl
@[simp] theorem Core.setSBad_regs_cseq (k : Core) (n : SReg) (b : Bool) : (k.setSBad n b).regs.cseq = k.regs.cseq := by unfold Core.setSBad; split <;> rfl
@[simp] theorem Core.setSBad_regs_q (k : Core) (n : SReg) (b : Bool) : (k.setSBad n b).regs.q = k.regs.q := by unfold Core.setSBad; split <;> rfl
@[simp] theorem Core.setSBad_regs_acc (k : Core) (n : SReg) (b : Bool) : (k.setSBad n b).regs.acc = k.regs.acc := by unfold Core.setSBad; split <;> rfl
@[simp] theorem Core.setSBad_regs_accPoison (k : Core) (n : SReg) (b : Bool) : (k.setSBad n b).regs.accPoison = k.regs.accPoison := by unfold Core.setSBad; split <;> rfl

/-! ### Registers read after a write (R16) -/

@[simp] theorem Core.s_zero (k : Core) : k.s 0 = 0 := rfl
@[simp] theorem Core.p_zero (k : Core) : k.p 0 = true := rfl
theorem Core.setS_s_same (k : Core) {n : SReg} (v : Word64) (h : n ≠ 0) : (k.setS n v).s n = v := by
  simp only [Core.setS, Core.s, if_neg h]
  exact vget_vset_same _ _ _ n.isLt
theorem Core.setS_s_ne (k : Core) {n j : SReg} (v : Word64) (h : j ≠ n) : (k.setS n v).s j = k.s j := by
  have e : n.toNat ≠ j.toNat := fun e => h (BitVec.eq_of_toNat_eq e.symm)
  unfold Core.setS
  split
  · rfl
  · simp only [Core.s, vget_vset_ne _ _ _ e]
/-- What scalar `j` reads as after scalar `n` is written: s0 discards the write (R16). -/
theorem Core.setS_s (k : Core) (n j : SReg) (v : Word64) : (k.setS n v).s j = if j = n ∧ n ≠ 0 then v else k.s j := by
  by_cases h : j = n
  · subst h
    by_cases h0 : j = 0
    · subst h0; rfl
    · rw [Core.setS_s_same _ _ h0, if_pos ⟨rfl, h0⟩]
  · rw [Core.setS_s_ne _ _ h, if_neg (fun e => h e.1)]
/-- What predicate `j` reads as after predicate `n` is written: p0 discards the write (R16). -/
theorem Core.setP_p (k : Core) (n j : PReg) (b : Bool) : (k.setP n b).p j = if j = n ∧ n ≠ 0 then b else k.p j := by
  by_cases h0 : n = 0
  · simp [Core.setP, h0]
  · simp only [Core.setP, if_neg h0, Core.p, BitVec.getLsbD_ofNat, testBit_setField]
    have lj := j.isLt
    by_cases h : j = n
    · subst h
      have h1 : j ≠ 0#6 := h0
      cases b <;> simp [h1, lj, bit]
    · have e : ¬(n.toNat ≤ j.toNat ∧ j.toNat < n.toNat + 1) := fun e => h (BitVec.eq_of_toNat_eq (by omega))
      rw [if_neg e]
      simp [h, lj, BitVec.getLsbD]
@[simp] theorem Core.setD_d_same (k : Core) (n : DReg) (v : Desc) (m : Bool) : (k.setD n v m).d n = v := by
  simp [Core.setD, Core.d, n.isLt]
theorem Core.setD_d_ne (k : Core) {n j : DReg} (v : Desc) (m : Bool) (h : j ≠ n) : (k.setD n v m).d j = k.d j := by
  have : n.toNat ≠ j.toNat := fun e => h (BitVec.eq_of_toNat_eq e.symm)
  simp [Core.setD, Core.d, vget_vset_ne _ _ _ this]
@[simp] theorem Core.setG_g_same (k : Core) (n : GReg) (v : BitVec 128) : (k.setG n v).g n = v := by
  simp [Core.setG, Core.g, n.isLt]
theorem Core.setG_g_ne (k : Core) {n j : GReg} (v : BitVec 128) (h : j ≠ n) : (k.setG n v).g j = k.g j := by
  have : n.toNat ≠ j.toNat := fun e => h (BitVec.eq_of_toNat_eq e.symm)
  simp [Core.setG, Core.g, vget_vset_ne _ _ _ this]
@[simp] theorem Core.setW_w_same (k : Core) (n : WReg) (v : BitVec 32) : (k.setW n v).w n = v := by
  simp [Core.setW, Core.w, n.isLt]
theorem Core.setW_w_ne (k : Core) {n j : WReg} (v : BitVec 32) (h : j ≠ n) : (k.setW n v).w j = k.w j := by
  have : n.toNat ≠ j.toNat := fun e => h (BitVec.eq_of_toNat_eq e.symm)
  simp [Core.setW, Core.w, vget_vset_ne _ _ _ this]
@[simp] theorem Core.setQ_q_same (k : Core) (n : QReg) (v : List QEntry) : (k.setQ n v).q n = v := by
  simp [Core.setQ, Core.q, n.isLt]
theorem Core.setQ_q_ne (k : Core) {n j : QReg} (v : List QEntry) (h : j ≠ n) : (k.setQ n v).q j = k.q j := by
  have : n.toNat ≠ j.toNat := fun e => h (BitVec.eq_of_toNat_eq e.symm)
  simp [Core.setQ, Core.q, vget_vset_ne _ _ _ this]

@[simp] theorem Core.setS_p (k : Core) (n : SReg) (v : Word64) (j : PReg) : (k.setS n v).p j = k.p j := by unfold Core.setS; split <;> rfl
@[simp] theorem Core.setS_d (k : Core) (n : SReg) (v : Word64) (j : DReg) : (k.setS n v).d j = k.d j := by unfold Core.setS; split <;> rfl
@[simp] theorem Core.setS_g (k : Core) (n : SReg) (v : Word64) (j : GReg) : (k.setS n v).g j = k.g j := by unfold Core.setS; split <;> rfl
@[simp] theorem Core.setS_w (k : Core) (n : SReg) (v : Word64) (j : WReg) : (k.setS n v).w j = k.w j := by unfold Core.setS; split <;> rfl
@[simp] theorem Core.setS_q (k : Core) (n : SReg) (v : Word64) (j : QReg) : (k.setS n v).q j = k.q j := by unfold Core.setS; split <;> rfl
@[simp] theorem Core.setS_row (k : Core) (n : SReg) (v : Word64) (x y : Nat) : (k.setS n v).row x y = k.row x y := by unfold Core.setS; split <;> rfl
@[simp] theorem Core.setS_csrGet (k : Core) (n : SReg) (v : Word64) (j : Nat) : (k.setS n v).csrGet j = k.csrGet j := by unfold Core.setS; split <;> rfl
@[simp] theorem Core.setS_sp (k : Core) (n : SReg) (v : Word64) (o : Nat) : (k.setS n v).sp o = k.sp o := by unfold Core.setS; split <;> rfl
@[simp] theorem Core.setP_s (k : Core) (n : PReg) (b : Bool) (j : SReg) : (k.setP n b).s j = k.s j := by unfold Core.setP; split <;> rfl
@[simp] theorem Core.setP_d (k : Core) (n : PReg) (b : Bool) (j : DReg) : (k.setP n b).d j = k.d j := by unfold Core.setP; split <;> rfl
@[simp] theorem Core.setP_g (k : Core) (n : PReg) (b : Bool) (j : GReg) : (k.setP n b).g j = k.g j := by unfold Core.setP; split <;> rfl
@[simp] theorem Core.setP_w (k : Core) (n : PReg) (b : Bool) (j : WReg) : (k.setP n b).w j = k.w j := by unfold Core.setP; split <;> rfl
@[simp] theorem Core.setP_q (k : Core) (n : PReg) (b : Bool) (j : QReg) : (k.setP n b).q j = k.q j := by unfold Core.setP; split <;> rfl
@[simp] theorem Core.setP_row (k : Core) (n : PReg) (b : Bool) (x y : Nat) : (k.setP n b).row x y = k.row x y := by unfold Core.setP; split <;> rfl
@[simp] theorem Core.setP_csrGet (k : Core) (n : PReg) (b : Bool) (j : Nat) : (k.setP n b).csrGet j = k.csrGet j := by unfold Core.setP; split <;> rfl
@[simp] theorem Core.setP_sp (k : Core) (n : PReg) (b : Bool) (o : Nat) : (k.setP n b).sp o = k.sp o := by unfold Core.setP; split <;> rfl
@[simp] theorem Core.setD_s (k : Core) (n : DReg) (v : Desc) (m : Bool) (j : SReg) : (k.setD n v m).s j = k.s j := rfl
@[simp] theorem Core.setD_p (k : Core) (n : DReg) (v : Desc) (m : Bool) (j : PReg) : (k.setD n v m).p j = k.p j := rfl
@[simp] theorem Core.setD_g (k : Core) (n : DReg) (v : Desc) (m : Bool) (j : GReg) : (k.setD n v m).g j = k.g j := rfl
@[simp] theorem Core.setD_w (k : Core) (n : DReg) (v : Desc) (m : Bool) (j : WReg) : (k.setD n v m).w j = k.w j := rfl
@[simp] theorem Core.setD_q (k : Core) (n : DReg) (v : Desc) (m : Bool) (j : QReg) : (k.setD n v m).q j = k.q j := rfl
@[simp] theorem Core.setD_row (k : Core) (n : DReg) (v : Desc) (m : Bool) (x y : Nat) : (k.setD n v m).row x y = k.row x y := rfl
@[simp] theorem Core.setD_csrGet (k : Core) (n : DReg) (v : Desc) (m : Bool) (j : Nat) : (k.setD n v m).csrGet j = k.csrGet j := rfl
@[simp] theorem Core.setD_sp (k : Core) (n : DReg) (v : Desc) (m : Bool) (o : Nat) : (k.setD n v m).sp o = k.sp o := rfl
@[simp] theorem Core.setG_s (k : Core) (n : GReg) (v : BitVec 128) (j : SReg) : (k.setG n v).s j = k.s j := rfl
@[simp] theorem Core.setG_p (k : Core) (n : GReg) (v : BitVec 128) (j : PReg) : (k.setG n v).p j = k.p j := rfl
@[simp] theorem Core.setG_d (k : Core) (n : GReg) (v : BitVec 128) (j : DReg) : (k.setG n v).d j = k.d j := rfl
@[simp] theorem Core.setG_w (k : Core) (n : GReg) (v : BitVec 128) (j : WReg) : (k.setG n v).w j = k.w j := rfl
@[simp] theorem Core.setG_q (k : Core) (n : GReg) (v : BitVec 128) (j : QReg) : (k.setG n v).q j = k.q j := rfl
@[simp] theorem Core.setG_row (k : Core) (n : GReg) (v : BitVec 128) (x y : Nat) : (k.setG n v).row x y = k.row x y := rfl
@[simp] theorem Core.setG_csrGet (k : Core) (n : GReg) (v : BitVec 128) (j : Nat) : (k.setG n v).csrGet j = k.csrGet j := rfl
@[simp] theorem Core.setG_sp (k : Core) (n : GReg) (v : BitVec 128) (o : Nat) : (k.setG n v).sp o = k.sp o := rfl
@[simp] theorem Core.setW_s (k : Core) (n : WReg) (v : BitVec 32) (j : SReg) : (k.setW n v).s j = k.s j := rfl
@[simp] theorem Core.setW_p (k : Core) (n : WReg) (v : BitVec 32) (j : PReg) : (k.setW n v).p j = k.p j := rfl
@[simp] theorem Core.setW_d (k : Core) (n : WReg) (v : BitVec 32) (j : DReg) : (k.setW n v).d j = k.d j := rfl
@[simp] theorem Core.setW_g (k : Core) (n : WReg) (v : BitVec 32) (j : GReg) : (k.setW n v).g j = k.g j := rfl
@[simp] theorem Core.setW_q (k : Core) (n : WReg) (v : BitVec 32) (j : QReg) : (k.setW n v).q j = k.q j := rfl
@[simp] theorem Core.setW_row (k : Core) (n : WReg) (v : BitVec 32) (x y : Nat) : (k.setW n v).row x y = k.row x y := rfl
@[simp] theorem Core.setW_csrGet (k : Core) (n : WReg) (v : BitVec 32) (j : Nat) : (k.setW n v).csrGet j = k.csrGet j := rfl
@[simp] theorem Core.setW_sp (k : Core) (n : WReg) (v : BitVec 32) (o : Nat) : (k.setW n v).sp o = k.sp o := rfl
@[simp] theorem Core.setQ_s (k : Core) (n : QReg) (v : List QEntry) (j : SReg) : (k.setQ n v).s j = k.s j := rfl
@[simp] theorem Core.setQ_p (k : Core) (n : QReg) (v : List QEntry) (j : PReg) : (k.setQ n v).p j = k.p j := rfl
@[simp] theorem Core.setQ_d (k : Core) (n : QReg) (v : List QEntry) (j : DReg) : (k.setQ n v).d j = k.d j := rfl
@[simp] theorem Core.setQ_g (k : Core) (n : QReg) (v : List QEntry) (j : GReg) : (k.setQ n v).g j = k.g j := rfl
@[simp] theorem Core.setQ_w (k : Core) (n : QReg) (v : List QEntry) (j : WReg) : (k.setQ n v).w j = k.w j := rfl
@[simp] theorem Core.setQ_row (k : Core) (n : QReg) (v : List QEntry) (x y : Nat) : (k.setQ n v).row x y = k.row x y := rfl
@[simp] theorem Core.setQ_csrGet (k : Core) (n : QReg) (v : List QEntry) (j : Nat) : (k.setQ n v).csrGet j = k.csrGet j := rfl
@[simp] theorem Core.setQ_sp (k : Core) (n : QReg) (v : List QEntry) (o : Nat) : (k.setQ n v).sp o = k.sp o := rfl
@[simp] theorem Core.setRow_s (k : Core) (a r : Nat) (v : Vec) (j : SReg) : (k.setRow a r v).s j = k.s j := rfl
@[simp] theorem Core.setRow_p (k : Core) (a r : Nat) (v : Vec) (j : PReg) : (k.setRow a r v).p j = k.p j := rfl
@[simp] theorem Core.setRow_d (k : Core) (a r : Nat) (v : Vec) (j : DReg) : (k.setRow a r v).d j = k.d j := rfl
@[simp] theorem Core.setRow_g (k : Core) (a r : Nat) (v : Vec) (j : GReg) : (k.setRow a r v).g j = k.g j := rfl
@[simp] theorem Core.setRow_w (k : Core) (a r : Nat) (v : Vec) (j : WReg) : (k.setRow a r v).w j = k.w j := rfl
@[simp] theorem Core.setRow_q (k : Core) (a r : Nat) (v : Vec) (j : QReg) : (k.setRow a r v).q j = k.q j := rfl
@[simp] theorem Core.setRow_csrGet (k : Core) (a r : Nat) (v : Vec) (j : Nat) : (k.setRow a r v).csrGet j = k.csrGet j := rfl
@[simp] theorem Core.setRow_sp (k : Core) (a r : Nat) (v : Vec) (o : Nat) : (k.setRow a r v).sp o = k.sp o := rfl
@[simp] theorem Core.setRowBad_s (k : Core) (a r : Nat) (b : Bool) (j : SReg) : (k.setRowBad a r b).s j = k.s j := rfl
@[simp] theorem Core.setRowBad_p (k : Core) (a r : Nat) (b : Bool) (j : PReg) : (k.setRowBad a r b).p j = k.p j := rfl
@[simp] theorem Core.setRowBad_d (k : Core) (a r : Nat) (b : Bool) (j : DReg) : (k.setRowBad a r b).d j = k.d j := rfl
@[simp] theorem Core.setRowBad_g (k : Core) (a r : Nat) (b : Bool) (j : GReg) : (k.setRowBad a r b).g j = k.g j := rfl
@[simp] theorem Core.setRowBad_w (k : Core) (a r : Nat) (b : Bool) (j : WReg) : (k.setRowBad a r b).w j = k.w j := rfl
@[simp] theorem Core.setRowBad_q (k : Core) (a r : Nat) (b : Bool) (j : QReg) : (k.setRowBad a r b).q j = k.q j := rfl
@[simp] theorem Core.setRowBad_row (k : Core) (a r : Nat) (b : Bool) (x y : Nat) : (k.setRowBad a r b).row x y = k.row x y := rfl
@[simp] theorem Core.setRowBad_csrGet (k : Core) (a r : Nat) (b : Bool) (j : Nat) : (k.setRowBad a r b).csrGet j = k.csrGet j := rfl
@[simp] theorem Core.setRowBad_sp (k : Core) (a r : Nat) (b : Bool) (o : Nat) : (k.setRowBad a r b).sp o = k.sp o := rfl
@[simp] theorem Core.setSBad_s (k : Core) (n : SReg) (b : Bool) (j : SReg) : (k.setSBad n b).s j = k.s j := by unfold Core.setSBad; split <;> rfl
@[simp] theorem Core.setSBad_p (k : Core) (n : SReg) (b : Bool) (j : PReg) : (k.setSBad n b).p j = k.p j := by unfold Core.setSBad; split <;> rfl
@[simp] theorem Core.setSBad_d (k : Core) (n : SReg) (b : Bool) (j : DReg) : (k.setSBad n b).d j = k.d j := by unfold Core.setSBad; split <;> rfl
@[simp] theorem Core.setSBad_g (k : Core) (n : SReg) (b : Bool) (j : GReg) : (k.setSBad n b).g j = k.g j := by unfold Core.setSBad; split <;> rfl
@[simp] theorem Core.setSBad_w (k : Core) (n : SReg) (b : Bool) (j : WReg) : (k.setSBad n b).w j = k.w j := by unfold Core.setSBad; split <;> rfl
@[simp] theorem Core.setSBad_q (k : Core) (n : SReg) (b : Bool) (j : QReg) : (k.setSBad n b).q j = k.q j := by unfold Core.setSBad; split <;> rfl
@[simp] theorem Core.setSBad_row (k : Core) (n : SReg) (b : Bool) (x y : Nat) : (k.setSBad n b).row x y = k.row x y := by unfold Core.setSBad; split <;> rfl
@[simp] theorem Core.setSBad_csrGet (k : Core) (n : SReg) (b : Bool) (j : Nat) : (k.setSBad n b).csrGet j = k.csrGet j := by unfold Core.setSBad; split <;> rfl
@[simp] theorem Core.setSBad_sp (k : Core) (n : SReg) (b : Bool) (o : Nat) : (k.setSBad n b).sp o = k.sp o := by unfold Core.setSBad; split <;> rfl
@[simp] theorem Core.csrPut_s (k : Core) (n : Nat) (v : Word64) (j : SReg) : (k.csrPut n v).s j = k.s j := rfl
@[simp] theorem Core.csrPut_p (k : Core) (n : Nat) (v : Word64) (j : PReg) : (k.csrPut n v).p j = k.p j := rfl
@[simp] theorem Core.csrPut_d (k : Core) (n : Nat) (v : Word64) (j : DReg) : (k.csrPut n v).d j = k.d j := rfl
@[simp] theorem Core.csrPut_g (k : Core) (n : Nat) (v : Word64) (j : GReg) : (k.csrPut n v).g j = k.g j := rfl
@[simp] theorem Core.csrPut_w (k : Core) (n : Nat) (v : Word64) (j : WReg) : (k.csrPut n v).w j = k.w j := rfl
@[simp] theorem Core.csrPut_q (k : Core) (n : Nat) (v : Word64) (j : QReg) : (k.csrPut n v).q j = k.q j := rfl
@[simp] theorem Core.csrPut_row (k : Core) (n : Nat) (v : Word64) (x y : Nat) : (k.csrPut n v).row x y = k.row x y := rfl
@[simp] theorem Core.csrPut_sp (k : Core) (n : Nat) (v : Word64) (o : Nat) : (k.csrPut n v).sp o = k.sp o := rfl
@[simp] theorem Core.addWindow_s (k : Core) (clk : Nat) (r : RegName) (b : Nat) (f : Flags) (j : SReg) : (k.addWindow clk r b f).s j = k.s j := rfl
@[simp] theorem Core.addWindow_p (k : Core) (clk : Nat) (r : RegName) (b : Nat) (f : Flags) (j : PReg) : (k.addWindow clk r b f).p j = k.p j := rfl
@[simp] theorem Core.addWindow_d (k : Core) (clk : Nat) (r : RegName) (b : Nat) (f : Flags) (j : DReg) : (k.addWindow clk r b f).d j = k.d j := rfl
@[simp] theorem Core.addWindow_g (k : Core) (clk : Nat) (r : RegName) (b : Nat) (f : Flags) (j : GReg) : (k.addWindow clk r b f).g j = k.g j := rfl
@[simp] theorem Core.addWindow_w (k : Core) (clk : Nat) (r : RegName) (b : Nat) (f : Flags) (j : WReg) : (k.addWindow clk r b f).w j = k.w j := rfl
@[simp] theorem Core.addWindow_q (k : Core) (clk : Nat) (r : RegName) (b : Nat) (f : Flags) (j : QReg) : (k.addWindow clk r b f).q j = k.q j := rfl
@[simp] theorem Core.addWindow_row (k : Core) (clk : Nat) (r : RegName) (b : Nat) (f : Flags) (x y : Nat) : (k.addWindow clk r b f).row x y = k.row x y := rfl
@[simp] theorem Core.addWindow_csrGet (k : Core) (clk : Nat) (r : RegName) (b : Nat) (f : Flags) (j : Nat) : (k.addWindow clk r b f).csrGet j = k.csrGet j := rfl
@[simp] theorem Core.addWindow_sp (k : Core) (clk : Nat) (r : RegName) (b : Nat) (f : Flags) (o : Nat) : (k.addWindow clk r b f).sp o = k.sp o := rfl
@[simp] theorem Core.supersede_s (k : Core) (r : RegName) (j : SReg) : (k.supersede r).s j = k.s j := rfl
@[simp] theorem Core.supersede_p (k : Core) (r : RegName) (j : PReg) : (k.supersede r).p j = k.p j := rfl
@[simp] theorem Core.supersede_d (k : Core) (r : RegName) (j : DReg) : (k.supersede r).d j = k.d j := rfl
@[simp] theorem Core.supersede_g (k : Core) (r : RegName) (j : GReg) : (k.supersede r).g j = k.g j := rfl
@[simp] theorem Core.supersede_w (k : Core) (r : RegName) (j : WReg) : (k.supersede r).w j = k.w j := rfl
@[simp] theorem Core.supersede_q (k : Core) (r : RegName) (j : QReg) : (k.supersede r).q j = k.q j := rfl
@[simp] theorem Core.supersede_row (k : Core) (r : RegName) (x y : Nat) : (k.supersede r).row x y = k.row x y := rfl
@[simp] theorem Core.supersede_csrGet (k : Core) (r : RegName) (j : Nat) : (k.supersede r).csrGet j = k.csrGet j := rfl
@[simp] theorem Core.supersede_sp (k : Core) (r : RegName) (o : Nat) : (k.supersede r).sp o = k.sp o := rfl

/-! ### CSRs, control-die registers and accumulator rows read after a write -/

@[simp] theorem Core.csrPut_csrGet_same (k : Core) (n : Nat) (v : Word64) : (k.csrPut n v).csrGet n = v := Map.get_set_same _ _ _ _
theorem Core.csrPut_csrGet_ne (k : Core) {n j : Nat} (v : Word64) (h : n ≠ j) : (k.csrPut n v).csrGet j = k.csrGet j :=
  Map.get_set_ne _ _ _ _ h
@[simp] theorem State.ctlPut_ctlGet_same (s : State) (o : Nat) (v : Word64) : (s.ctlPut o v).ctlGet o = v := Map.get_set_same _ _ _ _
theorem State.ctlPut_ctlGet_ne (s : State) {o p : Nat} (v : Word64) (h : o ≠ p) : (s.ctlPut o v).ctlGet p = s.ctlGet p :=
  Map.get_set_ne _ _ _ _ h
theorem Core.setRow_row (k : Core) (a r b t : Nat) (v : Vec) :
    (k.setRow a r v).row b t = if 64 * a + r = 64 * b + t then v else k.row b t := Map.get_set _ _ _ _ _

end Sys2Proof.Machine
end

