-- ==== Sys2Proof/Laws/Memory.lean ====
section
/-! SUPPORT. Memory: a byte read after a write, and the canonical form, which every operation over memory keeps. -/

namespace Sys2Proof.Machine

/-- Memory of a state in canonical form. -/
abbrev State.memOk (s : State) : Prop := Memory.wf s.mem = true

/-- Memory lists nothing at reset. -/
theorem reset_memOk : State.reset.memOk := rfl

/-! ### Bytes written and read -/

theorem State.byte_setByte (s : State) (a x : Nat) (b : Byte) :
    (s.setByte a b).byte x = if a = x then b else s.byte x := Map.get_set 0 s.mem a b x

theorem State.setByte_memOk {s : State} (h : s.memOk) (a : Nat) (b : Byte) : (s.setByte a b).memOk := Map.wf_set h a b

theorem State.setBytes_memOk {s : State} (h : s.memOk) (a : Nat) (bs : List Byte) : (s.setBytes a bs).memOk := by
  induction bs generalizing s a with
  | nil => exact h
  | cons b bs ih => exact ih (State.setByte_memOk h a b) (a + 1)

/-- A byte after a run of bytes is stored from `a` on: the stored one inside the run, the old one outside. -/
theorem State.byte_setBytes (s : State) (a x : Nat) (bs : List Byte) :
    (s.setBytes a bs).byte x = if a ≤ x ∧ x < a + bs.length then bs.getD (x - a) 0 else s.byte x := by
  induction bs generalizing s a with
  | nil => simp [State.setBytes] <;> intro h1 h2 <;> omega
  | cons b bs ih =>
    simp only [State.setBytes, ih, State.byte_setByte, List.length_cons]
    by_cases h1 : a = x
    · subst h1
      rw [if_neg (by omega), if_pos rfl, if_pos (by omega)]
      simp
    · by_cases h2 : a + 1 ≤ x ∧ x < a + 1 + bs.length
      · rw [if_pos h2, if_pos (by omega)]
        have e : x - a = (x - (a + 1)) + 1 := by omega
        rw [e, List.getD_cons_succ]
      · rw [if_neg h2, if_neg h1, if_neg (by omega)]

/-- Storing leaves every other field of the module alone. -/
theorem State.setBytes_rest (s : State) (a : Nat) (bs : List Byte) : s.setBytes a bs = { s with mem := (s.setBytes a bs).mem } := by
  induction bs generalizing s a with
  | nil => rfl
  | cons b bs ih => simp only [State.setBytes]; rw [ih]; rfl

@[simp] theorem State.setBytes_core (s : State) (a : Nat) (bs : List Byte) (c : Nat) : (s.setBytes a bs).core c = s.core c := by
  rw [State.setBytes_rest]; rfl

/-! ### Operations that store nothing -/

theorem State.setCore_memOk {s : State} (h : s.memOk) (c : Nat) (k : Core) : (s.setCore c k).memOk := h
theorem State.onCore_memOk {s : State} (h : s.memOk) (c : Nat) (f : Core → Core) : (s.onCore c f).memOk := h
theorem State.drew_memOk {s : State} (h : s.memOk) (n : Nat) : (s.drew n).memOk := h
theorem State.ctlPut_memOk {s : State} (h : s.memOk) (o : Nat) (v : Word64) : (s.ctlPut o v).memOk := h
theorem State.poisonRange_memOk {s : State} (h : s.memOk) (a n : Nat) : (s.poisonRange a n).memOk := h

/-- A fold of steps that keep a property keeps it. -/
theorem foldl_keeps {α β : Type} {P : β → Prop} {f : β → α → β} (hf : ∀ b a, P b → P (f b a)) {b : β} (h : P b) (l : List α) :
    P (l.foldl f b) := by
  induction l generalizing b with
  | nil => exact h
  | cons a l ih => exact ih (hf b a h)

theorem State.msi_memOk {s : State} (h : s.memOk) (k c : Nat) : (s.msi k c).memOk := by
  unfold State.msi; dsimp only
  split <;> split <;> exact h

/-- A record put into a ring keeps the form if `put` does. -/
theorem State.ringPut_memOk {s : State} (h : s.memOk) {put : State → Nat → List Byte → State}
    (hp : ∀ t a bs, State.memOk t → (put t a bs).memOk) (b p : Nat) (bs : List Byte) : (s.ringPut put b p bs).memOk := by
  unfold State.ringPut; dsimp only
  split
  · exact h
  · split
    · exact State.ctlPut_memOk (hp _ _ _ h) _ _
    · exact h

theorem State.logError_memOk {s : State} (h : s.memOk) {put : State → Nat → List Byte → State}
    (hp : ∀ t a bs, State.memOk t → (put t a bs).memOk) (e : ErrorInfo) : (s.logError put e).memOk := by
  unfold State.logError; dsimp only
  split
  · exact State.msi_memOk (State.ringPut_memOk h hp _ _ _) _ _
  · exact State.ringPut_memOk h hp _ _ _

/-! ### Page states and granule copies -/

theorem State.setPageState_memOk {s : State} (h : s.memOk) (g v : Nat) : (s.setPageState g v).memOk := by
  unfold State.setPageState; split
  · exact h
  · exact State.setByte_memOk h _ _

/-- A list that rises up to `hi`, followed by one that rises from `hi` on. -/
theorem wfFrom_append {lo hi : Nat} {m n : List Host.Cell} (hm : Map.wfFrom (0 : Byte) lo m) (up : ∀ c ∈ m, c.1 < hi)
    (le : lo ≤ hi) (hn : Map.wfFrom (0 : Byte) hi n) : Map.wfFrom (0 : Byte) lo (m ++ n) := by
  induction m generalizing lo with
  | nil => exact Map.wfFrom_mono hn le
  | cons e m ih =>
    obtain ⟨a, b⟩ := e
    simp [Map.wfFrom] at hm
    have ha : a < hi := up (a, b) (by simp)
    simp [Map.wfFrom]
    exact ⟨hm.1, ih hm.2 (fun c hc => up c (by simp [hc])) (by omega)⟩

/-- Cells from `src` on, moved to `dst`, rise. -/
theorem wfFrom_shift {src dst lo : Nat} {m : List Host.Cell} (h : Map.wfFrom (0 : Byte) lo m) (hs : ∀ c ∈ m, src ≤ c.1) (le : src ≤ lo) :
    Map.wfFrom (0 : Byte) (lo - src + dst) (m.map fun c => (c.1 - src + dst, c.2)) := by
  induction m generalizing lo with
  | nil => rfl
  | cons e m ih =>
    obtain ⟨a, b⟩ := e
    simp [Map.wfFrom] at h
    have ha : src ≤ a := hs (a, b) (by simp)
    have r := ih h.2 (fun c hc => hs c (by simp [hc])) (by omega)
    have e : a + 1 - src + dst = a - src + dst + 1 := by omega
    rw [e] at r
    simp [Map.wfFrom]
    exact ⟨⟨by omega, h.1.2⟩, r⟩

/-- A list whose keys are all at least `lo` rises from `lo` on if it rises at all. -/
theorem wfFrom_from {lo : Nat} {m : List Host.Cell} (h : Map.wfFrom (0 : Byte) 0 m) (hs : ∀ c ∈ m, lo ≤ c.1) :
    Map.wfFrom (0 : Byte) lo m := by
  cases m with
  | nil => rfl
  | cons e m =>
    obtain ⟨a, b⟩ := e
    have := hs (a, b) (by simp)
    simp [Map.wfFrom] at *
    exact ⟨⟨this, h.1⟩, h.2⟩

theorem State.copyGranule_memOk {s : State} (h : s.memOk) (src dst : Nat) : (s.copyGranule src dst).memOk := by
  unfold State.copyGranule State.memOk Memory.wf Map.wf
  simp only []
  have hc := Map.wfFrom_filter (fun c => src ≤ c.1 && c.1 < src + 65536) h
  have hc' := wfFrom_shift (dst := dst) (wfFrom_from (lo := src) hc (by simp; omega)) (by simp; omega) (Nat.le_refl src)
  simp only [Nat.sub_self, Nat.zero_add] at hc'
  have ho := Map.wfFrom_filter (fun c => !(dst ≤ c.1 && c.1 < dst + 65536)) h
  refine wfFrom_append (hi := dst + 65536) (wfFrom_append (hi := dst) (Map.wfFrom_filter _ ho) ?_ (Nat.zero_le _) hc') ?_ (Nat.zero_le _)
    (wfFrom_from (Map.wfFrom_filter _ ho) ?_)
  · simp; omega
  · simp; omega
  · simp; omega

theorem State.areaTake_memOk {s : State} (h : s.memOk) : s.areaTake.memOk := State.ctlPut_memOk h _ _

theorem State.withSnap_memOk {s : State} (h : s.memOk) (p : Snap) : ({ s with snap := p } : State).memOk := h

theorem State.copyFails_memOk {s : State} (h : s.memOk) (g : Nat) : (s.copyFails g).1.memOk := by
  unfold State.copyFails; dsimp only
  refine State.withSnap_memOk ?_ _
  refine foldl_keeps (P := State.memOk) (fun b a hb => ?_) h _
  split
  · exact State.setPageState_memOk hb _ _
  · exact hb

theorem State.copyInto_memOk {s : State} (h : s.memOk) (g pa : Nat) (bg : Bool) : (s.copyInto g pa bg).memOk := by
  unfold State.copyInto
  refine State.setPageState_memOk ?_ _ _
  have h0 : (if s.pageState (pa / 65536) = some 0 then s.setPageState (pa / 65536) 3 else s).memOk := by
    split
    · exact State.setPageState_memOk h _ _
    · exact h
  exact State.withSnap_memOk (State.copyGranule_memOk h0 (g * 65536) pa) _

theorem State.copyBegun_memOk {s : State} (h : s.memOk) (g : Nat) (bg : Bool) : (s.copyBegun g bg).1.memOk := by
  unfold State.copyBegun
  split
  · exact State.copyFails_memOk h _
  · exact State.copyInto_memOk (State.areaTake_memOk h) _ _ _

theorem State.trackBegun_memOk {s : State} (h : s.memOk) (g : Nat) : (s.trackBegun g).1.memOk := by
  unfold State.trackBegun
  split
  · exact State.setPageState_memOk h _ _
  · exact State.copyBegun_memOk h _ _
  · exact h
  · exact h

/-! ### Writes at the home slice -/

theorem State.codeWrite_memOk {s : State} (h : s.memOk) (a n : Nat) : (s.codeWrite a n).memOk := by
  unfold State.codeWrite; dsimp only; split <;> exact h

theorem State.withHist_memOk {s : State} (h : s.memOk) (n : Nat) (l : List HistWrite) :
    ({ s with histNext := n, hist := l } : State).memOk := h

theorem State.homeStore_memOk {s : State} (h : s.memOk) (w : WriteBy) (a : Nat) (bs : List Byte) : (s.homeStore w a bs).1.memOk := by
  unfold State.homeStore; dsimp only
  have h2 := State.codeWrite_memOk h a bs.length
  generalize State.codeWrite _ a bs.length = t at h2 ⊢
  split
  · exact State.setBytes_memOk (State.withHist_memOk h2 _ _) _ _
  · refine foldl_keeps (P := State.memOk) (fun b i hb => ?_) (State.withHist_memOk h2 _ _) _
    split
    · exact hb
    · exact State.setByte_memOk hb _ _

theorem State.logTable_memOk {s : State} (h : s.memOk) (e : ErrorInfo) : (s.logTable e).memOk :=
  State.logError_memOk h (fun _ _ _ ht => State.homeStore_memOk (State.trackBegun_memOk ht _) _ _ _) e

theorem State.copyArmed_memOk {s : State} (h : s.memOk) (g : Nat) (bg : Bool) : (s.copyArmed g bg).memOk :=
  foldl_keeps (P := State.memOk) (fun _ _ hb => State.logTable_memOk hb _) (State.copyBegun_memOk h _ _) _

theorem State.trackWrite_memOk {s : State} (h : s.memOk) (g : Nat) : (s.trackWrite g).memOk :=
  foldl_keeps (P := State.memOk) (fun _ _ hb => State.logTable_memOk hb _) (State.trackBegun_memOk h _) _

theorem State.homeWrite_memOk {s : State} (h : s.memOk) (w : WriteBy) (a : Nat) (bs : List Byte) : (s.homeWrite w a bs).1.memOk := by
  unfold State.homeWrite; dsimp only
  split
  · exact h
  · refine State.homeStore_memOk ?_ _ _ _
    split
    · exact foldl_keeps (P := State.memOk) (fun b _ hb => State.trackWrite_memOk hb _) h _
    · exact h

theorem State.hardWrite_memOk {s : State} (h : s.memOk) (a : Nat) (bs : List Byte) : (s.hardWrite a bs).memOk := State.homeWrite_memOk h _ _ _

theorem State.ringRecord_memOk {s : State} (h : s.memOk) (b p : Nat) (bs : List Byte) : (s.ringRecord b p bs).memOk :=
  State.ringPut_memOk h (fun _ _ _ ht => State.hardWrite_memOk ht _ _) _ _ _

theorem State.errorRecord_memOk {s : State} (h : s.memOk) (a v u l : Nat) (pc : Word64) : (s.errorRecord a v u l pc).memOk :=
  State.logError_memOk h (fun _ _ _ ht => State.hardWrite_memOk ht _ _) _

/-! ### Reports and ownership -/

theorem State.consumed_memOk {s : State} (h : s.memOk) (c : Nat) (x : Holder) (pc : Word64) (d : Nat) (call : Option Nat) :
    (s.consumed c x pc d call).memOk := State.errorRecord_memOk (State.onCore_memOk h _ _) _ _ _ _ _

theorem State.report_memOk {s : State} (h : s.memOk) (c : Nat) (va pc : Word64) (pa : Nat) (m : WriteMet) : (s.report c va pc pa m).memOk := by
  have h1 : (if m.lost then s.onCore c fun k => k.raiseLost va pc else s).memOk := by split <;> exact h
  unfold State.report; dsimp only
  split
  · exact State.consumed_memOk h1 _ _ _ _ _
  · exact h1

theorem State.sendHome_memOk {s : State} (h : s.memOk) (w : Nat) (x : OwnedWord) : (s.sendHome w x).memOk := by
  unfold State.sendHome; dsimp only
  split
  · exact State.report_memOk (State.homeWrite_memOk h _ _ _) _ _ _ _ _
  · exact State.homeWrite_memOk h _ _ _

theorem State.withOwned_memOk {s : State} (h : s.memOk) (o : Map OwnedWord) : ({ s with owned := o } : State).memOk := h

theorem State.endOwned_memOk {s : State} (h : s.memOk) (p : Nat → Nat → Bool) : (s.endOwned p).memOk :=
  foldl_keeps (P := State.memOk) (fun _ _ hb => State.sendHome_memOk hb _ _) (State.withOwned_memOk h _) _

theorem State.endOwnedIn_memOk {s : State} (h : s.memOk) (a n : Nat) : (s.endOwnedIn a n).memOk := State.endOwned_memOk h _

theorem State.endOthers_memOk {s : State} (h : s.memOk) (c a n : Nat) : (s.endOthers c a n).memOk := State.endOwned_memOk h _

theorem State.obtain_memOk {s : State} (h : s.memOk) (c a n : Nat) : (s.obtain c a n).memOk :=
  foldl_keeps (P := State.memOk) (fun _ _ hb => State.withOwned_memOk (State.sendHome_memOk hb _ _) _) h _

/-! ### Accesses of the cores and engines -/

theorem State.coreStep_memOk {s : State} (h : s.memOk) (c : Nat) : (s.coreStep c).memOk := by
  unfold State.coreStep; dsimp only; split <;> exact h

theorem State.coreLook_memOk {s : State} (h : s.memOk) (c a n pick : Nat) : (s.coreLook c a n pick).memOk := by
  unfold State.coreLook; dsimp only
  split
  · exact State.obtain_memOk (State.coreStep_memOk h _) _ _ _
  · exact State.onCore_memOk (State.obtain_memOk (State.coreStep_memOk h _) _ _ _) _ _

theorem State.coreStore_memOk {s : State} (h : s.memOk) (c a : Nat) (bs : List Byte) (va pc : Word64) : (s.coreStore c a bs va pc).1.memOk := by
  have h1 := State.endOthers_memOk (State.coreStep_memOk h c) c a bs.length
  unfold State.coreStore; dsimp only
  split
  · exact State.homeWrite_memOk h1 _ _ _
  · refine foldl_keeps (P := State.memOk) (fun b i hb => ?_) h1 _
    split <;> exact hb

/-- A translation held by a core. -/
theorem State.touch_memOk {s : State} (h : s.memOk) (c : Nat) (r : Word64) (k : Access) (va : Nat) : (s.touch c r k va).memOk := by
  unfold State.touch
  split
  · exact h
  · next l _ =>
    extract_lets w t e q
    have h1 : t.memOk := by
      unfold t
      split
      · exact h
      · exact State.homeWrite_memOk h _ _ _
    split
    · exact h1
    · exact State.setCore_memOk h1 _ _

/-! ### Taking an exception stores nothing -/

theorem State.escalate_memOk {s : State} (h : s.memOk) (c n : Nat) : (s.escalate c n).memOk := by
  unfold State.escalate; exact State.msi_memOk (State.ctlPut_memOk (State.setCore_memOk h _ _) _ _) _ _

theorem State.takeTrap_memOk {s : State} (h : s.memOk) (c : Nat) (t : TrapInfo) : (s.takeTrap c t).memOk := by
  unfold State.takeTrap; dsimp only
  split
  · exact State.setCore_memOk h _ _
  · split
    · exact State.setCore_memOk h _ _
    · exact State.escalate_memOk h _ _

end Sys2Proof.Machine
end

