-- ==== Sys2Proof/Laws/Issue.lean ====
section
/-! SUPPORT. The issue of a bundle of one slot: when nothing is in its way it runs and commits. -/

namespace Sys2Proof.Machine

open Sys2Proof

/-- A slot alone in its bundle, as it sees the state when it consumes no poison. -/
def Slot.alone (sl : Slot) (s : State) : Ctx :=
  { s := s, c := s.turn, k := s.core s.turn, pos := sl.pos, qs := resolveQ (s.core s.turn) [] sl.qs }

/-- What such a slot leaves when it issues: its queue operands popped, its effect, the commit, and what follows. -/
def Slot.issued (sl : Slot) (s : State) : State :=
  let x := sl.alone s
  (sl.last x ((sl.store x (sl.run x (s.onCore s.turn fun k => popAll k sl.qs))).commit s.turn (sl.flow x))).drew 5120

theorem Slot.sees_alone {s : State} {sl : Slot} (clean : sl.eaten (sl.alone s) = none) : sl.sees s s.turn [sl] = sl.alone s := by
  unfold Slot.sees
  simp only [List.filter_cons, Nat.lt_irrefl, decide_false, Bool.false_eq_true, if_false, List.filter_nil, List.flatMap_nil]
  have e : sl.eaten { s := s, c := s.turn, k := s.core s.turn, pos := sl.pos, qs := resolveQ (s.core s.turn) [] sl.qs } = none := clean
  rw [e]; rfl

theorem runSlots_alone {s : State} {sl : Slot} (clean : sl.eaten (sl.alone s) = none) :
    (runSlots s s.turn [sl]).drew 5120 = sl.issued s := by
  unfold runSlots Slot.issued Slot.report
  simp only [Slot.sees_alone clean, clean, List.foldl_cons, List.foldl_nil, List.flatMap_cons, List.flatMap_nil, List.append_nil,
    List.findSome?_cons, List.findSome?_nil]
  cases sl.flow (sl.alone s) <;> rfl

/-- A slot whose checks pass, whose guard holds and which waits for nothing runs and commits. -/
theorem issue_alone {s : State} {sl : Slot} (late : (s.core s.turn).lateResult s.clk = false)
    (faults : findFaults s s.turn [] [sl] = [])
    (active : sl.active { s := s, c := s.turn, k := s.core s.turn, pos := sl.pos } = true)
    (landed : ∀ e ∈ resolveQ (s.core s.turn) [] sl.qs, e.landed = true ∨ e.due ≤ s.clk)
    (slices : sl.mem = true → s.sliceWaits s.turn = false)
    (noAlias : ∀ b, s.aliasWait s.turn [(sl.pos, b)] = none)
    (clean : sl.eaten (sl.alone s) = none) (wait : sl.wait (sl.alone s) = none) :
    issue s [] [sl] = sl.issued s := by
  have hq : (sl.alone s).qs.any (fun e => !e.landed && s.clk < e.due) = false := by
    rw [List.any_eq_false]
    intro e he
    rcases landed e he with h | h
    · simp [h]
    · simp [Nat.not_lt.mpr h]
  have hm : (sl.mem && s.sliceWaits s.turn) = false := by
    cases h : sl.mem with
    | false => rfl
    | true => simp [slices h]
  unfold issue
  simp only [List.filter_nil, List.filter_cons, if_true, faults, reportOf, active]
  unfold startSlots
  simp only [late, Slot.sees_alone clean, List.any_cons, List.any_nil, Bool.or_false, hq, hm, Bool.false_eq_true, if_false, List.map_cons,
    List.map_nil, noAlias, List.findSome?_cons, List.findSome?_nil, wait, Option.or]
  exact runSlots_alone clean

/-- A slot as its checks see the state: no queue operand is read before the checks have passed (R79). -/
def Slot.plain (sl : Slot) (s : State) : Ctx := { s := s, c := s.turn, k := s.core s.turn, pos := sl.pos }

/-- Nothing stops a slot that is alone in its bundle: its queues, its own checks, what it claims, and no wait of its own. -/
structure Slot.Clear (sl : Slot) (s : State) : Prop where
  queues : QueuesReady s sl.qs sl.push
  check : sl.check (sl.plain s) = none
  claims : ∀ q ∈ sl.claims (sl.plain s), ((sl.claims (sl.plain s)).filter fun r => r.1 = q.1).length ≤ q.2.1
  eats : sl.eats.any (fun n => (s.core s.turn).sBad n) = false
  wait : sl.wait (sl.alone s) = none

theorem sBad_clean {k : Core} (h : k.regs.sPoison = 0) (n : SReg) : k.sBad n = false := by
  simp [Core.sBad, h]

theorem eats_clean {k : Core} (h : k.regs.sPoison = 0) (l : List SReg) : l.any (fun n => k.sBad n) = false := by
  simp [sBad_clean h]

/-- No queue of a slot faults (R167). -/
theorem queueFault_none {s : State} {sl : Slot} (h : QueuesReady s sl.qs sl.push) {n : QReg} (m : n ∈ sl.qs.map (·.q) ++ sl.push) :
    queueFault (s.core s.turn) [sl] n = none := by
  have h1 := h.popped n
  have h2 := h.pushed n m
  unfold queueFault
  simp only [List.map_cons, List.map_nil, List.sum_cons, List.sum_nil, Nat.add_zero]
  rw [if_neg, if_neg]
  · simp only [Slot.pops, Slot.pushes]; omega
  · simp only [Slot.pops]; omega

/-- The checks of R78 pass for a slot that is clear, in either pipeline. -/
theorem faults_alone {s : State} {sl : Slot} (c : sl.Clear s) (unchecked : (s.core s.turn).checking = false)
    (nodes : (s.core s.turn).berth.nodes = []) (active : sl.active (sl.plain s) = true)
    (mode : ((s.core s.turn).level = 0 ∧ sl.priv = false) ∨
      ((s.core s.turn).level ≠ 0 ∧ (sl.pos = 0 ∨ sl.pos = 7) ∧ sl.tenderOk = true)) :
    findFaults s s.turn [] [sl] = [] := by
  have hact : sl.active { s := s, c := s.turn, k := s.core s.turn, pos := sl.pos } = true := active
  have hq : ∀ n ∈ sl.qs.map (·.q) ++ sl.push, queueFault (s.core s.turn) [sl] n = none := fun n m => queueFault_none c.queues m
  have hclash (p : Nat) (l : List RegName) : clashes [(p, l)] p l = false := by simp [clashes]
  have h8 : ((sl.qs.any fun q => (s.core s.turn).qallot ≤ q.q.toNat) || sl.push.any fun q => (s.core s.turn).qallot ≤ q.toNat) = false := by
    have a := c.queues.allotted
    simp only [Bool.or_eq_false_iff, List.any_eq_false, decide_eq_true_eq, Nat.not_le]
    exact ⟨fun q m => a q.q (by simp; exact .inl ⟨q, m, rfl⟩), fun q m => a q (by simp [m])⟩
  have hcheck : sl.check { s := s, c := s.turn, k := s.core s.turn, pos := sl.pos } = none := c.check
  have hfil : (List.filterMap (fun n => Option.map (fun e => (9, sl.pos, ({ code := e } : SlotFault))) (queueFault (s.core s.turn) [sl] n))
      (sl.qs.map (·.q) ++ sl.push)) = [] := by
    rw [List.filterMap_eq_nil_iff]
    intro n m
    rw [hq n m]; rfl
  have hclaim : (sl.claims { s := s, c := s.turn, k := s.core s.turn, pos := sl.pos }).find? (fun q => decide (q.2.1 <
      ((sl.claims { s := s, c := s.turn, k := s.core s.turn, pos := sl.pos }).filter fun r => r.1 = q.1).length)) = none := by
    rw [List.find?_eq_none]
    intro q m
    have := c.claims q m
    simp only [decide_eq_true_eq, Nat.not_lt]
    exact this
  unfold findFaults
  simp only [List.filter_cons, hact, if_true, List.filter_nil, List.any_nil, Bool.and_false, Bool.or_false, List.map_nil, List.any_cons,
    h8, Bool.false_eq_true, if_false, unchecked, Bool.not_false, List.flatMap_cons, List.flatMap_nil,
    hfil, List.take_nil, List.append_nil, Nat.lt_irrefl, decide_false, c.queues.peeked, List.filterMap_cons, List.filterMap_nil, hcheck,
    Option.map_none, Nat.le_refl, decide_true, hclaim, nodes]
  rcases mode with ⟨l, p⟩ | ⟨l, p, t⟩
  · simp [l, p, hclash]
  · rcases p with p | p <;> simp [l, p, t, hclash]

/-- What a bundle of one slot does in a quiet state when the slot is clear. -/
theorem issueOne_clear {s : State} {sl : Slot} (q : Quiet s) (c : sl.Clear s) (active : sl.active (sl.plain s) = true)
    (mode : ((s.core s.turn).level = 0 ∧ sl.priv = false) ∨
      ((s.core s.turn).level ≠ 0 ∧ (sl.pos = 0 ∨ sl.pos = 7) ∧ sl.tenderOk = true)) :
    issueOne none sl s = .next (sl.issued s) := by
  unfold issueOne
  rw [issue_alone _ (faults_alone c q.unchecked q.nodes active mode) active c.queues.landed (fun _ => q.slices) _ _ c.wait]
  · simp [Core.lateResult, q.landed]
  · intro b; unfold State.aliasWait; simp [q.nodes]
  · unfold Slot.eaten
    have h1 : sl.eats.find? (fun n => (sl.alone s).k.sBad n) = none := by
      rw [List.find?_eq_none]; exact List.any_eq_false.1 c.eats
    have h2 : (sl.qs.zip (sl.alone s).qs).find? (fun e => e.2.poison) = none := by
      rw [List.find?_eq_none]; intro e m; simp [c.queues.clean e.2 (List.of_mem_zip m).2]
    rw [h1, h2]; simp

/-- A register reads as itself when nothing is in flight (R66). -/
theorem Ctx.sr_landed {x : Ctx} (h : x.k.windows = []) (n : SReg) : x.sr n = x.k.s n := by simp [Ctx.sr, Core.inFlight, h]
theorem Ctx.pr_landed {x : Ctx} (h : x.k.windows = []) (n : PReg) : x.pr n = x.k.p n := by simp [Ctx.pr, Core.inFlight, h]
theorem Ctx.dr_landed {x : Ctx} (h : x.k.windows = []) (n : DReg) : x.dr n = x.k.d n := by simp [Ctx.dr, Core.inFlight, h]
theorem Ctx.gr_landed {x : Ctx} (h : x.k.windows = []) (n : GReg) : x.gr n = x.k.g n := by simp [Ctx.gr, Core.inFlight, h]

/-- A slot is active in a state that is ready for its guard. -/
theorem Quiet.isActive {s : State} (q : Quiet s) {sl : Slot} (h : (s.core s.turn).proves sl.guard = true) : sl.active (sl.plain s) = true := by
  have w : (sl.plain s).k.skips sl.pos = false := by
    have e : (sl.plain s).k.skip = 0 := q.whole
    simp [Core.skips, e]
  unfold Slot.active
  rw [w, Ctx.pr_landed (x := sl.plain s) q.landed]
  simpa [Core.proves, Slot.plain] using h
theorem Ready.isActive {s : State} {g : Guard} (r : Ready s g) {sl : Slot} (h : sl.guard = g) : sl.active (sl.plain s) = true :=
  r.toQuiet.isActive (h ▸ r.active)
theorem Tending.isActive {s : State} {g : Guard} (r : Tending s g) {sl : Slot} (h : sl.guard = g) : sl.active (sl.plain s) = true :=
  r.toQuiet.isActive (h ▸ r.active)

/-- A clear slot of the main pipeline issues. -/
theorem Ready.issues {s : State} {g : Guard} (r : Ready s g) {sl : Slot} (h : sl.guard = g) (p : sl.priv = false) (c : sl.Clear s) :
    issueOne none sl s = .next (sl.issued s) :=
  issueOne_clear r.toQuiet c (r.isActive h) (.inl ⟨r.main, p⟩)
/-- A clear slot of the tender issues. -/
theorem Tending.issues {s : State} {g : Guard} (r : Tending s g) {sl : Slot} (h : sl.guard = g) (p : sl.pos = 0 ∨ sl.pos = 7)
    (t : sl.tenderOk = true) (c : sl.Clear s) : issueOne none sl s = .next (sl.issued s) :=
  issueOne_clear r.toQuiet c (r.isActive h) (.inr ⟨r.tender, p, t⟩)

/-- A slot without queue operands has its queues ready. -/
theorem queuesReady_nil (s : State) : QueuesReady s [] [] where
  allotted := by simp
  popped := by simp
  pushed := by simp
  peeked := rfl
  landed := by simp [resolveQ]
  clean := by simp [resolveQ]

end Sys2Proof.Machine
end

