-- ==== Sys2Proof/Laws/Commit.lean ====
section
/-! SUPPORT. The commit of a bundle of the main pipeline (R56, R185, R308, R316, R350, R370): what it changes of a core, once. -/

namespace Sys2Proof.Machine

open Sys2Proof

theorem fmtEffect_undue {k : Core} (h : ∀ e ∈ k.fmtPend, e.2 ≠ 0) : k.fmtEffect = k := by
  have h1 : k.fmtPend.filter (fun e => decide (e.2 ≤ 0)) = [] := by
    rw [List.filter_eq_nil_iff]; intro e m; simp [h e m]
  have h2 : k.fmtPend.filter (fun e => decide (0 < e.2)) = k.fmtPend := by
    rw [List.filter_eq_self]; intro e m; simp [Nat.pos_of_ne_zero (h e m)]
  unfold Core.fmtEffect
  simp only [h1, h2, List.foldl_nil]

theorem ntLand_undue {k : Core} (h : ∀ e ∈ k.nt, e.left ≠ 0) : k.ntLand = k := by
  have h1 : k.nt.filter (fun e => decide (e.left = 0)) = [] := by
    rw [List.filter_eq_nil_iff]; intro e m; simp [h e m]
  have h2 : k.nt.filter (fun e => decide (e.left ≠ 0)) = k.nt := by
    rw [List.filter_eq_self]; intro e m; simp [h e m]
  unfold Core.ntLand
  simp only [h1, h2, List.foldl_nil]

theorem preemptMark_pend (k : Core) (b : Bool) : k.preemptMark b = { k with pend := (k.preemptMark b).pend } := by
  unfold Core.preemptMark; split <;> rfl

theorem breakDone_none {k : Core} (h : k.csrGet Csr.BFCAUSE = 0) : k.breakDone = k := by
  unfold Core.breakDone; simp [h]

/-- The segment's count and signature replaced (R370). -/
def Core.setSegment (k : Core) (sg : Nat × BitVec 32) : Core :=
  { k with contain := { k.contain with segCount := sg.1, segSig := sg.2 } }

theorem segmentFeed_contain (k : Core) : ∃ sg, k.segmentFeed = k.setSegment sg := by
  unfold Core.segmentFeed
  split
  · exact ⟨(k.contain.segCount, k.contain.segSig), rfl⟩
  · exact ⟨((k.contain.segCount + 1) % 2 ^ 32, segFeed k.contain.segSig k.ir.header (Map.find k.ir.words 7)), rfl⟩

theorem segmentEnd_pend (k : Core) (e : Option Nat) : ∃ sg pend, k.segmentEnd e = { k.setSegment sg with pend := pend } := by
  unfold Core.segmentEnd
  split
  · exact ⟨(0, 0xFFFFFFFF#32), { k.pend with segCheck := e, segPc := k.ir.cp }, rfl⟩
  · exact ⟨(k.contain.segCount, k.contain.segSig), k.pend, rfl⟩

/-- Freeing orphans leaves the demands that a core owes. -/
theorem freeOrphans_owed (n : Nat) (k : Core) : (Core.freeOrphans n k).berth.owed = k.berth.owed := by
  induction n generalizing k with
  | zero => rfl
  | succ n ih => unfold Core.freeOrphans; split <;> simp [ih]

/-- With no demand owed nothing is reported. -/
theorem reportDemands_none {s : State} {c : Nat} {k : Core} (h : ((s.setCore c k).core c).berth.owed = []) :
    (s.setCore c k).reportDemands c = s.setCore c k := by
  simp only [State.setCore_core_same] at h
  unfold State.reportDemands
  simp only [State.setCore_core_same, h, List.foldl_nil, State.onCore, State.setCore_setCore]
  congr 1
  rw [← h]

/-- What a commit leaves of core `k`, apart from what R350, R370 and R371 keep. -/
def Core.committed (k : Core) (target : Option Word64) (pend : Pending) (sg : Nat × BitVec 32) : Core :=
  { (k.commitMain target).setSegment sg with
    berth := { k.berth with als := k.berth.als + BitVec.ofNat 16 k.berth.aliased.length, aliased := [] }, pend := pend }

/-- A core whose commit has no format image, tile index or break to see to, and no demand to report. -/
structure Core.Plain (k : Core) : Prop where
  main : k.level = 0
  formats : ∀ e ∈ k.fmtPend, 2 ≤ e.2
  tiles : ∀ e ∈ k.nt, 2 ≤ e.left
  breaks : k.csrGet Csr.BFCAUSE = 0
  owed : k.berth.owed = []

/-- The core before the berth table is looked at. -/
theorem commit_plain {s : State} {c : Nat} (h : (s.core c).Plain) (target : Option Word64) : ∃ pend sg,
    s.commit c target = s.setCore c (if (s.core c).berth.nodes.isEmpty then (s.core c).committed target pend sg
      else Core.freeOrphans 256 ((s.core c).committed target pend sg)) := by
  have e1 : ((s.core c).commitMain target).fmtEffect = (s.core c).commitMain target := by
    refine fmtEffect_undue ?_
    intro e m
    simp only [Core.commitMain, List.mem_map] at m
    obtain ⟨a, ha, rfl⟩ := m
    have := h.formats a ha
    simp only; omega
  have e2 : ((s.core c).commitMain target).ntLand = (s.core c).commitMain target := by
    refine ntLand_undue ?_
    intro e m
    simp only [Core.commitMain, List.mem_map] at m
    obtain ⟨a, ha, rfl⟩ := m
    have := h.tiles a ha
    simp only; omega
  unfold State.commit
  simp only [h.main, ne_eq, not_true, if_false, e1, e2]
  generalize s.cutting ((s.core c).commitMain target) = b
  have e3 := preemptMark_pend ((s.core c).commitMain target) b
  generalize (((s.core c).commitMain target).preemptMark b).pend = p1 at e3
  rw [e3]
  have e4 : (({ (s.core c).commitMain target with pend := p1 } : Core).aliasCount).breakDone =
      ({ (s.core c).commitMain target with pend := p1 } : Core).aliasCount := breakDone_none h.breaks
  rw [e4]
  obtain ⟨g1, e5⟩ := segmentFeed_contain ({ (s.core c).commitMain target with pend := p1 } : Core).aliasCount
  rw [e5]
  generalize s.segmentKind c _ = kind
  obtain ⟨g2, p2, e6⟩ := segmentEnd_pend (({ (s.core c).commitMain target with pend := p1 } : Core).aliasCount.setSegment g1) kind
  rw [e6]
  refine ⟨p2, g2, reportDemands_none ?_⟩
  rw [State.setCore_core_same]
  split
  · exact h.owed
  · rw [freeOrphans_owed]; exact h.owed

/-- Cores that agree in everything that a frame speaks of. -/
structure Core.Alike (k k' : Core) : Prop where
  regs : k'.regs = k.regs
  csr : k'.csr = k.csr
  scratch : k'.scratch = k.scratch ∧ k'.junk = k.junk
  engines : k'.e0 = k.e0 ∧ k'.e1 = k.e1
  matrix : k'.passes = k.passes ∧ k'.mstores = k.mstores
  blocks : k'.blocks = k.blocks
  berth : k'.berth.nodes = k.berth.nodes ∧ k'.berth.cache = k.berth.cache ∧ k'.berth.demand = k.berth.demand
  notice : k'.notice = k.notice
  regions : k'.contain.regions = k.contain.regions ∧ k'.contain.cause = k.contain.cause ∧ k'.contain.addr = k.contain.addr ∧
    k'.contain.pc = k.contain.pc
  level : k'.level = k.level
  task : k'.task = k.task
  clock : k'.ltime = k.ltime

/-- What the commit of a bundle leaves of core `k` when no node stands in its berth table (R308). -/
structure Core.Commits (k k' : Core) (target : Option Word64) : Prop where
  alike : k.Alike k'
  windows : k'.windows = k.windows
  pc : (if k.level = 0 then k'.main else k'.tender).pc = target.getD k.ir.next

/-- The commit of a core without berth nodes, in either pipeline. -/
theorem commit_noNodes {s : State} {c : Nat} (h : (s.core c).Plain ∨ (s.core c).level ≠ 0) (n : (s.core c).berth.nodes = [])
    (target : Option Word64) : ∃ k', s.commit c target = s.setCore c k' ∧ (s.core c).Commits k' target := by
  rcases h with h | h
  · obtain ⟨p, q, e⟩ := commit_plain h target
    rw [if_pos (by simp [n])] at e
    refine ⟨_, e, ⟨⟨rfl, rfl, ⟨rfl, rfl⟩, ⟨rfl, rfl⟩, ⟨rfl, rfl⟩, rfl, ⟨rfl, rfl, rfl⟩, rfl, ⟨rfl, rfl, rfl, rfl⟩, rfl, rfl, rfl⟩, rfl, ?_⟩⟩
    rw [if_pos h.main]; rfl
  · refine ⟨((s.core c).commitTender target).aliasCount, by unfold State.commit; simp [h], ⟨⟨rfl, rfl, ⟨rfl, rfl⟩, ⟨rfl, rfl⟩, ⟨rfl, rfl⟩, rfl, ⟨rfl, rfl, rfl⟩, rfl,
      ⟨rfl, rfl, rfl, rfl⟩, rfl, rfl, rfl⟩, rfl, ?_⟩⟩
    rw [if_neg h]; rfl

end Sys2Proof.Machine
end

