-- ==== Sys2Proof/Laws/Slots.lean ====
section
/-! SUPPORT. What the slots of one shape do when they issue with nothing in their way: a scalar result, a predicate result, a push. -/

namespace Sys2Proof.Machine

open Sys2Proof

/-! ### Frames -/

theorem CoreKept.refl (k : Core) (w : Writes) : CoreKept k k w where
  scalar _ _ := ⟨rfl, rfl⟩
  predicate _ _ := rfl
  descriptor _ _ := ⟨rfl, rfl⟩
  ring _ _ := rfl
  accumulator _ _ _ _ := ⟨rfl, rfl⟩
  semaphore _ _ := rfl
  queue _ _ := rfl
  cell _ _ := rfl
  csr _ _ := rfl
  scratch _ _ := rfl
  engines _ := ⟨rfl, rfl⟩
  matrix _ := ⟨rfl, rfl⟩
  blocks _ := rfl
  berth _ := ⟨rfl, rfl, rfl⟩
  notice _ := rfl
  regions _ := ⟨rfl, rfl, rfl, rfl⟩
  level _ := rfl
  task _ := rfl
  clock _ := rfl

/-- A frame carries over to such a core. -/
theorem CoreKept.congr {k k' k'' : Core} {w : Writes} (h : CoreKept k k' w) (a : k'.Alike k'') : CoreKept k k'' w where
  scalar n m := by have := h.scalar n m; unfold Core.s Core.sBad at *; rw [a.regs]; exact this
  predicate n m := by have := h.predicate n m; unfold Core.p at *; rw [a.regs]; exact this
  descriptor n m := by have := h.descriptor n m; unfold Core.d at *; rw [a.regs]; exact this
  ring n m := by have := h.ring n m; unfold Core.g at *; rw [a.regs]; exact this
  accumulator x y lt m := by have := h.accumulator x y lt m; unfold Core.row Core.rowBad at *; rw [a.regs]; exact this
  semaphore n m := by have := h.semaphore n m; unfold Core.w at *; rw [a.regs]; exact this
  queue n m := by have := h.queue n m; unfold Core.q at *; rw [a.regs]; exact this
  cell n m := by have := h.cell n m; rw [a.regs]; exact this
  csr n m := by have := h.csr n m; unfold Core.csrGet at *; rw [a.csr]; exact this
  scratch o m := by have := h.scratch o m; unfold Core.sp Core.junkAt at *; rw [a.scratch.1, a.scratch.2]; exact this
  engines m := by rw [a.engines.1, a.engines.2]; exact h.engines m
  matrix m := by rw [a.matrix.1, a.matrix.2]; exact h.matrix m
  blocks m := a.blocks.trans (h.blocks m)
  berth m := by rw [a.berth.1, a.berth.2.1, a.berth.2.2]; exact h.berth m
  notice m := a.notice.trans (h.notice m)
  regions m := by rw [a.regions.1, a.regions.2.1, a.regions.2.2.1, a.regions.2.2.2]; exact h.regions m
  level m := a.level.trans (h.level m)
  task m := a.task.trans (h.task m)
  clock m := a.clock.trans (h.clock m)

/-- A result's window changes nothing that a frame speaks of. -/
theorem Core.alike_addWindow (k : Core) (clk : Nat) (r : RegName) (b : Nat) (fl : Flags) : k.Alike (k.addWindow clk r b fl) where
  regs := rfl
  csr := rfl
  scratch := ⟨rfl, rfl⟩
  engines := ⟨rfl, rfl⟩
  matrix := ⟨rfl, rfl⟩
  blocks := rfl
  berth := ⟨rfl, rfl, rfl⟩
  notice := rfl
  regions := ⟨rfl, rfl, rfl, rfl⟩
  level := rfl
  task := rfl
  clock := rfl

/-- Frames one after the other: the whole may write what either may. -/
theorem CoreKept.trans {k k' k'' : Core} {v w : Writes} (h : CoreKept k k' v) (g : CoreKept k' k'' w) (r : ∀ x, x ∉ w.regs → x ∉ v.regs)
    (se : ∀ x, x ∉ w.sems → x ∉ v.sems) (q : ∀ x, x ∉ w.queues → x ∉ v.queues) (ce : ∀ x, x ∉ w.cells → x ∉ v.cells)
    (cs : ∀ x, x ∉ w.csrs → x ∉ v.csrs) (sp : ∀ o, ¬ w.spad o → ¬ v.spad o) (pt : ∀ x, x ∉ w.parts → x ∉ v.parts) :
    CoreKept k k'' w where
  scalar n m := by
    have a := h.scalar n (m.imp id (r _)); have b := g.scalar n m
    exact ⟨b.1.trans a.1, b.2.trans a.2⟩
  predicate n m := (g.predicate n m).trans (h.predicate n (m.imp id (r _)))
  descriptor n m := by
    have a := h.descriptor n (r _ m); have b := g.descriptor n m
    exact ⟨b.1.trans a.1, b.2.trans a.2⟩
  ring n m := (g.ring n m).trans (h.ring n (r _ m))
  accumulator x y lt m := by
    have a := h.accumulator x y lt (r _ m); have b := g.accumulator x y lt m
    exact ⟨b.1.trans a.1, b.2.trans a.2⟩
  semaphore n m := (g.semaphore n m).trans (h.semaphore n (se _ m))
  queue n m := (g.queue n m).trans (h.queue n (q _ m))
  cell n m := (g.cell n m).trans (h.cell n (ce _ m))
  csr n m := (g.csr n m).trans (h.csr n (cs _ m))
  scratch o m := (g.scratch o m).trans (h.scratch o (sp o m))
  engines m := ⟨(g.engines m).1.trans (h.engines (pt _ m)).1, (g.engines m).2.trans (h.engines (pt _ m)).2⟩
  matrix m := ⟨(g.matrix m).1.trans (h.matrix (pt _ m)).1, (g.matrix m).2.trans (h.matrix (pt _ m)).2⟩
  blocks m := (g.blocks m).trans (h.blocks (pt _ m))
  berth m := ⟨(g.berth m).1.trans (h.berth (pt _ m)).1, (g.berth m).2.1.trans (h.berth (pt _ m)).2.1,
    (g.berth m).2.2.trans (h.berth (pt _ m)).2.2⟩
  notice m := (g.notice m).trans (h.notice (pt _ m))
  regions m := ⟨(g.regions m).1.trans (h.regions (pt _ m)).1, (g.regions m).2.1.trans (h.regions (pt _ m)).2.1,
    (g.regions m).2.2.1.trans (h.regions (pt _ m)).2.2.1, (g.regions m).2.2.2.trans (h.regions (pt _ m)).2.2.2⟩
  level m := (g.level m).trans (h.level (pt _ m))
  task m := (g.task m).trans (h.task (pt _ m))
  clock m := (g.clock m).trans (h.clock (pt _ m))

/-- A step that replaces the core whose turn it is and draws free values leaves the rest of the module as it was. -/
theorem moduleKept_setCore (s : State) (k : Core) (n : Nat) (w : Writes) : ModuleKept s ((s.setCore s.turn k).drew n) w where
  byte _ _ := rfl
  ctl _ _ := rfl
  others c h := by rw [State.drew_core, State.setCore_core_ne _ _ h]
  poison := ⟨rfl, rfl⟩
  owned _ := rfl
  slices _ := ⟨rfl, rfl⟩
  graphs _ := ⟨rfl, rfl⟩
  queues _ := rfl
  sent _ := ⟨rfl, rfl⟩
  time := ⟨rfl, rfl, rfl⟩

/-! ### Slots whose effect is on their core alone -/

/-- The S slot may issue in either pipeline (R349). -/
theorem Issuing.quiet {s : State} {g : Guard} (i : Ready s g ∨ Tending s g) : Quiet s := i.elim (·.toQuiet) (·.toQuiet)

/-- A clear slot of the main pipeline, or one that the tender accepts, issues. -/
theorem Issuing.issues {s : State} {g : Guard} {sl : Slot} (i : Ready s g ∧ sl.priv = false ∨ Tending s g ∧ (sl.pos = 0 ∨ sl.pos = 7) ∧
    sl.tenderOk = true) (h : sl.guard = g) (c : sl.Clear s) : issueOne none sl s = .next (sl.issued s) :=
  i.elim (fun r => r.1.issues h r.2 c) (fun t => t.1.issues h t.2.1 t.2.2 c)

/-- A core that agrees with a quiet core in what its commit looks at commits plainly. -/
theorem Quiet.plain {s : State} (q : Quiet s) {k : Core} (l : k.level = (s.core s.turn).level) (f : k.fmtPend = (s.core s.turn).fmtPend)
    (n : k.nt = (s.core s.turn).nt) (c : k.csrGet Csr.BFCAUSE = (s.core s.turn).csrGet Csr.BFCAUSE)
    (o : k.berth.owed = (s.core s.turn).berth.owed) : k.Plain ∨ k.level ≠ 0 := by
  by_cases m : (s.core s.turn).level = 0
  · left
    exact { main := l.trans m, formats := by rw [f, q.formats]; simp, tiles := by rw [n, q.tiles]; simp, breaks := c.trans q.breaks, owed := o.trans q.owed }
  · right; rw [l]; exact m

/-- What a clear slot does whose effect `f` is on its core alone: it completes, the core is what `f` leaves after the pops and the
commit, and the frame is that of `f`. -/
theorem coreSlot_done {s : State} {g : Guard} {sl : Slot} {f : Core → Core} {w : Writes} (i : Ready s g ∧ sl.priv = false ∨
    Tending s g ∧ (sl.pos = 0 ∨ sl.pos = 7) ∧ sl.tenderOk = true) (hg : sl.guard = g) (hc : sl.Clear s)
    (run : ∀ t, sl.run (sl.alone s) t = t.onCore s.turn f) (store : ∀ t, sl.store (sl.alone s) t = t)
    (last : ∀ t, sl.last (sl.alone s) t = t) (flow : sl.flow (sl.alone s) = none)
    (kept : CoreKept (s.core s.turn) (f (popAll (s.core s.turn) sl.qs)) w) (level : .level ∉ w.parts)
    (plain : (f (popAll (s.core s.turn) sl.qs)).Plain ∨ (f (popAll (s.core s.turn) sl.qs)).level ≠ 0)
    (nodes : (f (popAll (s.core s.turn) sl.qs)).berth.nodes = []) (ir : (f (popAll (s.core s.turn) sl.qs)).ir = (s.core s.turn).ir) :
    ∃ t, issueOne none sl s = .next t ∧ (f (popAll (s.core s.turn) sl.qs)).Commits (t.core s.turn) none ∧ Frame s t w := by
  refine ⟨_, Issuing.issues i hg hc, ?_⟩
  unfold Slot.issued
  simp only [run, store, last, flow, State.onCore, State.setCore_core_same, State.setCore_setCore]
  have kl := kept.level level
  generalize hk : f (popAll (s.core s.turn) sl.qs) = k at *
  have e : (s.setCore s.turn k).core s.turn = k := State.setCore_core_same _ _ _
  obtain ⟨k', h, cm⟩ := commit_noNodes (s := s.setCore s.turn k) (c := s.turn) (by rw [e]; exact plain) (by rw [e]; exact nodes) none
  rw [h, State.setCore_setCore]
  rw [e] at cm
  have ek : ((s.setCore s.turn k').drew 5120).core s.turn = k' := by rw [State.drew_core, State.setCore_core_same]
  rw [ek]
  refine ⟨cm, ⟨?_, moduleKept_setCore s _ _ _, ?_⟩⟩
  · rw [ek]; exact kept.congr cm.alike
  · unfold PassedTo; rw [ek, ← kl, ← ir]; exact cm.pc

/-! ### A scalar result (R66, R68, R93) -/

theorem setS_poison_clear {k : Core} (n : SReg) (v : Word64) : CoreKept k ((k.setS n v).setSBad n false) { regs := [.s n.toNat] } where
  scalar j m := by
    by_cases h0 : n = 0
    · subst h0; exact ⟨rfl, rfl⟩
    · have hj : j ≠ n := by
        rcases m with m | m
        · rintro rfl; exact h0 m
        · rintro rfl; simp at m
      refine ⟨by simp [Core.setS_s_ne _ _ hj], ?_⟩
      have e : ¬(n.toNat ≤ j.toNat ∧ j.toNat < n.toNat + 1) := fun e => hj (BitVec.eq_of_toNat_eq (by omega))
      have lj := j.isLt
      simp only [Core.sBad, Core.setSBad, if_neg h0, BitVec.getLsbD_ofNat, testBit_setField, if_neg e, Core.setS_regs_sPoison]
      simp [lj, BitVec.getLsbD]
  predicate _ _ := by simp
  descriptor _ _ := by simp
  ring _ _ := by simp
  accumulator _ _ _ _ := by simp [Core.rowBad]
  semaphore _ _ := by simp
  queue _ _ := by simp
  cell _ _ := by simp
  csr _ _ := by simp
  scratch _ _ := by simp
  engines _ := by simp
  matrix _ := by simp
  blocks _ := by simp
  berth _ := by simp
  notice _ := by simp
  regions _ := by simp
  level _ := by simp
  task _ := by simp
  clock _ := by simp

/-- A scalar result on a core with nothing in flight. -/
theorem resultS_landed {k : Core} (h : k.windows = []) (clk b : Nat) (n : SReg) (v : Word64) (fl : Flags) (pick : Nat) :
    k.resultS clk b n v false fl pick = if n = 0 then (if fl = 0 then k else k.addWindow clk (.p 0) b fl)
      else ((k.setS n v).setSBad n false).addWindow clk (.s n.toNat) b fl := by
  unfold Core.resultS
  split
  · rfl
  · have e : k.supersede (.s n.toNat) = k := by unfold Core.supersede; rw [h]; simp; rw [← h]
    simp only [Core.inFlight, h, List.any_nil, Bool.false_and, Bool.false_eq_true, if_false, e]

/-- Queues whose entries carry no flags leave none. -/
theorem takeQueueFlags_none {k : Core} (h : ∀ n : QReg, ∀ e ∈ k.q n, e.flags = 0) (c : Nat) : k.takeQueueFlags c = k := by
  have inner : ∀ l : List QEntry, (∀ e ∈ l, e.flags = 0) → ∀ f : Flags, l.foldl (fun f e => if e.isIn c then f ||| e.flags else f) f = f := by
    intro l
    induction l with
    | nil => intro _ f; rfl
    | cons e l ih =>
      intro hl f
      rw [List.foldl_cons, hl e (by simp), ih (fun x m => hl x (by simp [m]))]
      simp
  have outer : ∀ l : List Nat, l.foldl (fun (f : Flags) n => (k.q (BitVec.ofNat 6 n)).foldl (fun f e => if e.isIn c then f ||| e.flags else f) f) 0 = 0 := by
    intro l
    induction l with
    | nil => rfl
    | cons n l ih => rw [List.foldl_cons, inner _ (h _)]; exact ih
  have e : k.queueFlags c = 0 := outer _
  unfold Core.takeQueueFlags
  simp only [e, if_true]

theorem settleWindows_q (k : Core) (c : Nat) (n : QReg) : (k.settleWindows c).q n = k.q n := by
  unfold Core.settleWindows; simp only; split <;> rfl

/-- A core whose queues carry no flags settles by its windows alone. -/
theorem settle_windows {k : Core} (h : ∀ n : QReg, ∀ e ∈ k.q n, e.flags = 0) (c : Nat) : k.settle c = k.settleWindows c := by
  unfold Core.settle
  exact takeQueueFlags_none (fun n e m => h n e (settleWindows_q k c n ▸ m)) c

/-- Flags of one window that closes at `c` (R93). -/
theorem settle_one {k : Core} {w : Window} {c : Nat} (q : ∀ n : QReg, ∀ e ∈ k.q n, e.flags = 0) (h : k.windows = [w]) (l : w.late = false)
    (la : w.landed = false) (d : w.due ≤ c) :
    (k.settle c).csrGet Csr.FFLAGS = k.csrGet Csr.FFLAGS ||| w.flags.zeroExtend 64 := by
  have o : w.opens c = false := by unfold Window.opens; rw [l, la]; simp; omega
  rw [settle_windows q]
  unfold Core.settleWindows
  simp only [h, List.filter_cons, l, Bool.not_false, Bool.true_and, d, decide_true, if_true, List.filter_nil, o, List.foldl_cons, List.foldl_nil]
  rw [if_neg (by simp)]
  simp only [Core.orFlags, Core.csrPut_csrGet_same]
  have z : (0 : Flags) ||| w.flags = w.flags := BitVec.zero_or
  rw [z]; rfl

/-- Nothing in flight leaves no flag behind. -/
theorem settle_none {k : Core} {c : Nat} (q : ∀ n : QReg, ∀ e ∈ k.q n, e.flags = 0) (h : k.windows = []) :
    (k.settle c).csrGet Csr.FFLAGS = k.csrGet Csr.FFLAGS ||| 0 := by
  rw [settle_windows q]
  unfold Core.settleWindows
  simp only [h, List.filter_nil, List.foldl_nil]
  rw [if_pos (by simp)]
  have z : k.csrGet Csr.FFLAGS ||| 0 = k.csrGet Csr.FFLAGS := BitVec.or_zero
  rw [z]; rfl

/-- What a scalar result leaves, with nothing in flight before. -/
theorem resultS_kept {k : Core} (h : k.windows = []) (clk b : Nat) (n : SReg) (v : Word64) (fl : Flags) (pick : Nat) :
    CoreKept k (k.resultS clk b n v false fl pick) { regs := [.s n.toNat] } := by
  rw [resultS_landed h]
  split
  · split
    · exact CoreKept.refl _ _
    · exact (CoreKept.refl _ _).congr (Core.alike_addWindow ..)
  · exact (setS_poison_clear n v).congr (Core.alike_addWindow ..)

/-- The windows of a scalar result, with nothing in flight before. -/
theorem resultS_windows {k : Core} (h : k.windows = []) (clk b : Nat) (n : SReg) (v : Word64) (fl : Flags) (pick : Nat) :
    (k.resultS clk b n v false fl pick).windows =
      if n = 0 ∧ fl = 0 then [] else [{ reg := if n = 0 then .p 0 else .s n.toNat, due := clk + b, flags := fl }] := by
  rw [resultS_landed h]
  by_cases h0 : n = 0
  · by_cases hf : fl = 0
    · simp only [h0, hf, if_true, and_self, h]
    · simp only [h0, hf, if_true, if_false, and_false]
      unfold Core.addWindow; rw [h]
  · simp only [h0, if_false, false_and]
    unfold Core.addWindow
    simp [h]

/-- The flags that a scalar result leaves when it has landed. -/
theorem settle_result {k : Core} {r : RegName} {c : Nat} {fl : Flags} {b : Bool} (q : ∀ n : QReg, ∀ e ∈ k.q n, e.flags = 0)
    (h : k.windows = if b = true ∧ fl = 0 then [] else [{ reg := r, due := c, flags := fl }]) :
    (k.settle c).csrGet Csr.FFLAGS = k.csrGet Csr.FFLAGS ||| fl.zeroExtend 64 := by
  by_cases e : b = true ∧ fl = 0
  · rw [if_pos e] at h
    rw [settle_none q h, e.2]; rfl
  · rw [if_neg e] at h
    exact settle_one q h rfl rfl (Nat.le_refl _)

/-- A slot whose effect is one scalar result (R66, R93): the result in its register with its bound, and nothing else. -/
theorem scalarDone_of {s : State} {g : Guard} {sl : Slot} {d : SReg} {v : Word64} {fl : Flags} {bound pick : Nat}
    (i : Ready s g ∧ sl.priv = false ∨ Tending s g ∧ (sl.pos = 0 ∨ sl.pos = 7) ∧ sl.tenderOk = true)
    (hg : sl.guard = g) (hc : sl.Clear s) (hq : sl.qs = [])
    (run : ∀ t, sl.run (sl.alone s) t = t.onCore s.turn fun k => k.resultS s.clk bound d v false fl pick)
    (store : ∀ t, sl.store (sl.alone s) t = t) (last : ∀ t, sl.last (sl.alone s) t = t) (flow : sl.flow (sl.alone s) = none) :
    ∃ t, issueOne none sl s = .next t ∧ ScalarDone s t [] d v bound fl := by
  have qt : Quiet s := i.elim (·.1.toQuiet) (·.1.toQuiet)
  have hw := resultS_windows qt.landed s.clk bound d v fl pick
  have hk := resultS_kept qt.landed s.clk bound d v fl pick
  have hf : ((s.core s.turn).resultS s.clk bound d v false fl pick).fmtPend = (s.core s.turn).fmtPend ∧
      ((s.core s.turn).resultS s.clk bound d v false fl pick).nt = (s.core s.turn).nt ∧
      ((s.core s.turn).resultS s.clk bound d v false fl pick).berth = (s.core s.turn).berth ∧
      ((s.core s.turn).resultS s.clk bound d v false fl pick).ir = (s.core s.turn).ir := by
    rw [resultS_landed qt.landed]
    split
    · split <;> exact ⟨rfl, rfl, rfl, rfl⟩
    · simp
  have hv : d ≠ 0 → ((s.core s.turn).resultS s.clk bound d v false fl pick).s d = v := by
    intro h0
    rw [resultS_landed qt.landed, if_neg h0, Core.addWindow_s, Core.setSBad_s, Core.setS_s_same _ _ h0]
  have hpop : popAll (s.core s.turn) sl.qs = s.core s.turn := by rw [hq]; rfl
  obtain ⟨t, ht, cm, fr⟩ := coreSlot_done (f := fun k => k.resultS s.clk bound d v false fl pick) (w := { regs := [.s d.toNat] }) i hg hc run store last
    flow (by rw [hpop]; exact hk) (by simp) (by rw [hpop]; exact qt.plain (hk.level (by simp)) hf.1 hf.2.1 (hk.csr _ (by simp)) (congrArg Berth.owed hf.2.2.1))
    (by rw [hpop, hf.2.2.1]; exact qt.nodes) (by rw [hpop]; exact hf.2.2.2)
  rw [hpop] at cm
  generalize (s.core s.turn).resultS s.clk bound d v false fl pick = k' at hw hk hf hv cm
  refine ⟨t, ht, ⟨⟨?_, ?_, ?_⟩, ?_, ?_, fr⟩⟩
  · intro h0; unfold Core.s; rw [cm.alike.regs]; exact hv h0
  · rintro rfl; rfl
  · intro n c hn
    unfold Core.inFlight
    rw [cm.windows, hw]
    by_cases h0 : d = 0
    · subst h0
      by_cases hfl : fl = 0
      · rw [if_pos ⟨rfl, hfl⟩]; simp; exact fun h => absurd h hn
      · rw [if_neg (fun h => hfl h.2), if_pos rfl]; simp; exact fun h => absurd h hn
    · by_cases hd : n = d
      · subst hd
        have e0 : ¬(n = 0 ∧ fl = 0) := fun h => h0 h.1
        rw [if_neg e0, if_neg h0]
        simp [Window.opens]
      · have e0 : ¬(d = 0 ∧ fl = 0) := fun h => h0 h.1
        have e1 : ¬(d.toNat = n.toNat) := fun h => hd (BitVec.eq_of_toNat_eq h.symm)
        rw [if_neg e0, if_neg h0]
        simp [hd, e1]
  · have := settle_result (k := t.core s.turn) (r := if d = 0 then .p 0 else .s d.toNat) (c := s.clk + bound) (fl := fl)
      (b := decide (d = 0)) (fun n e m => qt.flagless n e (fr.core.queue n (by simp) ▸ m)) (by rw [cm.windows, hw]; simp)
    unfold FlagsIn FlagsAt
    rw [this, fr.core.csr _ (by simp)]
  · intro n; rw [fr.core.queue n (by simp)]; rfl

/-- A scalar slot without checks or claims of its own is clear in a quiet state. -/
theorem scalarSlot_clear {s : State} (q : Quiet s) (g : Guard) (d : SReg) (srcs : List SReg) (b : Nat) (more : List RegName)
    (f : Ctx → Word64 × Flags) : (scalarSlot g d srcs b more f).Clear s where
  queues := queuesReady_nil s
  check := rfl
  claims := by intro q m; cases m
  eats := eats_clean q.clean _
  wait := rfl

/-- What a scalar slot does (R66, R93), in either pipeline. -/
theorem scalarSlot_done {s : State} {g : Guard} (i : Ready s g ∨ Tending s g) (d : SReg) (srcs : List SReg) (b : Nat)
    (more : List RegName) (f : Ctx → Word64 × Flags) : ∃ t, issueOne none (scalarSlot g d srcs b more f) s = .next t ∧
      ScalarDone s t [] d (f ((scalarSlot g d srcs b more f).alone s)).1 b (f ((scalarSlot g d srcs b more f).alone s)).2 :=
  scalarDone_of (sl := scalarSlot g d srcs b more f) (i.imp (⟨·, rfl⟩) (⟨·, .inl rfl, rfl⟩)) rfl
    (scalarSlot_clear (Issuing.quiet i) ..) rfl (fun _ => rfl) (fun _ => rfl) (fun _ => rfl) rfl

end Sys2Proof.Machine
end

