-- ==== Sys2Proof/Tests/Slice0.lean ====
section
/-! SUPPORT. Tests of the model: what is ill formed, words written out from the spec's encodings, single steps, and a witness for the
hypotheses of each statement. -/

namespace Sys2Proof.Tests

set_option Elab.async false

open Sys2Proof Sys2Proof.Machine

/-- The guard of a slot without one (R34). -/
abbrev g : Guard := ⟨false, 0⟩

/-! ### Decoding -/

/-- The slot word of the fields of R60. -/
def word (opc : BitVec 8) (pn : BitVec 1) (pred dst sa sb : BitVec 6) (mod : BitVec 11) : BitVec 44 := opc ++ pn ++ pred ++ dst ++ sa ++ sb ++ mod

/-- A slot word at a position decodes to an instruction. -/
def decodes (e : Nat × BitVec 44 × Instr) : Bool := (decodeSlot e.1 (splitSlot e.2.1)).toOption = some e.2.2

/-- Words written out from R70, R188 to R190. -/
theorem test_decode_integer : [
    (0, word 0x01 0 0 3 1 2 0b00000000000, .add g 3 1 2),
    (0, word 0x02 0 0 3 1 2 0b00000000000, .sub g 3 1 2),
    (0, word 0x03 0 0 3 1 2 0b00000000000, .and g 3 1 2),
    (0, word 0x04 0 0 3 1 2 0b00000000000, .or g 3 1 2),
    (0, word 0x05 0 0 3 1 2 0b00000000000, .xor g 3 1 2),
    (0, word 0x06 0 0 3 1 2 0b00000000000, .shl g 3 1 2),
    (0, word 0x07 0 0 3 1 2 0b00000000000, .shrl g 3 1 2),
    (0, word 0x08 0 0 3 1 2 0b00000000000, .shra g 3 1 2),
    (0, word 0x09 0 0 3 1 2 0b00000000000, .min g 3 1 2),
    (0, word 0x0a 0 0 3 1 2 0b00000000000, .max g 3 1 2),
    (0, word 0x0b 0 0 3 1 2 0b00000000000, .minn g 3 1 2),
    (0, word 0x0c 0 0 3 1 2 0b00000000000, .maxn g 3 1 2),
    (0, word 0x0d 0 0 3 1 2 0b00000000000, .mul g 3 1 2),
    (0, word 0x0e 0 0 3 1 2 0b00000000000, .mulh g 3 1 2),
    (0, word 0x0f 0 0 3 1 2 0b00000000000, .mulhn g 3 1 2),
    (0, word 0x10 0 0 3 1 2 0b00000000000, .divs g 3 1 2),
    (0, word 0x11 0 0 3 1 2 0b00000000000, .divn g 3 1 2),
    (0, word 0x12 0 0 3 1 2 0b00000000000, .rems g 3 1 2),
    (0, word 0x13 0 0 3 1 2 0b00000000000, .remn g 3 1 2),
    (0, word 0x14 0 0 3 1 0 0b00000000000, .clz g 3 1),
    (0, word 0x15 0 0 3 1 0 0b00000000000, .ctz g 3 1),
    (0, word 0x16 0 0 3 1 0 0b00000000000, .popc g 3 1),
    (0, word 0x17 0 0 3 1 31 0b00000000000, .sext g 3 1 31),
    (0, word 0x18 0 0 3 1 31 0b00000000000, .zext g 3 1 31)].all decodes = true := by decide

/-- Words written out from R70, R191 to R195. -/
theorem test_decode_immediate : [
    (0, word 0x20 0 0 3 1 63 0b11111011000, .addi g 3 1 (-40)),
    (0, word 0x21 0 0 3 1 63 0b11111011000, .andi g 3 1 (-40)),
    (0, word 0x22 0 0 3 1 63 0b11111011000, .ori g 3 1 (-40)),
    (0, word 0x23 0 0 3 1 63 0b11111011000, .xori g 3 1 (-40)),
    (0, word 0x24 0 0 3 1 0 0b00000001001, .shli g 3 1 9),
    (0, word 0x25 0 0 3 1 0 0b00000001001, .shrli g 3 1 9),
    (0, word 0x26 0 0 3 1 0 0b00000001001, .shrai g 3 1 9),
    (0, word 0x28 0 0 5 0 63 0b11111111101, .limm g 5 (-3)),
    (0, word 0x29 0 0 5 2 8 0b10101100111, .limmh g 5 2 0x4567),
    (0, word 0x30 0 0 3 1 2 0b00000001010, .cmp g 3 1 2 true .lt),
    (0, word 0x31 0 0 3 1 2 0b00000000000, .pand g 3 1 2),
    (0, word 0x32 0 0 3 1 2 0b00000000000, .por g 3 1 2),
    (0, word 0x33 0 0 3 1 2 0b00000000000, .pxor g 3 1 2),
    (0, word 0x34 0 0 3 1 0 0b00000000000, .pnot g 3 1),
    (0, word 0x35 0 0 3 1 2 0b00000000100, .sel g 3 4 1 2)].all decodes = true := by decide

/-- Words written out from R70, R133, R201, R311. -/
theorem test_decode_memory : [
    (0, word 0x40 0 0 7 5 63 0b11111111000, .ldb g 7 5 (-8)),
    (0, word 0x41 0 0 7 5 63 0b11111111000, .ldbn g 7 5 (-8)),
    (0, word 0x42 0 0 7 5 63 0b11111111000, .ldh g 7 5 (-8)),
    (0, word 0x43 0 0 7 5 63 0b11111111000, .ldhn g 7 5 (-8)),
    (0, word 0x44 0 0 7 5 63 0b11111111000, .ldw g 7 5 (-8)),
    (0, word 0x45 0 0 7 5 63 0b11111111000, .ldwn g 7 5 (-8)),
    (0, word 0x46 0 0 7 5 63 0b11111111000, .ldd g 7 5 (-8)),
    (0, word 0x48 0 0 7 5 0 0b00001000000, .stb g 7 5 64),
    (0, word 0x49 0 0 7 5 0 0b00001000000, .sth g 7 5 64),
    (0, word 0x4a 0 0 7 5 0 0b00001000000, .stw g 7 5 64),
    (0, word 0x4b 0 0 7 5 0 0b00001000000, .std g 7 5 64),
    (0, word 0x78 0 0 4 0 0 0b00101000001, .csrr g 4 0x141),
    (0, word 0x79 0 0 0 6 0 0b00100000001, .csrw g 0x101 6),
    (0, word 0x7a 0 0 0 6 0 0b00100000001, .csrs g 0x101 6),
    (0, word 0x7b 0 0 0 6 0 0b00100000001, .csrc g 0x101 6),
    (0, word 0x7c 0 0 3 4 0 0b00000000000, .semadd g 3 4)].all decodes = true := by decide

/-- Words written out from R70, R196 to R200. -/
theorem test_decode_float : [
    (0, word 0x50 0 0 5 6 7 0b00000100100, .fadd g .f32 .rtz 5 6 7),
    (0, word 0x51 0 0 5 6 7 0b00000100100, .fsub g .f32 .rtz 5 6 7),
    (0, word 0x52 0 0 5 6 7 0b00000100100, .fmul g .f32 .rtz 5 6 7),
    (0, word 0x53 0 0 5 6 7 0b00000100100, .fma g .f32 .rtz 5 6 7),
    (0, word 0x54 0 0 5 6 7 0b00000100100, .fdiv g .f32 .rtz 5 6 7),
    (0, word 0x55 0 0 5 6 0 0b00000010000, .fsqrt g .f64 .sr 5 6),
    (0, word 0x56 0 0 5 6 7 0b00000100000, .fmin g .f32 5 6 7),
    (0, word 0x57 0 0 5 6 7 0b00000100000, .fmax g .f32 5 6 7),
    (0, word 0x58 0 0 5 6 7 0b00000100111, .fcmp g .f32 .ord 5 6 7),
    (0, word 0x59 0 0 5 6 1 0b00010101000, .fcvt g .int32 .f32 .rdn 5 6)].all decodes = true := by decide

/-- Words written out from R70, R274, R286. -/
theorem test_decode_atomic : [
    (0, word 0x60 0 0 2 5 8 0b00010110000, .aadd g .int32 .pkg 2 5 8),
    (0, word 0x61 0 0 2 5 8 0b00010110000, .aand g .int32 .pkg 2 5 8),
    (0, word 0x62 0 0 2 5 8 0b00010110000, .aor g .int32 .pkg 2 5 8),
    (0, word 0x63 0 0 2 5 8 0b00010110000, .axor g .int32 .pkg 2 5 8),
    (0, word 0x64 0 0 2 5 8 0b00010110000, .amin g .int32 .pkg 2 5 8),
    (0, word 0x65 0 0 2 5 8 0b00010110000, .amax g .int32 .pkg 2 5 8),
    (0, word 0x66 0 0 2 5 8 0b00010110000, .aswap g .int32 .pkg 2 5 8),
    (0, word 0x67 0 0 2 5 8 0b00010110000, .acas g .int32 .pkg 2 5 8),
    (0, word 0x68 0 0 2 5 7 0b00100001000, .aminn g .nat64 .die 2 5 7),
    (0, word 0x69 0 0 2 5 7 0b00100001000, .amaxn g .nat64 .die 2 5 7),
    (0, word 0x6a 0 0 2 5 7 0b00001000000, .afadd g .bf16 .core 2 5 7),
    (0, word 0x6b 0 0 2 5 7 0b00001000000, .afmin g .bf16 .core 2 5 7),
    (0, word 0x6c 0 0 2 5 7 0b00001000000, .afmax g .bf16 .core 2 5 7),
    (0, word 0x70 0 0 4 6 10 0b00010111000, .tcall g 5 .job 4 6 10)].all decodes = true := by decide

/-- Words written out from R71, R203 to R210. -/
theorem test_decode_vector : [
    (1, word 0x01 0 0 5 3 4 0b00001010001, .vadd g .bf16 .rtz 5 ⟨3, true⟩ ⟨4, false⟩),
    (1, word 0x02 0 0 5 3 4 0b00001010001, .vsub g .bf16 .rtz 5 ⟨3, true⟩ ⟨4, false⟩),
    (1, word 0x03 0 0 5 3 4 0b00001010001, .vmul g .bf16 .rtz 5 ⟨3, true⟩ ⟨4, false⟩),
    (1, word 0x04 0 0 5 3 4 0b00001010001, .vfma g .bf16 .rtz 5 ⟨3, true⟩ ⟨4, false⟩),
    (1, word 0x05 0 0 5 3 4 0b00001010001, .vfms g .bf16 .rtz 5 ⟨3, true⟩ ⟨4, false⟩),
    (1, word 0x06 0 0 5 3 4 0b00001010001, .vnfma g .bf16 .rtz 5 ⟨3, true⟩ ⟨4, false⟩),
    (1, word 0x07 0 0 5 3 4 0b00101010000, .vmin g .nat16 5 ⟨3, true⟩ ⟨4, false⟩),
    (1, word 0x08 0 0 5 3 4 0b00101010000, .vmax g .nat16 5 ⟨3, true⟩ ⟨4, false⟩),
    (1, word 0x09 0 0 5 3 0 0b00011010000, .vabs g .int16 5 ⟨3, true⟩),
    (1, word 0x0a 0 0 5 3 0 0b00011010000, .vneg g .int16 5 ⟨3, true⟩),
    (2, word 0x0b 0 0 37 35 36 0b00001110011, .vadif g .f16 .rup 37 ⟨35, true⟩ ⟨36, false⟩),
    (1, word 0x0c 0 0 5 3 4 0b00000110110, .vcmp g .f32 .un 5 ⟨3, true⟩ ⟨4, false⟩),
    (1, word 0x0d 0 0 5 3 4 0b00011110000, .vsel g .int8 5 ⟨3, true⟩ ⟨4, false⟩),
    (1, word 0x10 0 0 5 3 4 0b00000001000, .vand g 5 ⟨3, false⟩ ⟨4, true⟩),
    (1, word 0x11 0 0 5 3 4 0b00000001000, .vor g 5 ⟨3, false⟩ ⟨4, true⟩),
    (1, word 0x12 0 0 5 3 4 0b00000001000, .vxor g 5 ⟨3, false⟩ ⟨4, true⟩),
    (1, word 0x13 0 0 5 3 0 0b00000010000, .vnot g 5 ⟨3, true⟩),
    (1, word 0x14 0 0 5 3 4 0b00100100000, .vshl g .nat32 5 ⟨3, false⟩ ⟨4, false⟩),
    (1, word 0x15 0 0 5 3 4 0b00100100000, .vshrl g .nat32 5 ⟨3, false⟩ ⟨4, false⟩),
    (1, word 0x16 0 0 5 3 4 0b00100100000, .vshra g .nat32 5 ⟨3, false⟩ ⟨4, false⟩)].all decodes = true := by decide

/-- Words written out from R71, R136, R211 to R216. -/
theorem test_decode_lanes : [
    (1, word 0x18 0 0 5 3 1 0b01001101000, .vcvt g (.b8 .se 3) .f32 .rne true 5 ⟨3, false⟩),
    (1, word 0x19 0 0 5 3 0 0b00010100101, .vsat g .int32 5 5 ⟨3, false⟩),
    (1, word 0x1a 0 0 5 3 0 0b00000110010, .vrcp g .f32 .rdn 5 ⟨3, true⟩),
    (1, word 0x1b 0 0 5 3 0 0b00000110010, .vrsq g .f32 .rdn 5 ⟨3, true⟩),
    (1, word 0x1c 0 0 5 3 0 0b00000110010, .vexp2 g .f32 .rdn 5 ⟨3, true⟩),
    (1, word 0x1d 0 0 5 3 0 0b00000110010, .vlog2 g .f32 .rdn 5 ⟨3, true⟩),
    (1, word 0x20 0 0 5 3 4 0b00110010000, .vdot g .int4 5 ⟨3, true⟩ ⟨4, false⟩),
    (1, word 0x21 0 0 5 3 0 0b00000010100, .vredadd g .f64 .sr 5 ⟨3, true⟩),
    (1, word 0x22 0 0 5 3 0 0b00010010000, .vredmin g .int64 5 ⟨3, true⟩),
    (1, word 0x23 0 0 5 3 0 0b00010010000, .vredmax g .int64 5 ⟨3, true⟩),
    (1, word 0x24 0 0 5 3 0 0b00011000000, .vbcast g .int16 5 3),
    (1, word 0x25 0 0 4 3 6 0b00011110000, .vextr g .int8 4 ⟨3, true⟩ 6),
    (1, word 0x26 0 0 5 0 0 0b00100100000, .viota g .nat32 5),
    (1, word 0x27 0 0 5 3 0 0b00000010000, .vmov g 5 ⟨3, true⟩),
    (2, word 0x28 0 0 0 35 0 0b00000000000, .vpop g 35),
    (1, word 0x29 0 0 5 3 0 0b00010100000, .vany g .int32 5 ⟨3, false⟩),
    (1, word 0x2a 0 0 5 3 0 0b00010100000, .vall g .int32 5 ⟨3, false⟩),
    (1, word 0x2b 0 0 4 3 0 0b00011110000, .vcnt g .int8 4 ⟨3, true⟩),
    (1, word 0x30 0 0 5 7 0 0b00000010001, .vld g 1 5 7 2),
    (1, word 0x31 0 0 5 7 8 0b11111111010, .vlds g 2 5 7 8 (-1)),
    (2, word 0x32 0 0 33 7 0 0b00000010000, .vst g 0 33 7 2),
    (1, word 0x33 0 0 5 7 8 0b00000010001, .vsts g 1 5 7 8 2)].all decodes = true := by decide

/-- Words written out from R72, R220, R223, R225 to R227. -/
theorem test_decode_matrix : [
    (3, word 0x01 0 0 2 16 1 0b00001000111, .mpass g .bf16 3 true 2 ⟨0, true⟩ ⟨1, false⟩),
    (3, word 0x02 0 0 4 2 7 0b00000100000, .mpassd g .f32 0 false 4 ⟨2, false⟩ 7),
    (3, word 0x03 0 0 3 0 0 0b00000000000, .mzero g 3),
    (3, word 0x04 0 0 3 4 0 0b00000000000, .mloadc g 3 4),
    (3, word 0x05 0 0 5 2 6 0b00001000000, .mstorec g .bf16 .rne 5 2 6),
    (3, word 0x06 0 0 5 2 6 0b00000000000, .mread g 5 2 6),
    (3, word 0x07 0 0 2 5 6 0b00000010000, .mwrite g 2 ⟨5, true⟩ 6),
    (3, word 0x08 0 0 5 8 9 0b00000000000, .mcsq g 5 8 9)].all decodes = true := by decide

/-- Words written out from R72, R236, R267. -/
theorem test_decode_logical : [
    (3, word 0x20 0 0 5 3 4 0b00000000001, .lmul g .rtz 5 3 4),
    (3, word 0x21 0 0 5 3 4 0b00000000001, .ladd g .rtz 5 3 4),
    (3, word 0x22 0 0 5 3 4 0b00000000001, .lmap g .rtz 5 3 4),
    (3, word 0x23 0 0 5 3 4 0b00000000001, .lfilt g .rtz 5 3 4),
    (3, word 0x24 0 0 5 3 4 0b00000000001, .lred g .rtz 5 3 4),
    (3, word 0x25 0 0 5 3 4 0b00000000001, .lgath g .rtz 5 3 4),
    (3, word 0x26 0 0 5 3 4 0b00000000001, .lscat g .rtz 5 3 4),
    (3, word 0x27 0 0 6 2 0 0b01001100000, .lcvt g (.b8 .se 3) .rne 6 2),
    (3, word 0x28 0 0 5 3 4 0b00000000010, .lxpose g .rdn 5 3 4),
    (3, word 0x29 0 0 5 3 4 0b00000000010, .lslice g .rdn 5 3 4),
    (3, word 0x2a 0 0 5 3 0 0b00000000000, .lstore g .rne 5 3),
    (3, word 0x40 0 0 0 6 0 0b00000000000, .phint g 6),
    (3, word 0x41 0 0 0 7 0 0b00000000000, .ppin g 7),
    (3, word 0x42 0 0 0 7 0 0b00000000000, .punpin g 7),
    (3, word 0x43 0 0 0 3 0 0b00000000000, .pstatScan g 3),
    (3, word 0x43 0 0 0 3 8 0b00000000001, .pstatSet g 3 8),
    (3, word 0x44 0 0 5 3 9 0b00000000000, .pstatr g 5 3 9),
    (3, word 0x45 0 0 5 6 0 0b00000000000, .pquery g 5 6),
    (3, word 0x46 0 0 0 7 0 0b00000000000, .pdrop g 7)].all decodes = true := by decide

/-- Words written out from R73, R139, R145. -/
theorem test_decode_copy : [
    (4, word 0x01 0 0 1 2 3 0b00101100010, .cpy g false ⟨5, true⟩ 2 1 2 3),
    (5, word 0x02 0 0 1 2 4 0b00000000001, .cpyw g true ⟨0, false⟩ 1 1 2 4),
    (4, word 0x03 0 0 1 2 3 0b00101100001, .cpyt g false ⟨5, true⟩ .rtz 1 2 3),
    (4, word 0x04 0 0 1 2 3 0b00101100001, .ldblk g false ⟨5, true⟩ true 1 2 3),
    (4, word 0x05 0 0 1 0 0 0b00101100000, .wbblk g false ⟨5, true⟩ 1),
    (5, word 0x06 0 0 1 0 0 0b00101100000, .evblk g true ⟨5, true⟩ 1),
    (4, word 0x07 0 0 1 2 3 0b00101100000, .rpush g false ⟨5, true⟩ false 1 2 3),
    (4, word 0x08 0 0 1 2 4 0b00101100001, .gath g false ⟨5, true⟩ true 1 2 4),
    (4, word 0x09 0 0 1 2 4 0b00101100000, .scat g false ⟨5, true⟩ false 1 2 4),
    (4, word 0x0a 0 0 1 2 6 0b00010110110, .scata g false ⟨2, true⟩ .pkg 2 true 1 2 6),
    (4, word 0x0b 0 0 1 2 3 0b00010111001, .red g false ⟨2, true⟩ .job 1 false 1 2 3),
    (4, word 0x0c 0 0 1 2 3 0b00110100000, .collAg g false ⟨6, true⟩ 1 2 3),
    (4, word 0x0c 0 0 1 2 3 0b00110100001, .collRs g false ⟨6, true⟩ 1 2 3),
    (4, word 0x0c 0 0 1 2 3 0b00110100010, .collAr g false ⟨6, true⟩ 1 2 3),
    (4, word 0x0c 0 0 1 2 3 0b00110100011, .collBc g false ⟨6, true⟩ 1 2 3),
    (4, word 0x0c 0 0 1 2 3 0b00110100100, .collA2a g false ⟨6, true⟩ 1 2 3),
    (4, word 0x0d 0 0 7 2 3 0b00001100001, .send g false ⟨1, true⟩ true 7 2 3),
    (5, word 0x0e 0 0 7 2 3 0b00001100000, .recv g true ⟨1, true⟩ false 7 2 3),
    (4, word 0x0f 0 0 5 6 0 0b00000000000, .slotq g false 5 6)].all decodes = true := by decide

/-- Words written out from R74, R176, R184, R316. -/
theorem test_decode_permute : [
    (6, word 0x01 0 0 5 3 0 0b00011100001, .pack g .int8 1 5 ⟨3, false⟩),
    (6, word 0x02 0 0 5 3 0 0b00110110010, .unpk g .nat4 2 5 ⟨3, true⟩),
    (6, word 0x03 0 0 5 3 9 0b00001000011, .scal g .bf16 .rup 5 ⟨3, false⟩ 9),
    (6, word 0x04 0 0 5 6 0 0b00111100000, .scld g 5 6),
    (6, word 0x05 0 0 5 3 33 0b00010110000, .shuf g .int32 5 ⟨3, true⟩ ⟨33, false⟩),
    (6, word 0x06 0 0 5 3 0 0b00011100000, .xpose g .int8 5 ⟨3, false⟩),
    (6, word 0x07 0 0 5 3 7 0b00011000000, .rotl g .int16 5 ⟨3, false⟩ 7),
    (6, word 0x08 0 0 5 3 7 0b00111000000, .bplx g .nfmt 5 ⟨3, false⟩ 7),
    (6, word 0x09 0 0 5 3 7 0b00111000000, .bplm g .nfmt 5 ⟨3, false⟩ 7),
    (6, word 0x0a 0 0 6 32 0 0b00000010000, .xmv g 6 ⟨32, true⟩),
    (6, word 0x0b 0 0 5 3 4 0b00010100001, .intl g .int32 true 5 ⟨3, false⟩ ⟨4, false⟩),
    (6, word 0x0c 0 0 5 3 4 0b00010101000, .dintl g .int32 false 5 ⟨3, false⟩ ⟨4, true⟩),
    (6, word 0x0d 0 0 0 0 0 0b00000010011, .setfmt g 0x13),
    (6, word 0x0e 0 0 6 33 21 0b00000000000, .lselLdd g 6 ⟨33, false⟩ 21),
    (6, word 0x0e 0 0 5 3 7 0b00000000001, .lselStd g 5 3 7),
    (6, word 0x0e 0 0 3 5 7 0b00000010010, .lselLdg g 3 ⟨5, true⟩ 7),
    (6, word 0x0e 0 0 5 3 7 0b00000000011, .lselStg g 5 3 7),
    (6, word 0x0f 0 0 0 0 0 0b00000000000, .ntreq g)].all decodes = true := by decide

/-- Words written out from R75, R307 to R319, R366, R299. -/
theorem test_decode_control : [
    (7, word 0x01 0 0 0 0 0 0b00000101001, .br g 0x29),
    (7, word 0x02 0 0 0 3 63 0b11111101110, .brp g 3 (-18)),
    (7, word 0x03 0 0 0 9 0 0b00000000000, .bri g 9),
    (7, word 0x04 0 0 31 0 0 0b00001000000, .call g 31 64),
    (7, word 0x05 0 0 0 31 0 0b00000000000, .ret g 31),
    (7, word 0x06 0 0 0 9 63 0b11111110000, .loop g 9 (-16)),
    (7, word 0x07 0 0 1 5 0 0b00000000000, .wait g 1 5),
    (7, word 0x07 0 0 1 5 0 0b00000000001, .waitCon g 1 5),
    (7, word 0x08 0 0 0 0 0 0b00000000000, .nret g),
    (7, word 0x09 0 1 0 0 0 0b00000000010, .trap ⟨false, 1⟩ 2),
    (7, word 0x0a 0 0 6 8 0 0b00000000000, .sysc g 6 8),
    (7, word 0x0b 0 0 0 0 0 0b00000000000, .halt g),
    (7, word 0x0c 1 7 0 0 0 0b00000000000, .yield ⟨true, 7⟩),
    (7, word 0x0d 0 0 0 0 0 0b00000011000, .cropen g 0x18),
    (7, word 0x0e 0 0 0 0 0 0b00000000000, .crclose g),
    (7, word 0x0f 0 0 3 2 0 0b00100000001, .fence g 2 1 2 3)].all decodes = true := by decide

/-- Words written out from R75, R171, R240, R335, R347, R351, R373, R374, R383. -/
theorem test_decode_system : [
    (7, word 0x10 0 0 0 0 0 0b00000000000, .snap g),
    (7, word 0x11 0 0 5 6 0 0b00000000000, .force g 5 6),
    (7, word 0x12 0 0 0 0 0 0b00000100000, .grow g 32),
    (7, word 0x13 0 0 0 0 0 0b00000001000, .shrink g 8),
    (7, word 0x14 0 0 0 0 0 0b00000000000, .taskend g),
    (7, word 0x15 0 0 2 5 0 0b00000000001, .spawn g true 2 5),
    (7, word 0x16 0 0 0 5 6 0b00000000000, .enq g 5 6),
    (7, word 0x17 0 0 7 5 0 0b00000000000, .deq g 7 5),
    (7, word 0x18 0 0 3 5 6 0b00000000000, .scan g 3 5 6),
    (7, word 0x19 0 0 0 5 6 0b00000000000, .lcmapw g 5 6),
    (7, word 0x1a 0 0 0 0 0 0b00000000000, .eret g),
    (7, word 0x1b 0 0 0 5 0 0b00000000000, .ctxsv g 5),
    (7, word 0x1c 0 0 0 5 0 0b00000000000, .ctxld g 5)].all decodes = true := by decide

/-- A teller word decodes to an instruction. -/
noncomputable def tells (e : BitVec 32 × Instr) : Bool := tellerDecode e.1 = some e.2

/-- The word of slot `i` of an Ovnath bundle decodes to an instruction. -/
noncomputable def ovnDecodes (i : Nat) (e : BitVec 32 × Instr) : Bool :=
  (ovnDecodeSlot (e.1.zeroExtend 128 <<< (32 * i)) i).toOption = some (some e.2)

/-- Words written out from R281 and R282. -/
theorem test_decode_teller : ([
    (0x01#6 ++ 3#3 ++ 2#3 ++ 0#3 ++ 0#1 ++ 0#3 ++ (4 : BitVec 13), .tellerLdw 3 2 4),
    (0x02#6 ++ 3#3 ++ 2#3 ++ 0#3 ++ 0#1 ++ 0#3 ++ (0 : BitVec 13), .tellerLdd 3 2 0),
    (0x03#6 ++ 0#3 ++ 2#3 ++ 4#3 ++ 0#1 ++ 0#3 ++ (4 : BitVec 13), .tellerStw 2 4 4),
    (0x04#6 ++ 0#3 ++ 2#3 ++ 4#3 ++ 0#1 ++ 0#3 ++ (-8 : BitVec 13), .tellerStd 2 4 (-8)),
    (0x08#6 ++ 3#3 ++ 1#3 ++ 2#3 ++ 0#1 ++ 0#3 ++ (0 : BitVec 13), .tellerAdd 3 1 2),
    (0x08#6 ++ 3#3 ++ 1#3 ++ 0#3 ++ 1#1 ++ 0#3 ++ (-2 : BitVec 13), .tellerAddImm 3 1 (-2)),
    (0x09#6 ++ 3#3 ++ 1#3 ++ 2#3 ++ 0#1 ++ 0#3 ++ (0 : BitVec 13), .tellerSub 3 1 2),
    (0x09#6 ++ 3#3 ++ 1#3 ++ 0#3 ++ 1#1 ++ 0#3 ++ (-2 : BitVec 13), .tellerSubImm 3 1 (-2)),
    (0x0a#6 ++ 3#3 ++ 1#3 ++ 2#3 ++ 0#1 ++ 0#3 ++ (0 : BitVec 13), .tellerAnd 3 1 2),
    (0x0a#6 ++ 3#3 ++ 1#3 ++ 0#3 ++ 1#1 ++ 0#3 ++ (-2 : BitVec 13), .tellerAndImm 3 1 (-2)),
    (0x0b#6 ++ 3#3 ++ 1#3 ++ 2#3 ++ 0#1 ++ 0#3 ++ (0 : BitVec 13), .tellerOr 3 1 2),
    (0x0b#6 ++ 3#3 ++ 1#3 ++ 0#3 ++ 1#1 ++ 0#3 ++ (-2 : BitVec 13), .tellerOrImm 3 1 (-2)),
    (0x0c#6 ++ 3#3 ++ 1#3 ++ 2#3 ++ 0#1 ++ 0#3 ++ (0 : BitVec 13), .tellerXor 3 1 2),
    (0x0c#6 ++ 3#3 ++ 1#3 ++ 0#3 ++ 1#1 ++ 0#3 ++ (-2 : BitVec 13), .tellerXorImm 3 1 (-2)),
    (0x0d#6 ++ 3#3 ++ 1#3 ++ 2#3 ++ 0#1 ++ 0#3 ++ (0 : BitVec 13), .tellerShl 3 1 2),
    (0x0d#6 ++ 3#3 ++ 1#3 ++ 0#3 ++ 1#1 ++ 0#3 ++ (-2 : BitVec 13), .tellerShlImm 3 1 (-2))] : List (BitVec 32 × Instr)).all tells = true := by decide

/-- The same. -/
theorem test_decode_teller_more : ([
    (0x0e#6 ++ 3#3 ++ 1#3 ++ 2#3 ++ 0#1 ++ 0#3 ++ (0 : BitVec 13), .tellerShrl 3 1 2),
    (0x0e#6 ++ 3#3 ++ 1#3 ++ 0#3 ++ 1#1 ++ 0#3 ++ (-2 : BitVec 13), .tellerShrlImm 3 1 (-2)),
    (0x0f#6 ++ 3#3 ++ 1#3 ++ 2#3 ++ 0#1 ++ 0#3 ++ (0 : BitVec 13), .tellerShra 3 1 2),
    (0x0f#6 ++ 3#3 ++ 1#3 ++ 0#3 ++ 1#1 ++ 0#3 ++ (-2 : BitVec 13), .tellerShraImm 3 1 (-2)),
    (0x10#6 ++ 3#3 ++ 1#3 ++ 2#3 ++ 0#1 ++ 0#3 ++ (0 : BitVec 13), .tellerMin 3 1 2),
    (0x10#6 ++ 3#3 ++ 1#3 ++ 0#3 ++ 1#1 ++ 0#3 ++ (-2 : BitVec 13), .tellerMinImm 3 1 (-2)),
    (0x11#6 ++ 3#3 ++ 1#3 ++ 2#3 ++ 0#1 ++ 0#3 ++ (0 : BitVec 13), .tellerMax 3 1 2),
    (0x11#6 ++ 3#3 ++ 1#3 ++ 0#3 ++ 1#1 ++ 0#3 ++ (-2 : BitVec 13), .tellerMaxImm 3 1 (-2)),
    (0x12#6 ++ 3#3 ++ 1#3 ++ 2#3 ++ 0#1 ++ 0#3 ++ (0 : BitVec 13), .tellerMinn 3 1 2),
    (0x12#6 ++ 3#3 ++ 1#3 ++ 0#3 ++ 1#1 ++ 0#3 ++ (-2 : BitVec 13), .tellerMinnImm 3 1 (-2)),
    (0x13#6 ++ 3#3 ++ 1#3 ++ 2#3 ++ 0#1 ++ 0#3 ++ (0 : BitVec 13), .tellerMaxn 3 1 2),
    (0x13#6 ++ 3#3 ++ 1#3 ++ 0#3 ++ 1#1 ++ 0#3 ++ (-2 : BitVec 13), .tellerMaxnImm 3 1 (-2)),
    (0x18#6 ++ 4#3 ++ 3#3 ++ 5#3 ++ 0#1 ++ 1#3 ++ (0 : BitVec 13), .tellerFadd 4 3 5 1),
    (0x19#6 ++ 4#3 ++ 3#3 ++ 5#3 ++ 0#1 ++ 0#3 ++ (0 : BitVec 13), .tellerFmin 4 3 5 0),
    (0x1a#6 ++ 4#3 ++ 3#3 ++ 0#3 ++ 0#1 ++ 2#3 ++ (0 : BitVec 13), .tellerFmax 4 3 0 2),
    (0x20#6 ++ 5#3 ++ 4#3 ++ 3#3 ++ 0#1 ++ 1#3 ++ (0 : BitVec 13), .tellerCmp 5 4 3 1),
    (0x20#6 ++ 5#3 ++ 4#3 ++ 0#3 ++ 1#1 ++ 7#3 ++ (-1 : BitVec 13), .tellerCmpImm 5 4 7 (-1)),
    (0x21#6 ++ 6#3 ++ 5#3 ++ 1#3 ++ 0#1 ++ 0#3 ++ (6 : BitVec 13), .tellerSel 6 5 1 6),
    (0x22#6 ++ 3#3 ++ 2#3 ++ 0#3 ++ 0#1 ++ 5#3 ++ (0 : BitVec 13), .tellerSat 3 2 5),
    (0x23#6 ++ 3#3 ++ 1#3 ++ 2#3 ++ 0#1 ++ 0#3 ++ (0 : BitVec 13), .tellerMrg 3 1 2),
    (0x24#6 ++ 3#3 ++ 0#3 ++ 0#3 ++ 0#1 ++ 0#3 ++ (-1 : BitVec 13), .tellerLimm 3 (-1))] : List (BitVec 32 × Instr)).all tells = true := by decide

/-- Words written out from R403, R405 and R406. -/
theorem test_decode_ovnath_scalar : ([
    (0x01#8 ++ 3#5 ++ 1#5 ++ 2#5 ++ 0#9, .ovnAdd 3 1 2),
    (0x02#8 ++ 3#5 ++ 1#5 ++ 2#5 ++ 0#9, .ovnSub 3 1 2),
    (0x03#8 ++ 3#5 ++ 1#5 ++ 2#5 ++ 0#9, .ovnMul 3 1 2),
    (0x04#8 ++ 3#5 ++ 1#5 ++ 2#5 ++ 0#9, .ovnDiv 3 1 2),
    (0x05#8 ++ 3#5 ++ 1#5 ++ 2#5 ++ 0#9, .ovnAnd 3 1 2),
    (0x06#8 ++ 3#5 ++ 1#5 ++ 2#5 ++ 0#9, .ovnOr 3 1 2),
    (0x07#8 ++ 3#5 ++ 1#5 ++ 2#5 ++ 0#9, .ovnXor 3 1 2),
    (0x08#8 ++ 3#5 ++ 1#5 ++ 2#5 ++ 0#9, .ovnShl 3 1 2),
    (0x09#8 ++ 3#5 ++ 1#5 ++ 2#5 ++ 0#9, .ovnShr 3 1 2),
    (0x0a#8 ++ 3#5 ++ 1#5 ++ 2#5 ++ 0#9, .ovnShra 3 1 2),
    (0x0b#8 ++ 3#5 ++ 1#5 ++ (-5 : BitVec 14), .ovnAddi 3 1 (-5)),
    (0x0c#8 ++ 3#5 ++ 0#5 ++ (-2 : BitVec 14), .ovnLi 3 (-2)),
    (0x0d#8 ++ 3#5 ++ 0#5 ++ 0x2A5#14, .ovnLis 3 0x2A5),
    (0x0e#8 ++ 3#5 ++ 1#5 ++ 2#5 ++ 0b1010#4 ++ 0#5, .ovnCmp 3 1 2 1 2),
    (0x0f#8 ++ 3#5 ++ 1#5 ++ 16#14, .ovnLd 3 1 16),
    (0x10#8 ++ 3#5 ++ 1#5 ++ (-8 : BitVec 14), .ovnSt 3 1 (-8))] : List (BitVec 32 × Instr)).all (ovnDecodes 0) = true := by decide

/-- Words written out from R403, R405 and R406. -/
theorem test_decode_ovnath_vector : ([
    (0x01#8 ++ 3#5 ++ 1#5 ++ 2#5 ++ 3#4 ++ 1#5, .ovnVadd 3 1 2 3 1),
    (0x02#8 ++ 3#5 ++ 1#5 ++ 2#5 ++ 3#4 ++ 1#5, .ovnVsub 3 1 2 3 1),
    (0x03#8 ++ 3#5 ++ 1#5 ++ 2#5 ++ 3#4 ++ 1#5, .ovnVmul 3 1 2 3 1),
    (0x04#8 ++ 3#5 ++ 1#5 ++ 2#5 ++ 3#4 ++ 1#5, .ovnVfma 3 1 2 3 1),
    (0x05#8 ++ 3#5 ++ 1#5 ++ 2#5 ++ 5#4 ++ 0#5, .ovnVmin 3 1 2 5 0),
    (0x06#8 ++ 3#5 ++ 1#5 ++ 2#5 ++ 5#4 ++ 0#5, .ovnVmax 3 1 2 5 0),
    (0x07#8 ++ 3#5 ++ 1#5 ++ 2#5 ++ 5#4 ++ 2#5, .ovnVcmp 3 1 2 5 2),
    (0x08#8 ++ 3#5 ++ 1#5 ++ 2#5 ++ 1#4 ++ 0#5, .ovnVsel 3 1 2 1),
    (0x09#8 ++ 3#5 ++ 1#5 ++ 3#5 ++ 1#4 ++ 4#5, .ovnVcvt 3 1 3 1 4),
    (0x0a#8 ++ 4#5 ++ 3#5 ++ 0#5 ++ 3#4 ++ 0#5, .ovnVbc 4 3 3),
    (0x0b#8 ++ 4#5 ++ 1#5 ++ 0#5 ++ 3#4 ++ 2#5, .ovnVred 4 1 3 2),
    (0x0c#8 ++ 3#5 ++ 1#5 ++ 2#5 ++ 3#4 ++ 3#5, .ovnVdot 3 1 2 3 3),
    (0x0d#8 ++ 4#5 ++ 1#5 ++ 8#14, .ovnVld 4 1 8),
    (0x0e#8 ++ 4#5 ++ 1#5 ++ (-8 : BitVec 14), .ovnVst 4 1 (-8)),
    (0x0f#8 ++ 4#5 ++ 1#5 ++ 6#5 ++ 7#4 ++ 0#5, .ovnVext 4 1 6 7)] : List (BitVec 32 × Instr)).all (ovnDecodes 1) = true := by decide

/-- Words written out from R403, R405 and R406. -/
theorem test_decode_ovnath_tile : ([
    (0x01#8 ++ 2#5 ++ 0#19, .ovnMz 2),
    (0x02#8 ++ 2#5 ++ 1#5 ++ 3#5 ++ 2#4 ++ 0#5, .ovnMma 2 1 3 2),
    (0x03#8 ++ 1#5 ++ 2#5 ++ 3#5 ++ 2#4 ++ 4#5, .ovnMst 1 2 3 2 4),
    (0x04#8 ++ 4#5 ++ 2#5 ++ 3#5 ++ 0#9, .ovnMrd 4 2 3)] : List (BitVec 32 × Instr)).all (ovnDecodes 2) = true := by decide

/-- Words written out from R403, R405 and R406. -/
theorem test_decode_ovnath_control : ([
    (0x01#8 ++ 0#5 ++ (-3 : BitVec 19), .ovnJ (-3)),
    (0x02#8 ++ 2#5 ++ 0#5 ++ 7#14, .ovnJk 2 7),
    (0x03#8 ++ 31#5 ++ 7#19, .ovnCall 31 7),
    (0x04#8 ++ 0#5 ++ 31#5 ++ 0#14, .ovnRet 31),
    (0x05#8 ++ 0#24, .ovnEnd),
    (0x06#8 ++ 0#10 ++ 9#14, .ovnTrap 9),
    (0x07#8 ++ 5#5 ++ 6#5 ++ 0#14, .ovnSys 5 6)] : List (BitVec 32 × Instr)).all (ovnDecodes 3) = true := by decide

/-- Words that the encoding examples of the spec print. -/
theorem test_decode_printed_1 : [
    (0, 0x01001821000, .add g 3 1 2),
    (1, 0x01002021030, .vadd g .f32 .rne 4 ⟨1,true⟩ ⟨2,false⟩),
    (1, 0x300028E0011, .vld g 1 5 7 2),
    (4, 0x07000841960, .rpush g false ⟨5,true⟩ false 1 2 3),
    (7, 0x12000000020, .grow g 32),
    (6, 0x03002864843, .scal g .bf16 .rup 5 ⟨3,false⟩ 9),
    (0, 0x3000182100A, .cmp g 3 1 2 true .lt),
    (0, 0x540028C3824, .fdiv g .f32 .rtz 5 6 7),
    (1, 0x18002860A60, .vcvt g (.b8 .se 3) .f32 .rne false 5 ⟨3,false⟩),
    (1, 0x18002860A68, .vcvt g (.b8 .se 3) .f32 .rne true 5 ⟨3,false⟩),
    (3, 0x01001200847, .mpass g .bf16 3 true 2 ⟨0,true⟩ ⟨1,false⟩),
    (3, 0x02002043820, .mpassd g .f32 0 false 4 ⟨2,false⟩ 7),
    (3, 0x08002904800, .mcsq g 5 8 9),
    (3, 0x03001800000, .mzero g 3),
    (3, 0x04001880000, .mloadc g 3 4),
    (3, 0x05002843040, .mstorec g .bf16 .rne 5 2 6),
    (3, 0x20002862001, .lmul g .rtz 5 3 4),
    (3, 0x27003040260, .lcvt g (.b8 .se 3) .rne 6 2),
    (7, 0x110028C0000, .force g 5 6),
    (3, 0x400000C0000, .phint g 6),
    (3, 0x410000E0000, .ppin g 7),
    (3, 0x420000E0000, .punpin g 7),
    (3, 0x43000064001, .pstatSet g 3 8),
    (3, 0x44002864800, .pstatr g 5 3 9),
    (3, 0x450028C0000, .pquery g 5 6),
    (3, 0x460000E0000, .pdrop g 7),
    (0, 0x700020C50B8, .tcall g 5 .job 4 6 10),
    (0, 0x600010A38B0, .aadd g .int32 .pkg 2 5 7),
    (7, 0x0F001840101, .fence g 2 1 2 3),
    (7, 0x01000000028, .br g 40),
    (7, 0x01000000029, .br g 41),
    (7, 0x0600013FFF0, .loop g 9 (-16))].all decodes = true := by decide

/-- Words that the encoding examples of the spec print. -/
theorem test_decode_printed_2 : [
    (7, 0x070008A0001, .waitCon g 1 5),
    (0, 0x7C001880000, .semadd g 3 4),
    (7, 0x08000000000, .nret g),
    (6, 0x0F000000000, .ntreq g),
    (7, 0x09000000007, .trap g 7),
    (7, 0x0A003100000, .sysc g 6 8),
    (7, 0x14000000000, .taskend g),
    (7, 0x0B000000000, .halt g),
    (7, 0x0C000000000, .yield g),
    (7, 0x150010A0001, .spawn g true 2 5),
    (7, 0x160000A3000, .enq g 5 6),
    (7, 0x170038A0000, .deq g 7 5),
    (7, 0x1A000000000, .eret g),
    (7, 0x1B0000A0000, .ctxsv g 5),
    (7, 0x1C0000A0000, .ctxld g 5),
    (7, 0x190000A3000, .lcmapw g 5 6),
    (7, 0x180018A3000, .scan g 3 5 6),
    (7, 0x10000000000, .snap g),
    (7, 0x0D000000018, .cropen g 24),
    (7, 0x0E000000000, .crclose g),
    (0, 0x55005940020, .fsqrt g .f32 .rne 11 10),
    (6, 0x0A003400010, .xmv g 6 ⟨32,true⟩),
    (6, 0x050028708B0, .shuf g .int32 5 ⟨3,true⟩ ⟨33,false⟩),
    (1, 0x060020A3028, .vnfma g .f32 .rne 4 ⟨5,false⟩ ⟨6,true⟩),
    (7, 0x060001FFFFA, .loop g 15 (-6)),
    (3, 0x23002863800, .lfilt g .rne 5 3 7),
    (3, 0x430200A4801, .pstatSet ⟨false,1⟩ 5 9),
    (6, 0x0E00342A800, .lselLdd g 6 ⟨33,false⟩ 21),
    (7, 0x09020000002, .trap ⟨false,1⟩ 2),
    (4, 0x0E023904860, .recv ⟨false,1⟩ false ⟨1,true⟩ false 7 8 9),
    (4, 0x0D043904860, .send ⟨false,2⟩ false ⟨1,true⟩ false 7 8 9),
    (0, 0x6000708B0B8, .aadd g .int32 .job 14 4 22),
    (0, 0x4100A8C0000, .ldbn g 21 6 0)].all decodes = true := by decide

/-- A word of zeros is NOP (R38). -/
theorem test_decode_zeros : decodeTableWord 32 0 = some .nop := by decide

/-! ### What is not an instruction -/

/-- The instructions have the fault. -/
def illFormed (f : FormErr) (l : List Instr) : Bool := l.all fun i => formFault i = some f && !WellFormed i

/-- Operand fields that no form admits: ILLEGAL-BUNDLE (R64, R65, R77, R145, R169, R171, R193, R212, R222, R237, R286, R373). -/
theorem test_illFormed_scalar : illFormed .illegalBundle [
    .cmp g 1 2 3 false .un, .cmp g 1 2 3 false .ord, .cmp g 1 2 3 true .eq, .cmp g 1 2 3 true .ne,
    .aadd g .int64 .die 3 1 2, .acas g .int64 .die 4 1 3, .aminn g .nat64 .die 3 1 2, .afadd g .f64 .die 3 1 2,
    .tcall g 0 .core 3 1 2, .tcall g 0 .core 4 1 3,
    .csrr g 1 0, .csrr g 1 0x003, .csrr g 1 0x107, .csrr g 1 0x109, .csrr g 1 0x11B, .csrr g 1 0x123, .csrr g 1 0x133, .csrr g 1 0x14B,
    .csrr g 1 0x156, .csrr g 1 0x15C, .csrr g 1 0x165, .csrr g 1 0x175, .csrr g 1 0x182, .csrw g 0xFFF 1, .csrs g 0x107 1, .csrc g 0x107 1] = true := by
  decide

/-- The same in the other slots. -/
theorem test_illFormed_other : illFormed .illegalBundle [
    .vadd g .int32 .rtz 0 ⟨1, false⟩ ⟨2, false⟩, .vadd g .f32 .rne 0 ⟨32, false⟩ ⟨2, false⟩, .vadd g .f32 .rne 0 ⟨1, false⟩ ⟨32, false⟩,
    .vabs g .f32 32 ⟨1, false⟩, .vcmp g .int32 .un 0 ⟨1, false⟩ ⟨2, false⟩, .vcmp g .nat8 .ord 0 ⟨1, false⟩ ⟨2, false⟩, .vmov g 0 ⟨32, false⟩,
    .vsat g .int16 2 0 ⟨1, false⟩, .vsat g .int8 1 0 ⟨1, false⟩, .vld g 3 0 1 0, .vlds g 3 0 1 2 0, .vst g 2 0 1 0, .vsts g 2 0 1 2 0,
    .mpass g .f64 0 false 1 ⟨0, false⟩ ⟨1, false⟩, .mpass g .f32 0 false 1 ⟨2, false⟩ ⟨2, true⟩, .mpassd g .f64 0 false 3 ⟨0, false⟩ 1,
    .mstorec g .f64 .rne 1 3 2, .wbblk g false ⟨1, false⟩ 2, .cpy g false ⟨1, false⟩ 0 1 2 3, .cpyw g false ⟨0, false⟩ 0 1 2 3, .gath g false ⟨0, false⟩ false 1 2 0,
    .scat g false ⟨0, false⟩ false 1 2 5, .scata g false ⟨0, false⟩ .die 3 false 1 2 4, .red g false ⟨0, false⟩ .die 3 false 1 2 3,
    .pack g .int32 2 0 ⟨1, false⟩, .unpk g .int16 3 0 ⟨1, false⟩, .pack g .int64 1 0 ⟨1, false⟩, .setfmt g 0x02000, .setfmt g 0x0000A,
    .fence g 0 1 2 3, .fence g 1 0 2 3, .grow g 0, .grow g 2, .grow g 6, .grow g 68, .shrink g 0, .shrink g 68, .spawn g false 2 1] = true := by decide

/-- Formats outside the sets of R69: ILLEGAL-FORMAT (R78, order 6). -/
theorem test_illFormed_format : illFormed .illegalFormat [
    .fadd g .bf16 .rne 0 1 2, .fsqrt g .int64 .rne 0 1, .fmin g .f16 0 1 2, .fcmp g .nat32 .eq 0 1 2, .fcvt g .int16 .f32 .rne 0 1, .fcvt g .f32 .bf16 .rne 0 1,
    .aadd g .nat64 .die 2 1 2, .acas g .f64 .die 2 1 4, .aminn g .int64 .die 2 1 2, .afadd g .f16 .die 2 1 2,
    .vadd g (.b8 .se 3) .rne 0 ⟨1, false⟩ ⟨2, false⟩, .vfma g .int32 .rne 0 ⟨1, false⟩ ⟨2, false⟩, .vmin g .int4 0 ⟨1, false⟩ ⟨2, false⟩,
    .vabs g .nat32 0 ⟨1, false⟩, .vshl g .f32 0 ⟨1, false⟩ ⟨2, false⟩, .vsat g .f32 0 0 ⟨1, false⟩, .vrcp g .f64 .rne 0 ⟨1, false⟩,
    .vdot g .f32 0 ⟨1, false⟩ ⟨2, false⟩, .vbcast g .e8m0 0 1, .viota g .f32 0, .vany g .bf16 0 ⟨1, false⟩,
    .mpass g .int32 0 false 1 ⟨0, false⟩ ⟨1, false⟩, .mstorec g .int4 .rne 1 2 3, .pack g .f32 0 0 ⟨1, false⟩, .scal g .int8 .rne 0 ⟨1, false⟩ 2,
    .shuf g .f32 0 ⟨1, false⟩ ⟨2, false⟩, .xpose g .int4 0 ⟨1, false⟩, .rotl g .nfmt 0 ⟨1, false⟩ 2, .bplx g .int16 0 ⟨1, false⟩ 2,
    .intl g .f16 false 0 ⟨1, false⟩ ⟨2, false⟩] = true := by decide

/-- Ovnath and teller fields that name nothing (R283, R405, R406). -/
theorem test_illFormed_words : illFormed .illegalBundle [
    .ovnCmp 1 2 3 1 0, .ovnCmp 1 2 3 0 6, .ovnVadd 1 2 3 8 0, .ovnVadd 1 2 3 1 5, .ovnVadd 1 2 3 5 1, .ovnVfma 1 2 3 5 0, .ovnVmin 1 2 3 1 1,
    .ovnVcmp 1 2 3 5 7, .ovnVsel 1 2 3 15, .ovnVcvt 1 2 3 8 0, .ovnVbc 1 2 8, .ovnMz 8, .ovnMma 8 1 2 1, .ovnMma 1 1 2 5, .ovnMst 1 9 2 1 0, .ovnMrd 1 8 2,
    .tellerFadd 1 2 3 3, .tellerFmin 1 2 3 7, .tellerFmax 1 2 3 4, .tellerSat 1 2 6] = true := by decide

/-- The slot word at the position has the fault. -/
def refuses (f : FormErr) (e : Nat × BitVec 44) : Bool :=
  match decodeSlot e.1 (splitSlot e.2) with | .error x => x == f | .ok _ => false

/-- A field that the layout calls zero, a register outside its file, a reserved RM, FMT or SUB: ILLEGAL-BUNDLE (R62, R65, R77). -/
theorem test_refused_fields : [
    (0, word 0x01 0 0 1 2 3 1), (0, word 0x14 0 0 1 2 3 0), (0, word 0x24 0 0 1 2 1 0), (0, word 0x28 0 0 1 1 0 0), (0, word 0x29 0 0 1 32 0 0), (0, word 0x50 0 0 1 2 3 0x025),
    (0, word 0x55 0 0 1 2 3 0x020), (0, word 0x7C 0 0 32 1 0 0), (1, word 0x01 0 0 1 2 3 0x025), (1, word 0x01 0 0 1 2 3 0x2E0), (0, word 0x50 0 0 1 2 3 0x7E0), (1, word 0x01 0 0 1 2 3 0x7E0),
    (3, word 0x03 0 0 16 0 0 0), (3, word 0x01 0 0 2 48 1 0x040), (4, word 0x04 0 0 1 2 3 7), (4, word 0x07 0 0 16 2 3 0), (5, word 0x05 0 0 0 2 3 0),
    (6, word 0x0A 0 0 1 2 1 0), (6, word 0x0F 0 0 1 0 0 0), (7, word 0x08 0 0 1 0 0 0), (7, word 0x09 0 0 0 0 0 0x100), (7, word 0x1A 0 0 0 0 0 1),
    (7, word 0x07 0 0 1 5 0 2)].all (refuses .illegalBundle) = true := by decide

/-- An opcode that its map does not list: UNDEFINED-OP (R78, order 4). -/
theorem test_refused_opcodes : [
    (0, word 0x2F 0 0 0 0 0 0), (0, word 0xFF 0 0 0 0 0 0), (1, word 0x7F 0 0 0 0 0 0), (3, word 0x0F 0 0 0 0 0 0), (4, word 0x3F 0 0 0 0 0 0), (6, word 0x3F 0 0 0 0 0 0),
    (7, word 0x1D 0 0 0 0 0 0)].all (refuses .undefinedOp) = true := by decide

/-- A defined format that the opcode does not accept: ILLEGAL-FORMAT (R77). -/
theorem test_refused_formats : [
    (0, word 0x50 0 0 1 2 3 0x040), (1, word 0x01 0 0 1 2 3 0x1E0)].all (refuses .illegalFormat) = true := by decide

/-! ### The states of the witnesses -/

/-- Core 0 about to issue in its main pipeline, with the first GiB mapped onto itself. -/
def main : State := (State.reset.programTables).programReady 0x10001

/-- The same with core 0 changed. -/
def mainWith (f : Core → Core) : State := main.onCore 0 f

/-- Core 0 about to issue in its tender, at level 1. -/
def tend : State := mainWith fun k => { k with level := 1, tender := { pc := 0x10001 } }

/-- Core 0 with values in its scalars 1, 2, …. -/
def scalars (k : Core) (vs : List Nat) : Core :=
  (List.range vs.length).foldl (fun k i => k.setS (BitVec.ofNat 6 (i + 1)) (BitVec.ofNat 64 (vs.getD i 0))) k

/-- An entry of a vector queue that has landed. -/
def landedEntry (v : Vec) : QEntry := { v := v, due := 0, landed := true }

/-- Nothing stands in the way of an issue, as one check. -/
def quietB (s : State) : Bool :=
  let k := s.core s.turn
  !k.checking && k.skip = 0 && k.windows = [] && k.fmtPend = [] && k.nt = [] && k.berth.nodes = [] && k.berth.owed = [] && k.regs.sPoison = 0 &&
    (List.range 64).all (fun i => (k.q (BitVec.ofNat 6 i)).all fun e => e.flags = 0) && k.csrGet Csr.BFCAUSE = 0 && !s.sliceWaits s.turn

theorem quiet_of {s : State} (h : quietB s = true) : Quiet s := by
  simp only [quietB, Bool.and_eq_true, Bool.not_eq_eq_eq_not, Bool.not_true, decide_eq_true_eq] at h
  obtain ⟨⟨⟨⟨⟨⟨⟨⟨⟨⟨a, b⟩, c⟩, d⟩, e⟩, f⟩, o⟩, i⟩, q⟩, j⟩, k⟩ := h
  refine ⟨a, b, c, d, e, f, o, i, fun n x m => ?_, j, k⟩
  have y := List.all_eq_true.mp q n.toNat (List.mem_range.mpr n.isLt)
  rw [BitVec.ofNat_toNat, BitVec.setWidth_eq] at y
  simpa using List.all_eq_true.mp y x m

theorem ready_of {s : State} {g : Guard} (h : quietB s = true) (l : (s.core s.turn).level = 0) (a : (s.core s.turn).proves g = true) :
    Ready s g := ⟨quiet_of h, l, a⟩

theorem tending_of {s : State} {g : Guard} (h : quietB s = true) (l : (s.core s.turn).level ≠ 0) (a : (s.core s.turn).proves g = true) :
    Tending s g := ⟨quiet_of h, l, a⟩

/-- The state has the page tables of `main`, and nothing bears on an access. -/
def mappedB (s : State) : Bool :=
  coreNat s 0x1000 8 = tablePte 0x2000 && coreNat s 0x2000 8 = tablePte 0x3000 && coreNat s 0x3000 8 = textPte &&
    (s.core s.turn).csrGet Csr.VMROOT = 1 && (s.core s.turn).tlb = [] && s.hist = [] && s.owned = [] && s.wordPoison = [] && s.sectorPoison = []

theorem walk_mapped {s : State} (a : coreNat s 0x1000 8 = tablePte 0x2000) (b : coreNat s 0x2000 8 = tablePte 0x3000)
    (c : coreNat s 0x3000 8 = textPte) {ea : Nat} (h : ea < 2 ^ 30) : s.walk 1 ea = some { pa := ea, pte := 0x3000, perm := 0xDF, global := false } := by
  have f4 : field ea 48 9 = 0 := by simp only [field, Nat.shiftRight_eq_div_pow]; omega
  have f3 : field ea 39 9 = 0 := by simp only [field, Nat.shiftRight_eq_div_pow]; omega
  have f2 : field ea 30 9 = 0 := by simp only [field, Nat.shiftRight_eq_div_pow]; omega
  have fl : field ea 0 34 = ea := by simp only [field, Nat.shiftRight_eq_div_pow]; omega
  have p (x : Nat) (hx : x < hbmSize) : s.place x = .hbm := by simp [State.place, hx]
  simp only [coreNat] at a b c
  have n : napotLeaf 2 (field textPte 10 44) ea = some ea := by
    have : field (field textPte 10 44) 0 22 = 0x200000 := by decide
    have q : field (field textPte 10 44) 22 22 = 0 := by decide
    simp only [napotLeaf, this, ↓reduceIte, q, fl]; simp
  rw [State.walk]
  have r : field (BitVec.toNat (1 : Word64)) 0 44 = 1 := by decide
  rw [r, if_neg (by decide)]
  rw [State.walkFrom]
  simp only [show 12 + 9 * 4 = 48 from rfl, f4]
  rw [p _ (by decide)]
  simp only [show 1 * 4096 + 8 * 0 = 0x1000 from rfl, a]
  rw [if_neg (by decide), if_neg (by decide), if_pos (by decide), if_neg (by decide)]
  rw [show field (tablePte 0x2000) 10 44 = 2 by decide, State.walkFrom]
  simp only [show 12 + 9 * 3 = 39 from rfl, f3]
  rw [p _ (by decide)]
  simp only [show 2 * 4096 + 8 * 0 = 0x2000 from rfl, b]
  rw [if_neg (by decide), if_neg (by decide), if_pos (by decide), if_neg (by decide)]
  rw [show field (tablePte 0x3000) 10 44 = 3 by decide, State.walkFrom]
  simp only [show 12 + 9 * 2 = 30 from rfl, f2]
  rw [p _ (by decide)]
  simp only [show 3 * 4096 + 8 * 0 = 0x3000 from rfl, c, n]
  rfl

/-- In a state with those tables an aligned access within the first GiB reaches memory where it points. -/
theorem reaches {s : State} (h : mappedB s = true) (kind : Access) {ea n : Nat} (a : ea % n = 0) (b : ea + n ≤ 2 ^ 30) : Reaches s kind ea n ea := by
  simp only [mappedB, Bool.and_eq_true, decide_eq_true_eq] at h
  obtain ⟨⟨⟨⟨⟨⟨⟨⟨t1, t2⟩, t3⟩, root⟩, tlb⟩, hist⟩, own⟩, wp⟩, sp⟩ := h
  have lt : ea < 2 ^ 30 := by
    rcases Nat.eq_zero_or_pos n with rfl | z
    · simp at a; omega
    · omega
  have w := walk_mapped t1 t2 t3 lt
  rw [← root] at w
  refine ⟨?_, a, ⟨_, w, rfl, ?_, by dsimp only; decide, fun _ => by dsimp only; decide, by simp [tlb]⟩, ?_, by simp [State.nearby, hist], by simp [own], wp, sp⟩
  · have : field ea 56 8 = 0 := by simp only [field, Nat.shiftRight_eq_div_pow]; omega
    simp [vaValid, this]
  · cases kind <;> cases decide ((s.core s.turn).level ≠ 0) <;> dsimp only <;> decide
  · simp only [hbmSize]; omega

/-- Hardware keeps no page-state table, and nothing of code stands at `pa`. -/
theorem untracked {s : State} (h : bitAt (s.ctlGet Ctl.PSTBASE).toNat 0 = false) (c : s.codeLines = []) (pa : Nat) : Untracked s pa :=
  ⟨h, by simp [c]⟩

/-- Core 0 is quiet and in its main pipeline or its tender. -/
theorem main_ready : Ready main g := ready_of (by decide) rfl rfl
theorem tend_tending : Tending tend g := tending_of (by decide) (by decide) rfl

theorem main_mapped : mappedB main = true := by decide

theorem reaches_at {s : State} (h : mappedB s = true) (kind : Access) {ea n : Nat} (pa : Nat) (e : ea = pa) (a : pa % n = 0) (b : pa + n ≤ 2 ^ 30) :
    Reaches s kind ea n pa := e ▸ reaches h kind (e ▸ a) (e ▸ b)

theorem addr_of {v b d : Nat} (e : v = b) (h : b + d < 2 ^ 64) : addr v d = b + d := by rw [e, addr, Nat.mod_eq_of_lt h]

/-! ### Witnesses

Each theorem here applies a statement to concrete states and operands, the boundary ones where a clause has a range. That it compiles
shows that they meet all hypotheses of the clause together. -/

theorem ends {α : Type} {p q : α → Prop} : (∃ t, p t ∧ q t) → ∃ t, p t := fun ⟨t, h, _⟩ => ⟨t, h⟩
theorem ends2 {α β : Type} {p : α → Prop} {q : α → β → Prop} : (∃ t v, p t ∧ q t v) → ∃ t, p t := fun ⟨t, _, h, _⟩ => ⟨t, h⟩

/-- Shorthand for what the statements conclude. -/
def runs (ins : Instr) (s : State) : Prop := ∃ t, exec ins s = .next t

theorem runs_of {ins : Instr} {s : State} {q : State → Prop} : (∃ t, exec ins s = .next t ∧ q t) → runs ins s := ends
theorem runs_of3 {β γ : Type} {ins : Instr} {s : State} {q : State → β → γ → Prop} : (∃ t y m, exec ins s = .next t ∧ q t y m) → runs ins s :=
  fun ⟨t, _, _, h, _⟩ => ⟨t, h⟩
theorem runs_of2 {β : Type} {ins : Instr} {s : State} {q : State → β → Prop} : (∃ t v, exec ins s = .next t ∧ q t v) → runs ins s := ends2

/-- Entry `i` of a list that a statement goes through. -/
theorem nth {α : Type} {l : List α} {a : α} (i : Nat) (h : l[i]? = some a) : a ∈ l := List.mem_of_getElem? h

theorem witness_integerResults (h : Obligations.IntegerResults) :
    runs (.add g 3 1 2) main ∧ runs (.clz g 3 1) tend ∧ runs (.cmp g 3 1 2 false .eq) main :=
  ⟨runs_of (h.1 main g (.inl main_ready) 3 1 2 0 0 0 0 0 _ _ _ (nth 0 rfl)),
   runs_of2 (h.2.1 tend g (.inr tend_tending) 3 1 0 _ _ (nth 0 rfl)),
   runs_of (h.2.2 main g (.inl main_ready) 3 0 0 1 2 _ _ (nth 0 rfl))⟩

theorem witness_floatResults (h : Obligations.FloatResults) :
    runs (.fadd g .f64 .rne 3 1 2) main ∧ runs (.fcvt g .f32 .int32 .rdn 3 1) tend ∧ runs (.fcmp g .f32 .un 3 1 2) tend :=
  ⟨runs_of (h.1 main g (.inl main_ready) .f64 .f64 .rne 3 1 2 _ _ _ (nth 0 rfl) (by decide)),
   runs_of (h.1 tend g (.inr tend_tending) .f32 .int32 .rdn 3 1 2 _ _ _
     (nth 8 rfl) (by decide)),
   runs_of (h.2 tend g (.inr tend_tending) .f32 .un 3 1 2 (by decide))⟩

/-- The last doubleword of the first GiB in scalar 1. -/
def memState : State := mainWith fun k => scalars k [0x3FFFFFF8]

theorem witness_scalarMemory (h : Obligations.ScalarMemory) : runs (.ldd g 3 1 0) memState ∧ runs (.stb g 3 1 (-1)) memState ∧ runs (.ldb g 3 1 0) memState :=
  ⟨runs_of (h.1 memState g (.inl (ready_of (by decide) rfl rfl)) 3 1 0 _ _ _ 0x3FFFFFF8
     (nth 6 rfl) (reaches (by decide) .read (by decide) (by decide))),
   runs_of (h.2 memState g (.inl (ready_of (by decide) rfl rfl)) 3 1 (-1) _ _ 0x3FFFFFF7 (nth 0 rfl)
     (reaches (by decide) .write (by decide) (by decide)) (untracked (by decide) (by decide) _)),
   runs_of (h.1 memState g (.inl (ready_of (by decide) rfl rfl)) 3 1 0 _ _ _ 0x3FFFFFF8 (nth 0 rfl)
     (reaches (by decide) .read (by decide) (by decide)))⟩

theorem witness_sliceRequests (h : Obligations.SliceRequests) :
    runs (.aadd g .int64 .die 4 1 2) memState ∧ runs (.acas g .int64 .job 4 1 2) memState ∧ runs (.tcall g 63 .core 62 1 2) memState := by
  have r : Ready memState g := ready_of (by decide) rfl rfl
  refine ⟨?_, ?_, ?_⟩
  · exact runs_of (h memState g (.inl r) .int64 .die 0 4 1 2 _ _ _ _ _ 0x3FFFFFF8 (nth 0 rfl) (by decide)
      (reaches (by decide) .write (by decide) (by decide)))
  · exact runs_of (h memState g (.inl r) .int64 .job 0 4 1 2 _ _ _ _ _ 0x3FFFFFF8
      (nth 7 rfl) (by decide) (reaches (by decide) .write (by decide) (by decide)))
  · exact runs_of (h memState g (.inl r) .int64 .core 63 62 1 2 _ _ _ _ _ 0x3FFFFFF8
      (nth 13 rfl) (by decide)
      (reaches (by decide) .write (by decide) (by decide)))

theorem witness_csrAccess (h : Obligations.CsrAccess) : runs (.csrr g 3 0x131) main ∧ runs (.csrr g 3 0x002) tend ∧
    runs (.csrw g 0x101 1) main ∧ runs (.csrc g 0x150 1) tend := by
  refine ⟨?_, ?_, ?_, ?_⟩
  · exact runs_of (h.1 main g 0x131 (.inl ⟨main_ready, by decide⟩) (by decide) 3)
  · exact runs_of (h.1 tend g 0x002 (.inr tend_tending) (by decide) 3)
  · exact runs_of (h.2 main g 0x101 1 (.inl ⟨main_ready, by decide, by decide⟩) (by decide) (by decide) _ _ _ (nth 0 rfl))
  · exact runs_of (h.2 tend g 0x150 1 (.inr tend_tending) (by decide) (by decide) _ _ _ (nth 2 rfl))

/-- `QueuesReady` as one check. -/
def queuesB (s : State) (qs : List QSrc) (ps : List QReg) : Bool :=
  let k := s.core s.turn
  let pops (n : QReg) : Nat := (qs.filter fun q => q.q = n && !q.peek).length
  (qs.map (·.q) ++ ps).all (fun n => n.toNat < k.qallot && (k.q n).length - pops n + (ps.filter (· = n)).length ≤ 4) &&
    qs.all (fun o => pops o.q ≤ (k.q o.q).length) && !peekFault k [] qs &&
    (resolveQ k [] qs).all (fun e => (e.landed || e.due ≤ s.clk) && !e.poison)

theorem queues_of {s : State} {qs : List QSrc} {ps : List QReg} (h : queuesB s qs ps = true) : QueuesReady s qs ps := by
  simp only [queuesB, Bool.and_eq_true, List.all_eq_true, decide_eq_true_eq, Bool.not_eq_eq_eq_not, Bool.not_true, Bool.or_eq_true] at h
  obtain ⟨⟨⟨a, b⟩, c⟩, d⟩ := h
  refine ⟨fun n m => (a n m).1, fun n => ?_, fun n m => (a n m).2, c, fun e m => (d e m).1, fun e m => (d e m).2⟩
  by_cases z : ∃ o ∈ qs, o.q = n
  · obtain ⟨o, m, rfl⟩ := z
    exact b o m
  · rw [List.filter_eq_nil_iff.2 (fun o m => by simp only [Bool.and_eq_true, decide_eq_true_eq, not_and]; exact fun e => absurd ⟨o, m, e⟩ z)]
    exact Nat.zero_le _

/-- Queue 0 full, queues 1 and 2 with two entries, queue 3 empty; scalar 4 at the last 256 bytes of the first GiB, scalar 5 a stride of 8,
scalar 6 the last place of the scratchpad for a vector. -/
def vecMain : State := mainWith fun k =>
  let e (i : Nat) := landedEntry (BitVec.ofNat 2048 (0x3F800000 + i))
  (scalars ((((k.setQ 0 [e 0, e 1, e 2, e 3]).setQ 1 [e 4, e 5]).setQ 2 [e 6, e 7])) [63, 0, 0, 0x3FFFFF00, 8, 0x1FFF00, 15])

theorem vecMain_ready : Ready vecMain g := ready_of (by decide) rfl rfl

theorem witness_vectorResults (h : Obligations.VectorResults) :
    runs (.vadd g .f32 .rne 0 ⟨0, false⟩ ⟨1, true⟩) vecMain ∧ runs (.vfma g .f32 .sr 2 ⟨0, false⟩ ⟨0, true⟩) vecMain ∧
    runs (.vsat g .int16 1 3 ⟨1, false⟩) vecMain ∧ runs (.vdot g .int8 3 ⟨0, false⟩ ⟨0, false⟩) vecMain ∧ runs (.viota g .int8 3) vecMain ∧ runs (.vredmax g .f32 3 ⟨0, false⟩) vecMain := by
  refine ⟨?_, ?_, ?_, ?_, ?_, ?_⟩
  · exact runs_of (h vecMain g vecMain_ready .f32 .f32 .rne .eq false 0 0 ⟨0, false⟩ ⟨1, true⟩ 0 _ _ _ _ _ (nth 0 rfl) (by decide) (queues_of (by decide)))
  · exact runs_of (h vecMain g vecMain_ready .f32 .f32 .sr .eq false 0 2 ⟨0, false⟩ ⟨0, true⟩ 0 _ _ _ _ _ (nth 4 rfl) (by decide) (queues_of (by decide)))
  · exact runs_of (h vecMain g vecMain_ready .int16 .f32 .rne .eq false 1 3 ⟨1, false⟩ ⟨0, true⟩ 0 _ _ _ _ _ (nth 17 rfl) (by decide) (queues_of (by decide)))
  · exact runs_of (h vecMain g vecMain_ready .int8 .f32 .rne .eq false 2 3 ⟨0, false⟩ ⟨0, false⟩ 0 _ _ _ _ _ (nth 22 rfl) (by decide) (queues_of (by decide)))
  · exact runs_of (h vecMain g vecMain_ready .int8 .f32 .rne .eq false 2 3 ⟨0, false⟩ ⟨0, false⟩ 0 _ _ _ _ _ (nth 25 rfl) (by decide) (queues_of (by decide)))
  · exact runs_of (h vecMain g vecMain_ready .f32 .f32 .rne .eq false 2 3 ⟨0, false⟩ ⟨0, false⟩ 0 _ _ _ _ _ (nth 32 rfl) (by decide) (queues_of (by decide)))

theorem witness_vectorToScalar (h : Obligations.VectorToScalar) : runs (.vextr g .f64 3 ⟨0, false⟩ 1) vecMain ∧ runs (.vany g .nat8 63 ⟨1, true⟩) vecMain ∧
    runs (.vpop g 2) vecMain := by
  refine ⟨?_, ?_, ?_⟩
  · exact runs_of (((h vecMain g vecMain_ready .f64 3 0 ⟨0, false⟩ 0 1).1 (queues_of (by decide))).1 (by decide))
  · exact runs_of ((((h vecMain g vecMain_ready .nat8 3 63 ⟨1, true⟩ 0 1).1 (queues_of (by decide))).2 (by decide)).2.1)
  · exact runs_of ((h vecMain g vecMain_ready .f64 3 0 ⟨0, false⟩ 2 1).2 (queues_of (by decide)))

theorem witness_vectorMemory (h : Obligations.VectorMemory) : runs (.vld g 0 3 4 0) vecMain ∧ runs (.vlds g 1 3 6 5 0) vecMain ∧
    runs (.vst g 0 0 4 0) vecMain ∧ runs (.vsts g 1 0 6 5 0) vecMain := by
  have at_ (j : Nat) (hj : j < 32) : vmemAt (vmemEa ((vecMain.core vecMain.turn).s 4) 0) 8 j = 0x3FFFFF00 + 8 * j := by
    have : vmemEa ((vecMain.core vecMain.turn).s 4) 0 = 0x3FFFFF00 := by decide
    rw [this]; simp only [vmemAt, addr]; omega
  have sp (j : Nat) (hj : j < 32) : vmemAt (vmemEa ((vecMain.core vecMain.turn).s 6) 0) 8 j + 8 ≤ (vecMain.core vecMain.turn).spSize := by
    have : vmemEa ((vecMain.core vecMain.turn).s 6) 0 = 0x1FFF00 := by decide
    have z : (vecMain.core vecMain.turn).spSize = 0x200000 := by decide
    rw [this, z]; simp only [vmemAt, addr]; omega
  have st : ((vecMain.core vecMain.turn).s 5).toNat = 8 := by decide
  refine ⟨?_, ?_, ?_, ?_⟩
  · refine runs_of2 (h.1 vecMain g vecMain_ready 0 3 4 5 0 _ _ (fun j => 0x3FFFFF00 + 8 * j) (nth 0 rfl) (by decide) (queues_of (by decide)) (by decide) (by decide) ?_)
    rw [if_neg (by decide)]
    exact fun j hj => reaches_at (by decide) .read _ (at_ j hj) (by omega) (by omega)
  · refine runs_of2 (h.1 vecMain g vecMain_ready 1 3 6 5 0 _ _ (fun j => j) (nth 1 rfl) (by decide) (queues_of (by decide)) (by decide) (by decide) ?_)
    rw [if_pos rfl]
    exact ⟨by decide, fun j hj => by rw [st]; exact sp j hj⟩
  · refine runs_of (h.2 vecMain g vecMain_ready 0 0 4 5 0 _ _ (fun j => 0x3FFFFF00 + 8 * j) (nth 0 rfl) (by decide) (queues_of (by decide)) (by decide) (by decide) ?_)
    intro j hj
    rw [if_neg (by decide)]
    exact ⟨reaches_at (by decide) .write _ (at_ j hj) (by omega) (by omega), untracked (by decide) (by decide) _⟩
  · refine runs_of (h.2 vecMain g vecMain_ready 1 0 6 5 0 _ _ (fun j => j) (nth 1 rfl) (by decide) (queues_of (by decide)) (by decide) (by decide) ?_)
    intro j hj
    dsimp only
    rw [if_pos rfl, if_pos rfl, st]
    exact sp j hj

theorem witness_permuteResults (h : Obligations.PermuteResults) : runs (.pack g .int4 3 3 ⟨0, false⟩) vecMain ∧
    runs (.bplx g .int8 3 ⟨1, true⟩ 7) (vecMain.onCore 0 fun k => k.setS 7 7) ∧ runs (.shuf g .int32 0 ⟨0, false⟩ ⟨2, false⟩) vecMain := by
  refine ⟨?_, ?_, ?_⟩
  · exact runs_of (h vecMain g vecMain_ready .int4 .rne 3 false 3 ⟨0, false⟩ ⟨0, false⟩ 1 _ _ _ _ _ (nth 0 rfl) (by decide) (queues_of (by decide)) (by simp))
  · exact runs_of (h (vecMain.onCore 0 fun k => k.setS 7 7) g (ready_of (by decide) rfl rfl) .int8 .rne 0 false 3 ⟨1, true⟩ ⟨0, false⟩ 7 _ _ _ _ _ (nth 6 rfl)
      (by decide) (queues_of (by decide)) (fun _ => by decide))
  · exact runs_of (h vecMain g vecMain_ready .int32 .rne 0 false 0 ⟨0, false⟩ ⟨2, false⟩ 1 _ _ _ _ _ (nth 3 rfl) (by decide) (queues_of (by decide)) (by simp))

/-- Scalar 7 at the last doubleword of the scratchpad, scalar 8 at 3 and scalar 9 at 15. -/
def selState : State := vecMain.onCore 0 fun k => ((k.setS 7 0x1FFFF8).setS 8 3).setS 9 15

theorem witness_selectLoads (h : Obligations.SelectLoads) : runs (.scld g 3 7) selState ∧ runs (.lselLdd g 31 ⟨0, false⟩ 8) selState ∧
    runs (.lselStd g 3 31 8) selState ∧ runs (.lselLdg g 15 ⟨0, true⟩ 9) selState ∧ runs (.lselStg g 3 15 9) selState := by
  have r : Ready selState g := ready_of (by decide) rfl rfl
  have a := h selState g r 3 7 31 15 3 ⟨0, false⟩
  have b := h selState g r 3 8 31 15 3 ⟨0, false⟩
  have c := h selState g r 3 9 31 15 3 ⟨0, true⟩
  exact ⟨runs_of (a.1 (by decide) (by decide) (by decide)), runs_of (b.2.1 (by decide) (queues_of (by decide))),
    runs_of (b.2.2.1 (by decide) (queues_of (by decide))), runs_of (c.2.2.2.1 (by decide) (queues_of (by decide)) (by decide)),
    runs_of (c.2.2.2.2 (by decide) (queues_of (by decide)))⟩

/-- Core 0 with a tile source in the last bytes of the first GiB. -/
def tileState : State := mainWith fun k =>
  { k with task := some { tenant := 0, graph := 0, node := 0, prio := 0, tileSrc := 0x3FFFFFF0 } }

theorem witness_delayedResults (h : Obligations.DelayedResults) : runs (.setfmt g 5) main ∧ runs (.ntreq g) main ∧ runs (.ntreq g) tileState := by
  refine ⟨runs_of ((h main g main_ready 5).1 (by decide)), runs_of ((h main g main_ready 5).2.1 ?_),
    runs_of ((h tileState g (ready_of (by decide) rfl rfl) 5).2.2 { tenant := 0, graph := 0, node := 0, prio := 0, tileSrc := 0x3FFFFFF0 } 0x3FFFFFF0
      (by decide) (by decide) (by decide) (reaches_at (by decide) .write 0x3FFFFFF0 (by decide) (by decide) (by decide)) (untracked (by decide) (by decide) _) (by decide))⟩
  intro k e
  have : some ({ tenant := 0, graph := 0, node := 0, prio := 0 } : Task) = some k := e
  cases this; rfl

/-- Scalar 7 at the last place of the scratchpad for an accumulator. -/
def accState : State := vecMain.onCore 0 fun k => k.setS 7 0x1FC000

theorem witness_accumulatorMoves (h : Obligations.AccumulatorMoves) : runs (.mzero g 15) vecMain ∧ runs (.mloadc g 15 7) accState ∧
    runs (.mwrite g 15 ⟨0, false⟩ 1) vecMain ∧ runs (.mread g 3 15 1) vecMain ∧ runs (.mcsq g 15 1 2) vecMain := by
  have a := h vecMain g vecMain_ready (by decide) 15 1 2 3 ⟨0, false⟩ 15
  have b := h accState g (ready_of (by decide) rfl rfl) (by decide) 15 7 2 3 ⟨0, false⟩ 15
  exact ⟨runs_of a.1, runs_of (b.2.1 (by decide) (by decide) (by decide)), runs_of (a.2.2.1 (by decide) (queues_of (by decide))),
    runs_of (a.2.2.2.1 (by decide) (by decide) (queues_of (by decide))), runs_of a.2.2.2.2⟩

/-- A ring of 16 tiles of bf16 with one tile, at its last index. -/
def ring : BitVec 128 := BitVec.ofNat 128 (2 ^ 63 + 2 * 2 ^ 56 + 15 * 2 ^ 44 + 2 ^ 96 + 2 ^ 88 + 15 * 2 ^ 80)
/-- Rings 0 and 15 with a tile each; scalar 1 at the last tile of the first GiB. -/
def ringState0 : State := mainWith fun k => scalars ((k.setG 0 ring).setG 15 ring) [0x3FFFE000]

theorem witness_passIssue (h : Obligations.PassIssue) : runs (.mpass g .bf16 0 false 15 ⟨0, false⟩ ⟨15, true⟩) ringState0 ∧
    runs (.mpassd g .bf16 15 false 0 ⟨15, false⟩ 1) ringState0 := by
  have a := h ringState0 g (ready_of (by decide) rfl rfl) (by decide) .bf16 0 false 15 ⟨0, false⟩ ⟨15, true⟩ 1
  have b := h ringState0 g (ready_of (by decide) rfl rfl) (by decide) .bf16 15 false 0 ⟨15, false⟩ ⟨0, true⟩ 1
  refine ⟨runs_of2 (a.1 (by decide) (by decide) (by decide) (by decide)),
    runs_of2 (b.2 (fun i => 0x3FFFE000 + i) (by decide) (by decide) (by decide) fun i hi => ?_)⟩
  exact reaches_at (by decide) .read _ (addr_of (by decide) (by omega))
    (by omega) (by omega)

/-- A descriptor of four elements of f32 from a byte address, with a sounding number. -/
def tensor (base snd : Nat) : Desc := ((4 * 2 ^ 40 + 1 : Nat) : BitVec 384) ++ BitVec.ofNat 128 (base + 2 ^ 57 + 2 ^ 64 + snd * 2 ^ 82)

/-- A cached plan that depends on sounding 1. -/
def planEntry : PlanEntry := { key := [], choices := [7], reassoc := false, gen := 1, soundings := [(1, 5)], used := 0 }

/-- Descriptors 0, 1 and 31 with soundings; scalar 1 at a region record of the last element alone, scalar 2 at the record of a sounding,
scalar 3 at 31; a plan in entry 63 of the cache, whose handle scalar 4 holds, and the requests of PQUERY in scalars 5 to 7. -/
def planState : State :=
  (mainWith fun k =>
    { (scalars (((((k.setD 0 (tensor 0x100000 1) false).setD 1 (tensor 0x100100 1) false).setD 31 (tensor 0x100200 1) false).setD 2 (tensor 0x100000 0) false).csrPut
        Csr.SNDBASE 0x200000) [0x300000, 0x300100, 31, 127, 1 + 127 * 2 ^ 32, 2 + 255 * 256 + 127 * 2 ^ 32]) with
      berth := { k.berth with forced := [(1, k.ir.cp, 127)], cache := [(63, planEntry)] } }).setNat
    0x300000 8 (3 + 2 ^ 32)

/-- A descriptor of one element. -/
def one : Desc := ((2 ^ 40 + 1 : Nat) : BitVec 384) ++ BitVec.ofNat 128 (0x100400 + 2 ^ 57 + 2 ^ 64)

/-- The same with one element in descriptor 0. -/
def sliceState : State := planState.onCore 0 fun k => k.setD 0 one false

theorem planState_ready : Ready planState g := ready_of (by decide +kernel) rfl rfl

theorem witness_logicalNodes (h : Obligations.LogicalNodes) : runs (.ladd g .rne 0 1 31) planState ∧ runs (.lslice g .rne 0 1 1) sliceState := by
  refine ⟨runs_of2 (h planState g planState_ready (by decide +kernel) .f32 .rne 0 1 31 1 _ _ _ _ _ _ (fun _ => 0) (nth 1 rfl) (by decide +kernel) (by simp) (by simp) (by decide +kernel)),
    runs_of2 (h sliceState g (ready_of (by decide +kernel) rfl rfl) (by decide +kernel) .f32 .rne 0 1 31 1 _ _ _ _ _ _ (fun j => 0x300000 + 8 * j) (nth 9 rfl) (by decide +kernel) (by simp)
      (fun j hj => reaches_at (by decide +kernel) .read _ ?_ (by omega) (by omega)) (by decide +kernel))⟩
  exact addr_of (by decide +kernel) (by omega)

theorem witness_demandCommits (h : Obligations.DemandCommits) : runs (.force g 0 1) planState ∧ runs (.force g 0 0) planState ∧ runs (.lstore g .rne 0 31) planState := by
  have a := h planState g planState_ready .rne 0 31 1 (fun j => 0x300000 + 8 * j)
  have b := h planState g planState_ready .rne 0 31 0 (fun j => 0x300000 + 8 * j)
  refine ⟨runs_of (a.1 (by decide +kernel) fun _ => ⟨fun j hj => reaches_at (by decide +kernel) .read _ ?_ (by omega) (by omega), by decide +kernel⟩),
    runs_of (b.1 (by decide +kernel) fun z => (z (by decide +kernel)).elim), runs_of (a.2 127 (by decide +kernel) (by decide +kernel) (by decide +kernel) (by decide +kernel))⟩
  exact addr_of (by decide +kernel) (by omega)

theorem witness_planCache (h : Obligations.PlanCache) : runs (.phint g 0) planState ∧ runs (.ppin g 4) planState ∧ runs (.punpin g 4) planState ∧
    runs (.pdrop g 4) planState ∧ runs (.pdrop g 0) planState ∧ runs (.pquery g 10 0) planState ∧ runs (.pquery g 10 5) planState ∧
    runs (.pquery g 10 6) planState := by
  let at_ (n o : Nat) : Nat := 0x200000 + 256 * n + o
  have z := h planState g planState_ready 0 10 63 planEntry at_
  have a := h planState g planState_ready 4 10 63 planEntry at_
  have b := h planState g planState_ready 5 10 63 planEntry at_
  have c := h planState g planState_ready 6 10 63 planEntry at_
  have v : ∀ p ∈ planEntry.soundings, p.1 ≠ 0 → ∀ o ∈ [0, 8, 16],
      Reaches planState .read (addr ((planState.core planState.turn).soundingVa p.1) o) 8 (at_ p.1 o) := by
    intro p m _ o ho
    obtain rfl : p = (1, 5) := List.mem_singleton.1 m
    have : o = 0 ∨ o = 8 ∨ o = 16 := by simpa using ho
    rcases this with rfl | rfl | rfl <;> exact reaches_at (by decide +kernel) .read _ (by decide +kernel) (by decide) (by decide)
  exact ⟨runs_of (z.1 (by decide +kernel) (by decide +kernel)), runs_of (a.2.1 (by decide +kernel) (.inr (by decide +kernel)) v), runs_of (a.2.2.1 (by decide +kernel)), runs_of (a.2.2.2.1 (by decide +kernel)),
    runs_of (z.2.2.2.2.1 (by decide +kernel)), runs_of (z.2.2.2.2.2.1 (by decide +kernel)),
    runs_of ((b.2.2.2.2.2.2 0 127 (by decide +kernel) (by decide +kernel)).1 (by decide +kernel)), runs_of ((c.2.2.2.2.2.2 255 127 (by decide +kernel) (by decide +kernel)).2 (by decide +kernel))⟩

theorem witness_soundings (h : Obligations.Soundings) : runs (.pstatr g 10 2 3) planState ∧ runs (.pstatr g 10 0 3) planState ∧
    runs (.pstatSet g 0 2) planState ∧ runs (.pstatScan g 0) planState := by
  have u : ∀ pa, Untracked planState pa := untracked (by decide +kernel) (by decide +kernel)
  have a := h planState g planState_ready 10 3 2 0 0 fun _ => 0
  have b := h planState g planState_ready 10 3 0 0x2001F8 0 fun _ => 0
  have c := (h planState g planState_ready 10 2 0 0x200100 0x3001FF fun i => 0x300108 + 8 * i).2.2 (by decide +kernel) (by decide +kernel) (by decide +kernel)
    (reaches_at (by decide +kernel) .write _ (by decide +kernel) (by decide +kernel) (by decide +kernel)) (u _) (u _) (by decide +kernel)
  refine ⟨runs_of (a.1 (by decide +kernel) (by decide +kernel) (by decide +kernel)),
    runs_of (b.2.1 (by decide +kernel) (by decide +kernel) (by decide +kernel) (reaches_at (by decide +kernel) .read _ (by decide +kernel) (by decide +kernel) (by decide +kernel))),
    runs_of (c.1 (by decide +kernel) (fun i hi => reaches_at (by decide +kernel) .read _ ?_ (by omega) (by omega))
      (reaches_at (by decide +kernel) .read _ (by decide +kernel) (by decide +kernel) (by decide +kernel)) ?_),
    runs_of2 (c.2 (by decide +kernel) (by decide +kernel) (by decide +kernel))⟩
  · exact (addr_of (b := 0x300100) (by decide +kernel) (by omega)).trans (by omega)
  · decide +kernel

/-- The last row alone, at the last 256 bytes of the first GiB. -/
def storeState : State := mainWith fun k => scalars k [0x3FFFFF00, 63 + 64 + 64 * 2 ^ 32]

theorem witness_accumulatorStore (h : Obligations.AccumulatorStore) : runs (.mstorec g .f32 .sr 1 15 2) storeState := by
  refine runs_of2 (h storeState g (ready_of (by decide +kernel) rfl rfl) rfl rfl .f32 .sr 1 2 15 (fun _ => 0x3FFFFF00) rfl (by decide +kernel) (by decide +kernel)
    (by decide +kernel) (by decide +kernel) (by decide +kernel) fun i hi => ?_)
  have lt : i < 1 := hi
  obtain rfl : i = 0 := by omega
  exact ⟨reaches_at (by decide +kernel) .write _ (by decide +kernel) (by decide) (by decide), by decide +kernel, fun _ => rfl⟩

/-- `ChecksPass` as one check. -/
def checksB (ins : Instr) (s : State) : Bool :=
  match slotOf ins with
  | none => true
  | some sl =>
    let x : Ctx := { s := s, c := s.turn, k := s.core s.turn, pos := sl.pos }
    sl.check x = none && (sl.claims x).all fun q => 1 ≤ q.2.1

theorem checks_of {ins : Instr} {s : State} (h : checksB ins s = true) : ChecksPass ins s := by
  intro sl e
  simp only [checksB, e, Bool.and_eq_true, decide_eq_true_eq, List.all_eq_true] at h
  exact h

/-- Engine 1 with 31 requests; a copy of 2^32 - 1 bytes in scalars 1 to 3, an empty ring in ring 15. -/
def copyState : State := mainWith fun k =>
  let r : Req := { op := .evblk 0, sg := ⟨0, false⟩, pc := 0, root := 1 }
  { (scalars (k.setG 15 (BitVec.ofNat 128 (2 ^ 63 + 2 * 2 ^ 56 + 15 * 2 ^ 44))) [0x100000, 0x200000, 0xFFFFFFFF, 128]) with e1 := { reqs := List.replicate 31 r } }

theorem witness_copyRequests (h : Obligations.CopyRequests) : runs (.cpy g true ⟨31, true⟩ 0 1 2 3) copyState ∧ runs (.rpush g true ⟨0, false⟩ false 15 2 4) copyState := by
  have a := h copyState g (ready_of (by decide +kernel) rfl rfl) true ⟨31, true⟩ false false .core 0 0 .rne 1 2 3 0 0 0 (by decide +kernel)
  have b := h copyState g (ready_of (by decide +kernel) rfl rfl) true ⟨0, false⟩ false false .core 0 0 .rne 1 2 4 0 0 15 (by decide +kernel)
  exact ⟨runs_of (a.1 _ _ (nth 0 rfl) (by decide +kernel) (checks_of (by decide +kernel))), runs_of (b.2 (by decide +kernel) (checks_of (by decide +kernel)))⟩

theorem witness_transfers (h : Obligations.Transfers) : runs (.br g (-65536)) main ∧ runs (.loop g 1 65535) tend :=
  ⟨runs_of (h main g (.inl main_ready) (-65536) 0 1 2).1, runs_of (h tend g (.inr tend_tending) 65535 0 1 2).2.2.2.2.2⟩

/-- A semaphore at its threshold, scalar 1, with a notice in progress and seven regions open. -/
def waitState : State := mainWith fun k =>
  { scalars (k.setW 31 0xFFFFFFFF) [0xFFFFFFFF] with
    notice := { k.notice with running := true }
    contain := { regions := List.replicate 7 { handler := 0, inNotice := false } } }

theorem witness_taskControl (h : Obligations.TaskControl) : runs (.wait g 31 1) waitState ∧ runs (.waitCon g 31 1) waitState ∧ runs (.nret g) waitState ∧
    runs (.trap g 255) waitState ∧ runs (.cropen g 64) waitState ∧ runs (.crclose g) waitState := by
  have a := h waitState g (ready_of (by decide +kernel) rfl rfl) 31 1 255 64
  exact ⟨runs_of (a.1 (by decide +kernel)), runs_of (a.2.1 (by decide +kernel)), runs_of (a.2.2.1 rfl), runs_of a.2.2.2.1, runs_of (a.2.2.2.2.1 (by decide)),
    runs_of (a.2.2.2.2.2 (by decide +kernel))⟩

/-- All queues allotted, the last one holding an entry; scalar 1 at 64. -/
def queueState : State := mainWith fun k => scalars (k.setQ 63 [landedEntry 0]) [64]

theorem witness_smallStateChanges (h : Obligations.SmallStateChanges) : runs (.semadd g 31 1) tend ∧ runs (.slotq g true 3 1) queueState ∧
    runs (.grow g 64) queueState ∧ runs (.shrink g 4) queueState := by
  have r : Ready queueState g := ready_of (by decide +kernel) rfl rfl
  refine ⟨runs_of (h.1 tend g (.inr tend_tending) 31 1), runs_of (h.2.1 queueState g r true 3 1 (by decide +kernel) (by decide +kernel)),
    runs_of ((h.2.2 queueState g r 64).1 (by decide +kernel)), runs_of ((h.2.2 queueState g r 4).2 (by decide +kernel) ?_)⟩
  have all : ∀ n : Fin 64, ((queueState.core queueState.turn).q (BitVec.ofFin n)).all (fun e => e.landed) = true := by decide +kernel
  exact fun q e m => .inl (List.all_eq_true.1 (all q.toFin) e m)

/-- System calls served, with the line of core 0 at 0x600000. -/
def callState : State := main.ctlPut Ctl.SYSCBASE (BitVec.ofNat 64 (0x60 * 2 ^ 16 + 1))
/-- Nothing to wait for, and a pre-emption pending. -/
def yieldState : State := mainWith fun k => { k with pend := { k.pend with preempt := some 0 } }

theorem imageAt_of {s : State} (m : mappedB s = true) (p : bitAt (s.ctlGet Ctl.PSTBASE).toNat 0 = false) (c : s.codeLines = []) {va size : Nat} (a : va % 4096 = 0)
    (b : va + size + 128 ≤ 2 ^ 30) : ImageAt s va size (va + ·) :=
  ⟨a, fun o ho hm => ⟨reaches_at m .write _ (addr_of rfl (by omega)) (by omega) (by omega), untracked p c _⟩, fun _ _ _ _ _ _ e => Nat.add_left_cancel e⟩

/-- A place for the context at the end of the first GiB. -/
def haltState : State := mainWith fun k => k.csrPut Csr.CTXBASE 0x3FD98000

theorem witness_systemCallHaltYield (h : Obligations.SystemCallHaltYield) : runs (.sysc g 31 1) callState ∧ runs (.halt g) main ∧ runs (.halt g) haltState ∧
    runs (.yield g) yieldState ∧
    ∃ t, exec (.yield g) main = .next t ∧ (t.core 0).pend.preempt = none := by
  have queues : ∀ n : Fin 64, (haltState.core haltState.turn).q (BitVec.ofFin n) = [] := by decide +kernel
  refine ⟨runs_of (h.1 callState g (ready_of (by decide +kernel) rfl rfl) 31 1 (by decide +kernel) rfl rfl rfl rfl (untracked (by decide +kernel) rfl _)),
    runs_of ((h.2 main g main_ready).1 ⟨rfl, rfl, by decide +kernel, by decide +kernel⟩ rfl (by decide +kernel)),
    runs_of ((h.2 haltState g (ready_of (by decide +kernel) rfl rfl)).2.1 { tenant := 0, graph := 0, node := 0, prio := 0 } (0x3FD98000 + ·) rfl (by decide +kernel)
      (imageAt_of (by decide +kernel) (by decide +kernel) rfl (by decide +kernel) (by decide +kernel)) ⟨rfl, rfl, by decide +kernel, by decide +kernel⟩ rfl (fun _ _ => rfl) rfl
      (fun q => by rw [show (haltState.core haltState.turn).q q = [] from queues q.toFin]; exact ⟨by decide, fun _ m => nomatch m⟩) rfl), ?_, ?_⟩
  · obtain ⟨t, e, a, _⟩ := (h.2 yieldState g (ready_of (by decide +kernel) rfl rfl)).2.2
    have := a rfl
    exact ⟨t, e⟩
  · obtain ⟨t, e, _, b, c⟩ := (h.2 main g main_ready).2.2
    have := c rfl
    exact ⟨t, e, (b rfl rfl rfl (by decide)).1⟩

/-- A record whose only successor is listed at 0x500000. -/
def parent : BitVec 2048 := (BitVec.ofNat 2048 0x500000 <<< 960) ||| (1#2048 <<< 1024)
/-- A task of the one running node of a graph of two, whose other node waits for it alone. -/
def graphState : State :=
  { (mainWith fun k => { k with task := some { tenant := 0, graph := 5, node := 0, prio := 7 } }).setNat 0x500000 4 1 with
    graphs := [(5, { port := true, tenant := 0, base := 0x400000, count := 2,
                     nodes := [(0, { record := parent, counter := 0, state := 2 }), (1, { record := 0, counter := 1 })] })] }
/-- The same with the other node complete. -/
def lastState : State :=
  { graphState with
    graphs := [(5, { port := true, tenant := 0, base := 0x400000, count := 2,
                     nodes := [(0, { record := parent, counter := 0, state := 2 }), (1, { record := 0, counter := 1, state := 3 })] })] }

theorem witness_taskEnds (h : Obligations.TaskEnds) : (∃ t y m, exec (.taskend g) graphState = .next t ∧ t.graph 5 = some y ∧ Map.find y.nodes 1 = some m) ∧
    ∃ t, exec (.taskend g) lastState = .next t ∧ t.graph 5 = none := by
  constructor
  · obtain ⟨t, e, _, _, _, b⟩ := h graphState g (ready_of (by decide +kernel) rfl rfl) { tenant := 0, graph := 5, node := 0, prio := 7 } _ _ rfl rfl rfl
      (by decide +kernel) rfl rfl rfl rfl rfl rfl (fun _ m => nomatch m) rfl (by decide)
    obtain ⟨y, _, m, f, _, _, q, _⟩ := b 1 { record := 0, counter := 1 } (by decide +kernel) (by decide) rfl rfl
    exact ⟨t, y, m, e, f, q⟩
  · obtain ⟨t, e, _, _, a, _⟩ := h lastState g (ready_of (by decide +kernel) rfl rfl) { tenant := 0, graph := 5, node := 0, prio := 7 } _ _ rfl rfl rfl
      (by decide +kernel) rfl rfl rfl rfl rfl rfl (fun _ m => nomatch m) rfl (by decide)
    exact ⟨t, e, (a (by decide +kernel)).1⟩

/-- Scalar 1 at a record in the last 256 bytes of the first GiB, for a task of a graph. -/
def spawnState : State :=
  ({ mainWith fun k => { scalars k [0x3FFFFF00] with task := some { tenant := 0, graph := 5, node := 0, prio := 3 } } with
     graphs := [(5, { port := true, tenant := 0, base := 0x400000, count := 1, nodes := [(0, { record := 0, counter := 0, state := 2 })] })] } : State).setNat
    (0x3FFFFF00 + 141) 1 64

theorem witness_spawning (h : Obligations.Spawning) : runs (.spawn g true 31 1) spawnState := by
  exact runs_of3 (h spawnState g (ready_of (by decide +kernel) rfl rfl) true 31 1 { tenant := 0, graph := 5, node := 0, prio := 3 } _ 0x3FFFFF00 (by decide +kernel)
    rfl rfl rfl rfl (fun _ m => nomatch m) (reaches_at (by decide +kernel) .read _ (by decide +kernel) (by decide) (by decide)) (by decide +kernel))

/-- Hardware queue 63 of tenant 0, with an extension of one entry, and `n` entries on the die; scalar 1 at 63. -/
def hwState (n : Nat) : State :=
  { (mainWith fun k => scalars k [63]).ctlPut (Ctl.HWQCFG 63) (BitVec.ofNat 64 (2 ^ 63 + 2 ^ 54 + 0x400)) with hwq := [(63, { die := List.replicate n 7 })] }

theorem witness_hardwareQueues (h : Obligations.HardwareQueues) : runs (.enq g 1 2) (hwState 63) ∧ runs (.enq g 1 2) (hwState 64) ∧ runs (.deq g 3 1) (hwState 1) := by
  have a := h (hwState 63) g (ready_of (by decide +kernel) rfl rfl) 1 2 3 (by decide +kernel) (by decide +kernel) (by decide +kernel)
  have b := h (hwState 64) g (ready_of (by decide +kernel) rfl rfl) 1 2 3 (by decide +kernel) (by decide +kernel) (by decide +kernel)
  have c := h (hwState 1) g (ready_of (by decide +kernel) rfl rfl) 1 2 3 (by decide +kernel) (by decide +kernel) (by decide +kernel)
  exact ⟨runs_of (a.1 (by decide +kernel) (by decide +kernel)),
    runs_of (b.2.1 (by decide +kernel) (by decide +kernel) (by decide +kernel) rfl rfl (untracked (by decide +kernel) rfl _)),
    runs_of (c.2.2 7 [] (by decide +kernel))⟩

/-- Snapshots on for tenant 0, and a module that has begun to cut. -/
def snapState : State := main.ctlPut Ctl.SNAPCFG 0x8000000000000000
def cuttingState : State := { snapState with snap := { snapState.snap with phase := 1 } }

theorem witness_snapStarts (h : Obligations.SnapStarts) : (∃ t, exec (.snap g) snapState = .next t ∧ t.snap.phase = 1) ∧
    ∃ t, exec (.snap g) cuttingState = .next t ∧ t.snap = cuttingState.snap := by
  constructor
  · obtain ⟨t, e, _, a, _⟩ := h snapState g (ready_of (by decide +kernel) rfl rfl) (by decide +kernel) (by decide +kernel) (by decide)
    exact ⟨t, e, (a rfl).1⟩
  · obtain ⟨t, e, _, _, a⟩ := h cuttingState g (ready_of (by decide +kernel) rfl rfl) (by decide +kernel) (by decide +kernel) (by decide)
    exact ⟨t, e, (a (by decide)).1⟩

/-- Core 0 owns a word in the range of scalars 1 and 2, the last eight bytes of the first GiB. -/
def fenceState : State := { mainWith fun k => scalars k [0x3FFFFFF8, 8] with owned := [(0x0FFFFFFF, { owner := 0, value := 7 })] }

theorem witness_fencesAndIdleSlots (h : Obligations.FencesAndIdleSlots) : runs (.fence g 127 127 1 2) fenceState ∧ runs (.fence g 1 1 0 0) tend ∧
    runs .nop main ∧ runs (.vadd ⟨true, 0⟩ .f32 .rne 63 ⟨48, false⟩ ⟨49, false⟩) main := by
  refine ⟨?_, runs_of (h.1 tend g (.inr tend_tending) 1 1 0 0 (by decide) (.inl (by decide +kernel)) rfl (fun _ => rfl) (by decide +kernel) rfl rfl (by decide +kernel)),
    runs_of (h.2 main main_ready.toQuiet).1,
    runs_of ((h.2 main main_ready.toQuiet).2 (.vadd ⟨true, 0⟩ .f32 .rne 63 ⟨48, false⟩ ⟨49, false⟩) _ rfl (by decide) rfl rfl (by decide +kernel) (by decide +kernel))⟩
  obtain ⟨t, e, _, _, _, f⟩ := h.1 fenceState g (.inl (ready_of (by decide +kernel) rfl rfl)) 127 127 1 2 (by decide) (.inr (by decide +kernel)) rfl (fun _ => rfl)
    (by decide +kernel) rfl rfl (by decide +kernel)
  have := f fun _ _ _ m => nomatch m
  exact ⟨t, e⟩

/-- Core 0 in its tender at level 2, or at level 1 with no context and a task that it has saved. -/
def tend2 : State := mainWith fun k => { k with level := 2 }
def releasing : State := mainWith fun k =>
  { k with
    level := 1
    task := none
    savedTask := some { core := 0, image := 0x700000, va := 0x700000, root := 1, task := { tenant := 0, graph := 0, node := 0, prio := 0 }, ready := true } }

theorem witness_returnFromTrap (h : Obligations.ReturnFromTrap) : runs (.eret g) tend2 ∧ runs (.eret g) tend ∧ runs (.eret g) releasing :=
  ⟨runs_of ((h tend2 g (tending_of (by decide +kernel) (by decide +kernel) rfl)).1 rfl), runs_of ((h tend g tend_tending).2.1 rfl rfl),
   runs_of ((h releasing g (tending_of (by decide +kernel) (by decide +kernel) rfl)).2.2 rfl rfl)⟩

/-- Scalar 1 at an image that ends in the last page of the first GiB, of a core whose scratchpad is 2 MiB. -/
def saveState : State := mainWith fun k => { scalars k [0x3FD98000] with level := 1 }

theorem witness_contextSave (h : Obligations.ContextSave) : runs (.ctxsv g 1) saveState := by
  have queues : ∀ n : Fin 64, (saveState.core saveState.turn).q (BitVec.ofFin n) = [] := by decide +kernel
  exact runs_of (h saveState g (tending_of (by decide +kernel) (by decide +kernel) rfl) 1 { tenant := 0, graph := 0, node := 0, prio := 0 } (0x3FD98000 + ·) rfl
    (imageAt_of (by decide +kernel) (by decide +kernel) rfl (by decide +kernel) (by decide +kernel)) ⟨rfl, rfl, by decide +kernel, by decide +kernel⟩ rfl (fun _ _ => rfl) rfl
    (fun q => by rw [show (saveState.core saveState.turn).q q = [] from queues q.toFin]; exact ⟨by decide, fun _ m => nomatch m⟩) rfl)

/-- A core without a context, and a complete image of a scratchpad of 15 parts at scalar 1. -/
def loadState : State :=
  ((mainWith fun k => { scalars k [0x3FBD8000] with level := 1, task := none }).setNat 0x3FBD8000 8 1).setNat 0x3FBD8400 8 15

theorem witness_contextRestore (h : Obligations.ContextRestore) : runs (.ctxld g 1) loadState := by
  exact runs_of2 (h loadState g (tending_of (by decide +kernel) (by decide +kernel) rfl) 1 (0x3FBD8000 + ·) (by decide +kernel) rfl
    (imageAt_of (by decide +kernel) (by decide +kernel) rfl (by decide +kernel) (by decide +kernel)) rfl (by decide +kernel) (by decide +kernel) (by decide +kernel)
    (by decide +kernel))

/-- Scalar 1 at the last core, scalar 2 at the last record of the first GiB, scalar 3 an entry without a core. -/
def scanState : State := mainWith fun k => { scalars k [319, 0x3FFFFFE0, 0] with level := 1 }

theorem witness_fieldTest (h : Obligations.FieldTest) : runs (.scan g 31 1 2) scanState ∧ runs (.lcmapw g 1 3) scanState := by
  have a := h scanState g (tending_of (by decide +kernel) (by decide +kernel) rfl) 31 1 2 0x3FFFFFE0
  have b := h scanState g (tending_of (by decide +kernel) (by decide +kernel) rfl) 31 1 3 0x3FFFFFE0
  exact ⟨runs_of (a.1 (by decide +kernel) (by decide +kernel) (reaches_at (by decide +kernel) .write _ (by decide +kernel) (by decide) (by decide))
    (untracked (by decide +kernel) rfl _) rfl fun _ m => nomatch m), runs_of (b.2 (by decide +kernel) (by decide +kernel))⟩

/-- A routine with two instructions left. -/
def routine : TellerRun := { core := 0, dst := 62, tenant := 0, id := 0, line := 0x30000, va := 0x30000, pc := 0, code := [0x90000000, 0x90000000] }
def routineState : State := { main with teller := some routine }
/-- Its last instruction, with both of its scalars awaited. -/
def lastRun : State :=
  { (mainWith fun k => { k with windows := [{ reg := .s 62, due := 0, late := true }, { reg := .s 63, due := 0, late := true }] }) with
    teller := some { routine with code := [0x90000000] } }

theorem witness_routineResults (h : Obligations.RoutineResults) : runs (.tellerAdd 1 2 3) routineState ∧ runs (.tellerLimm 7 (-4096)) routineState :=
  ⟨⟨_, h routineState routine rfl (by decide) 1 2 3 0 0 _ _ _ (nth 0 rfl) (by decide)⟩,
   ⟨_, h routineState routine rfl (by decide) 7 0 0 0 (-4096) _ _ _ (nth 46 rfl) (by decide)⟩⟩

theorem witness_routineMemory (h : Obligations.RoutineMemory) : runs (.tellerLdd 1 2 (-1)) routineState ∧ runs (.tellerStw 2 1 4095) routineState := by
  have a := (h routineState routine rfl (by decide) 1 2 0 (-1) 8 (.inr rfl)).1
  obtain ⟨_, b, _⟩ := (h routineState routine rfl (by decide) 0 2 1 4095 4 (.inl rfl)).2
  exact ⟨⟨_, a⟩, ⟨_, b⟩⟩

def atomic : SliceReq :=
  { core := 0, dst := 62, op := some (0x67, .nat64), tenant := 0, id := 0, pa := hbmSize - 8, va := 0, pc := 0, arg0 := 1, arg1 := 0 }
/-- An atomic of core 0 on the last doubleword of local memory, awaited in scalar 62. -/
def holdState : State :=
  { (mainWith fun k => { k with windows := [{ reg := .s 62, due := 0, late := true }] }) with
    sliceReqs := [atomic] }

theorem witness_holdEnds (h : Obligations.HoldEnds) : runs (.tellerLimm 0 5) lastRun ∧ runs (.sliceHold 0 0) holdState := by
  have a := h.1 lastRun { routine with code := [0x90000000] } rfl rfl 0 5 62 rfl (by decide) (by decide) (by decide +kernel) rfl rfl (by decide +kernel) rfl
  have b := h.2 holdState atomic .nat64 0x67 _ (.inr (.inr (.inl rfl))) (nth 7 rfl)
  have c := b rfl rfl rfl rfl (by decide) (by decide) (by decide +kernel) rfl rfl rfl (by decide +kernel)
  exact ⟨runs_of a, runs_of c⟩

/-- Core 0 runs an Ovnath program; scalar 1 at the last 256 bytes of the first GiB, scalar 3 at 63. -/
def ovnState : State :=
  { (mainWith fun k => scalars k [0x3FFFFF00, 0, 63]).ctlPut Ctl.SYSCBASE (BitVec.ofNat 64 (0x60 * 2 ^ 16 + 1)) with ovn := { core := 0, begun := true, running := true } }
/-- The same with its system call answered. -/
def ovnAnswered : State := { ovnState.onCore 0 fun k => k.setW 31 1 with ovn := { core := 0, begun := true, running := true, calling := true } }

/-- No queue of the core whose turn it is holds poison. -/
theorem no_poison {s : State} (h : (List.range 64).all (fun i => ((s.core s.turn).q (BitVec.ofNat 6 i)).all fun e => !e.poison) = true) :
    ∀ (q : QReg), ∀ e ∈ (s.core s.turn).q q, e.poison = false := by
  intro q e m
  have y := List.all_eq_true.mp h q.toNat (List.mem_range.mpr q.isLt)
  rw [BitVec.ofNat_toNat, BitVec.setWidth_eq] at y
  simpa using List.all_eq_true.mp y e m

theorem ovnState_turn : OvnTurn ovnState := ⟨rfl, rfl, rfl, rfl, no_poison (by decide +kernel), by decide +kernel⟩
theorem ovnAnswered_turn : OvnTurn ovnAnswered := ⟨rfl, rfl, rfl, rfl, no_poison (by decide +kernel), by decide +kernel⟩

theorem witness_ovnathScalars (h : Obligations.OvnathScalars) : runs (.ovnLis 0 0) ovnState ∧ runs (.ovnCmp 15 31 1 1 5) ovnState ∧ runs (.ovnLd 31 1 248) ovnState ∧
    runs (.ovnSt 31 1 248) ovnState := by
  have a := h ovnState ovnState_turn 0 0 0 0 0 0 0
  have b := h ovnState ovnState_turn 0 31 1 15 0 1 5
  have c := h ovnState ovnState_turn 31 1 0 0 248 0 0
  have r (k : Access) : Reaches ovnState k (addAddr ((ovnState.core ovnState.turn).s ((1 : BitVec 5).zeroExtend 6)).toNat (248 : BitVec 14).toInt) 8 0x3FFFFFF8 :=
    reaches_at (by decide +kernel) k _ (by decide +kernel) (by decide) (by decide)
  exact ⟨runs_of (a.1 _ _ (nth 12 rfl)), runs_of (b.2.1 (by decide)), runs_of ((c.2.2 0x3FFFFFF8).1 (r _)),
    runs_of ((c.2.2 0x3FFFFFF8).2 (r _) (untracked (by decide +kernel) rfl _))⟩

theorem witness_ovnathControl (h : Obligations.OvnathControl) : runs (.ovnJ (-262144)) ovnState ∧ runs .ovnEnd ovnState ∧ runs (.ovnSys 31 1) ovnState ∧
    runs (.ovnSys 31 1) ovnAnswered := by
  have a := h ovnState ovnState_turn 31 1 0 (-262144) 0 0
  have b := h ovnAnswered ovnAnswered_turn 31 1 0 0 0 0
  exact ⟨runs_of a.1, runs_of (a.2.2.2.2.2.1 rfl rfl (by decide +kernel) (by decide +kernel) rfl),
    runs_of (a.2.2.2.2.2.2.1 rfl (by decide +kernel) rfl rfl rfl rfl (untracked (by decide +kernel) rfl _)),
    runs_of (b.2.2.2.2.2.2.2 rfl (by decide +kernel) rfl rfl)⟩

/-- The same with vector registers 30 and 31 resident. -/
def ovnVecState : State :=
  { ovnState.onCore 0 fun k => (k.setQ 0 [landedEntry 30]).setQ 1 [landedEntry 31] with ovn := { core := 0, begun := true, running := true, place := [(30, 0), (31, 1)] } }

theorem ovnVecState_turn : OvnTurn ovnVecState := ⟨rfl, rfl, rfl, rfl, no_poison (by decide +kernel), by decide +kernel⟩

theorem placed_of {s u : State} {rd wr : List (BitVec 5)}
    (h : (match s.ovnPlaced rd wr with | .ok t => decide (t = u) | .error _ => false) = true) : s.ovnPlaced rd wr = .ok u := by
  cases e : s.ovnPlaced rd wr with
  | error t => simp [e] at h
  | ok t => simp only [e, decide_eq_true_eq] at h; rw [h]

/-- Vector registers 30 and 31 are resident as they stand. -/
theorem ovnVec_placed {rd wr : List (BitVec 5)} (h : (match ovnVecState.ovnPlaced rd wr with | .ok t => decide (t = ovnVecState) | .error _ => false) = true)
    (e : ∀ n ∈ rd, (ovnVecState.core ovnVecState.turn).q (ovnVecState.ovnQueue n) ≠ []) : OvnPlaced ovnVecState ovnVecState rd wr :=
  ⟨placed_of h, ovnVecState_turn, e⟩

theorem witness_ovnathVectors (h : Obligations.OvnathVectors) : runs (.ovnVadd 31 30 31 1 4) ovnVecState ∧ runs (.ovnVcvt 31 30 4 1 0) ovnVecState ∧
    runs (.ovnVdot 31 30 31 1 0) ovnVecState ∧ runs (.ovnVld 31 1 0) ovnVecState ∧ runs (.ovnVst 31 1 0) ovnVecState ∧ runs (.ovnVext 31 30 3 7) ovnVecState := by
  have at_ (j : Nat) (hj : j < 32) : addr (addAddr ((ovnVecState.core ovnVecState.turn).s ((1 : BitVec 5).zeroExtend 6)).toNat (8 * (0 : BitVec 14).toInt)) (8 * j) = 0x3FFFFF00 + 8 * j :=
    addr_of (by decide +kernel) (by omega)
  have m := h.2 ovnVecState ovnVecState 31 1 0 0 0 .f64 fun j => 0x3FFFFF00 + 8 * j
  have p (rd wr) := @ovnVec_placed rd wr
  refine ⟨runs_of (h.1 ovnVecState ovnVecState 31 30 31 1 4 0 .f32 .f64 _ _ _ _ (by decide) (by decide) (nth 0 rfl) (p _ _ (by decide +kernel) (by decide +kernel)) (fun _ => by decide +kernel) (by decide)),
    runs_of (h.1 ovnVecState ovnVecState 31 30 0 1 0 4 .f32 .int64 _ _ _ _ (by decide) (by decide) (nth 8 rfl) (p _ _ (by decide +kernel) (by decide +kernel)) (fun _ => by decide +kernel) (by decide)),
    runs_of (h.1 ovnVecState ovnVecState 31 30 31 1 0 0 .f32 .f64 _ _ _ _ (by decide) (by decide) (nth 11 rfl) (p _ _ (by decide +kernel) (by decide +kernel)) (fun _ => by decide +kernel) (by decide)),
    runs_of (m.1 (p _ _ (by decide +kernel) (by decide +kernel)) (by decide +kernel) fun j hj => reaches_at (by decide +kernel) .read _ (at_ j hj) (by omega) (by omega)),
    runs_of (m.2.1 (p _ _ (by decide +kernel) (by decide +kernel)) (by decide +kernel) fun j hj =>
      ⟨reaches_at (by decide +kernel) .write _ (at_ j hj) (by omega) (by omega), untracked (by decide +kernel) rfl _⟩),
    runs_of ((h.2 ovnVecState ovnVecState 31 30 3 7 0 .int8 fun _ => 0).2.2 (p _ _ (by decide +kernel) (by decide +kernel)) (by decide) (by decide))⟩

/-- A program that writes x15 is about to run its first bundle. -/
def ovnFresh : State := { ovnState with ovn := { core := 0, running := true, text := [0x01784400] } }
/-- Every queue for residents is taken, by the registers of the same numbers. -/
def ovnFull : State :=
  { ovnState.onCore 0 fun k => (List.range 24).foldl (fun k i => k.setQ (BitVec.ofNat 6 i) [landedEntry (BitVec.ofNat 2048 i)]) k with
    ovn := { core := 0, begun := true, running := true, place := (List.range 24).map fun i => (i, i) } }

theorem witness_ovnathPlacement (h : Obligations.OvnathPlacement) : runs .ovnEnd ovnFresh ∧ (∃ u, ovnVecState.ovnPlaced [31] [] = .ok u) ∧
    (∃ u, ovnVecState.ovnPlaced [] [29] = .ok u) ∧ (∃ u, ovnVecState.ovnPlaced [29] [] = .ok u) ∧ ∃ u, ovnFull.ovnPlaced [] [31] = .ok u := by
  have at_ (s : State) (x : BitVec 5) (e : (s.core s.turn).s s.ovn.base = 0) (j : Nat) (hj : j < 32) :
      addr (addAddr ((s.core s.turn).s s.ovn.base).toNat (256 * x.toNat)) (8 * j) = 256 * x.toNat + 8 * j := by
    rw [e]; simp only [addAddr, addr, wrap]; have := x.isLt; simp; omega
  have z := h ovnVecState 29 0 2 fun j => 256 * 29 + 8 * j
  have v := z.2 ovnVecState_turn (by decide +kernel) (by decide +kernel) (by decide +kernel)
  have c := v.2.1 (by decide +kernel) (by decide +kernel) (by decide +kernel) (by decide +kernel)
  have r := (h ovnVecState 31 0 1 fun _ => 0).2 ovnVecState_turn (by decide +kernel) (by decide +kernel) (by decide +kernel)
  have f := (h ovnFull 31 0 0 fun j => 8 * j).2 ⟨rfl, rfl, rfl, rfl, no_poison (by decide +kernel), by decide +kernel⟩ (by decide +kernel) (by decide +kernel) (by decide +kernel)
  refine ⟨?_, ⟨_, (r.1 (by decide +kernel)).1⟩, ?_, ?_, ?_⟩
  · obtain ⟨t, _, _, _, _, _, _, _, i⟩ := (h ovnFresh 0 0 0 fun _ => 0).1 rfl rfl
    have := i .ovnEnd (nth 2 rfl)
    exact ⟨_, this.trans (by rw [← this]; rfl)⟩
  · obtain ⟨u, e, _⟩ := c.1
    exact ⟨u, e⟩
  · obtain ⟨u, e, _⟩ := c.2 fun j hj => reaches_at (by decide +kernel) .read _ (at_ ovnVecState 29 (by decide +kernel) j hj) (by simp) (by simp; omega)
    exact ⟨u, e⟩
  · obtain ⟨u, e, _⟩ := f.2.2 (by decide +kernel) (by decide +kernel) (by decide +kernel) (by decide +kernel) (by decide +kernel) (by decide +kernel)
      (fun j hj => ⟨reaches_at (by decide +kernel) .write _ ((at_ ovnFull 0 (by decide +kernel) j hj).trans (by simp)) (by omega) (by omega), untracked (by decide +kernel) rfl _⟩)
      (fun i j _ _ => by omega)
    exact ⟨u, e⟩

/-- Scalar 1 at the last tile of the first GiB, scalar 2 at the one before it, scalar 3 a stride of 256. -/
def ovnTileState : State :=
  { (mainWith fun k => scalars (k.setQ 0 [landedEntry 0]) [0x3FFFE000, 0x3FFFC000, 256]) with ovn := { core := 0, begun := true, running := true, place := [(31, 0)] } }

theorem witness_ovnathTiles (h : Obligations.OvnathTiles) : runs (.ovnMz 7) ovnTileState ∧ runs (.ovnMrd 31 7 0) ovnTileState ∧ runs (.ovnMma 7 1 2 2) ovnTileState ∧
    runs (.ovnMst 2 7 3 1 4) ovnTileState := by
  have v : OvnTurn ovnTileState := ⟨rfl, rfl, rfl, rfl, no_poison (by decide +kernel), by decide +kernel⟩
  have a := h ovnTileState v rfl rfl rfl rfl 7 1 2 2 0 .bf16 (fun i => 0x3FFFE000 + 128 * i) fun i => 0x3FFFC000 + 128 * i
  have b := h ovnTileState v rfl rfl rfl rfl 31 7 0 2 0 .bf16 (fun _ => 0) fun _ => 0
  have c := h ovnTileState v rfl rfl rfl rfl 2 7 3 1 4 .f32 (fun i => 0x3FFFC000 + 256 * i) fun _ => 0
  have row (i : Nat) (hi : i < 64) : addAddr ((ovnTileState.core ovnTileState.turn).s ((2 : BitVec 5).zeroExtend 6)).toNat
      (i * signedOf 32 (((ovnTileState.core ovnTileState.turn).s ((3 : BitVec 5).zeroExtend 6)).toNat % 2 ^ 32)) = 0x3FFFC000 + 256 * i := by
    rw [show signedOf 32 (((ovnTileState.core ovnTileState.turn).s ((3 : BitVec 5).zeroExtend 6)).toNat % 2 ^ 32) = 256 by decide +kernel,
      show ((ovnTileState.core ovnTileState.turn).s ((2 : BitVec 5).zeroExtend 6)).toNat = 0x3FFFC000 by decide +kernel]
    simp only [addAddr, wrap]
    omega
  have m : mappedB ovnTileState = true := by decide +kernel
  refine ⟨runs_of (a.1 (by decide)), runs_of (b.2.1 (by decide) (by decide +kernel) rfl ovnTileState ⟨placed_of (by decide +kernel), v, fun _ m => nomatch m⟩ rfl rfl),
    runs_of (a.2.2.1 (by decide) (by decide) (fun _ _ => rfl) fun i hi =>
      ⟨reaches_at m .read _ (addr_of (by decide +kernel) (by omega)) (by omega) (by omega), reaches_at m .read _ (addr_of (by decide +kernel) (by omega)) (by omega) (by omega)⟩),
    runs_of (c.2.2.2 (by decide) (by decide) (fun _ _ => rfl) (by decide +kernel) (by decide +kernel) fun i hi =>
      ⟨reaches_at m .write _ (row i hi) (by omega) (by omega), ?_, fun _ _ => untracked (by decide +kernel) rfl _⟩)⟩
  have e := row i hi
  dsimp only at e ⊢
  rw [e, show 8 * fmtWidth fmtn0 .f32 = 256 from rfl]
  omega

/-- BOOTST tells of an OS image that may be restarted. -/
def restartState : State := main.ctlPut Ctl.BOOTST 0x100

theorem witness_resetsAndPins (h : Obligations.ResetsAndPins) : exec (.osRestart 0) restartState = .next restartState ∧ runs (.osRestart 3) restartState :=
  ⟨(h restartState 0 0).2.2.2.2.2.2.2.1 (.inl (by decide)), runs_of ((h restartState 3 0).2.2.2.2.2.2.2.2 (by decide) (by decide +kernel))⟩

/-- CP0 or CP1 owns CSEM. -/
def owned (n : Nat) : State := main.ctlPut Ctl.CSEM (BitVec.ofNat 64 n)
/-- CP0 was granted CSEM in this cycle, which CP1 asks for in the same one and did not own last. -/
def tieState : State := { owned 1 with control := { main.control with granted := 0, prevOwner := 0, lastOwner := 0 } }
def lockedState : State := { owned 1 with control := { main.control with locked := [Ctl.MODID] } }
def halfLocked : State := { owned 1 with control := { main.control with locked := [Ctl.PSTBASE] } }

theorem witness_registerWrites (h : Obligations.RegisterWrites) :
    exec (.registerWrite (.tender 0) 0x1028 8 0) main = .next main ∧ exec (.registerWrite .general 0x1028 2 0) main = .next main ∧
    runs (.registerWrite (.cp true) Ctl.SYSCBASE 8 0) main ∧ runs (.registerWrite (.cp true) (Ctl.SLOTTAB 7 63) 8 7) main ∧
    runs (.registerWrite (.cp false) Ctl.MODID 8 1) lockedState ∧ runs (.registerWrite (.cp true) (Ctl.MODID + 4) 4 1) main ∧
    runs (.registerWrite .general (Ctl.PSTBASE + 4) 4 1) halfLocked ∧ runs (.registerWrite (.cp false) (0x7000 + 2040) 8 7) (owned 1) ∧
    runs (.registerWrite (.cp true) (Ctl.SLOTTAB 7 63) 8 7) (owned 2) ∧ runs (.registerWrite .general Ctl.SYSCBASE 8 7) main ∧
    runs (.csemAcquire true) main ∧ runs (.csemAcquire true) tieState ∧ exec (.csemAcquire true) (owned 2) = .next (owned 2) ∧
    exec (.csemAcquire true) { owned 1 with clk := 7 } = .next { owned 1 with clk := 7 } ∧ runs (.csemRelease true) (owned 2) ∧
    exec (.csemRelease true) (owned 1) = .next (owned 1) := by
  have l (n : Nat) := h (owned n) .general 0 8 0 true
  refine ⟨(h main (.tender 0) 0x1028 8 0 true).1 (.inr (.inr (.inr ⟨0, rfl⟩))), (h main .general 0x1028 2 0 false).1 (.inl (by decide)),
    runs_of ((h main (.cp true) Ctl.SYSCBASE 8 0 true).2.1 (.inl rfl) ⟨rfl, rfl, rfl, by decide, by decide⟩ (.inr ⟨by decide, rfl⟩)),
    runs_of ((h main (.cp true) (Ctl.SLOTTAB 7 63) 8 7 true).2.1 (.inl rfl) ⟨rfl, rfl, by decide, by decide, by decide⟩ (.inl ⟨by decide, by decide +kernel⟩)),
    runs_of ((h lockedState (.cp false) Ctl.MODID 8 1 false).2.2.1 (.inl rfl) (.inr rfl) (by decide) (.inl (by decide))),
    runs_of ((h main (.cp true) (Ctl.MODID + 4) 4 1 true).2.2.1 (.inl rfl) (.inl rfl) (by decide) (.inl (by decide))),
    runs_of ((h halfLocked .general (Ctl.PSTBASE + 4) 4 1 false).2.2.1 (.inr ⟨rfl, rfl⟩) (.inl rfl) (by decide) (.inr (by decide))),
    runs_of ((h (owned 1) (.cp false) (0x7000 + 2040) 8 7 false).2.2.2.1 (.inl rfl) ⟨rfl, rfl, by decide, by decide, by decide⟩
      ⟨fun _ => by decide +kernel, fun _ => rfl⟩ (by decide)),
    runs_of ((h (owned 2) (.cp true) (Ctl.SLOTTAB 7 63) 8 7 true).2.2.2.2.1 (.inl rfl) ⟨rfl, rfl, by decide, by decide, by decide⟩
      ⟨fun _ => by decide +kernel, fun e => absurd e (by decide)⟩ (by decide)),
    runs_of ((h main .general Ctl.SYSCBASE 8 7 false).2.2.2.2.1 (.inr ⟨rfl, rfl⟩) ⟨rfl, rfl, rfl, by decide, by decide⟩
      ⟨fun e => absurd e (by decide), fun _ => rfl⟩ (by decide)),
    runs_of ((h main .general 0 8 0 true).2.2.2.2.2.1 (by decide +kernel)),
    runs_of ((h tieState .general 0 8 0 true).2.2.2.2.2.2.1 (by decide +kernel) (by decide +kernel) ⟨rfl, rfl⟩),
    (l 2).2.2.2.2.2.2.2.1 (by decide +kernel) (.inl (by decide +kernel)),
    (h { owned 1 with clk := 7 } .general 0 8 0 true).2.2.2.2.2.2.2.1 (by decide +kernel) (.inr fun e => absurd e.1 (by decide +kernel)),
    runs_of ((l 2).2.2.2.2.2.2.2.2.1 (by decide +kernel)), (l 1).2.2.2.2.2.2.2.2.2 (by decide +kernel)⟩

/-- CP1 owns CSEM, tenant 254 is valid, and a record at 0x400000 meets R324; core 7's task has halted, core 8's is suspended. -/
def portState : State :=
  { ((((owned 2).ctlPut (Ctl.TENCFG 254) 0x8000000000000000).ctlPut (Ctl.LNBASE 1) 0x400000).setNat (0x400000 + 141) 1 64).onCore 7 fun k =>
      { k with task := some { tenant := 254, graph := 9, node := 0, prio := 0, halted := true } } with
    saved := [{ core := 8, image := 0x700000, va := 0x700000, root := 1, task := { tenant := 254, graph := 9, node := 1, prio := 0 }, ready := false }] }
/-- A task of core 7 halted in an image as `loadState` has it, and `portState` with it. -/
def halted : SavedTask :=
  { core := 7, image := 0x3FBD8000, va := 0x3FBD8000, root := 1, task := { tenant := 254, graph := 9, node := 0, prio := 0 }, ready := true }
def imageState : State := ((portState.onCore 7 fun k => { k with savedTask := some halted }).setNat 0x3FBD8000 8 1).setNat 0x3FBD8400 8 15
def haltedPages : List Nat := (imageState.savedPages 7 halted).getD []
/-- LAUNCH of one record for tenant 254. -/
def launchOne : Word64 := BitVec.ofNat 64 (254 * 2 ^ 48 + 1)

theorem witness_portOperations (h : Obligations.PortOperations) : runs (.launch true 0) main ∧ runs (.launch true 0) portState ∧ runs (.launch true launchOne) portState ∧
    runs (.resume true 7) portState ∧ runs (.discard true 7) portState ∧ runs (.resume true 7) imageState ∧ runs (.resume true 8) portState ∧
    runs (.discard true 8) portState ∧ runs (.resume true 9) portState ∧ runs (.hwqConfigure true 63 7) portState ∧ runs (.lcmapWrite true 319 0) portState ∧
    exec (.lcmapWrite true 319 320) portState = .next portState := by
  have o : field (portState.ctlGet Ctl.CSEM).toNat 0 2 = (if true then 2 else 1) := by decide +kernel
  have c := (h portState true 7 63).2 o
  have r := c.2.2.1 _ rfl rfl
  have i := ((h imageState true 7 63).2 (by decide +kernel)).2.2.1 _ rfl rfl
  have x := ((h portState true 8 63).2 o).2.2.2.1 (fun _ m => nomatch m)
  have y := x.1 _ rfl
  exact ⟨runs_of ((h main true 0 0).1 (by decide +kernel) _ (.head _)), runs_of (((h portState true 0 0).2 o).1 (by decide +kernel)),
    runs_of2 (((h portState true launchOne 0).2 o).2.1 (by decide +kernel)), runs_of (r.1 rfl), runs_of r.2.2,
    runs_of (i.2.1 halted haltedPages rfl (by decide +kernel) (by decide) (by decide +kernel) (by decide +kernel) (by decide)), runs_of y.1, runs_of y.2,
    runs_of ((((h portState true 9 63).2 o).2.2.2.1 (fun _ m => nomatch m)).2 (by decide) _ (.head _)),
    runs_of (c.2.2.2.2.1 (by decide)), runs_of (((h portState true 0 319).2 o).2.2.2.2.2.1 (by decide) (by decide +kernel)),
    ((h portState true 320 319).2 o).2.2.2.2.2.2 (by decide) (by decide +kernel) (by decide +kernel)⟩

/-- An invalidation of each kind is under way, or waits for an access that had passed its check. -/
def busyState : State := (main.ctlPut Ctl.XINVC 0x8000000000000000).ctlPut Ctl.TLINV 0x8000000000000000
def landingState : State := { busyState with sliceReqs := [atomic] }
/-- Core 319 frozen, or waiting for a page, with a task. -/
def frozenState : State := main.onCore 319 fun k => { k with frozen := true }
def pageState : State := main.onCore 319 fun k => { k with pagein := true, task := some { tenant := 0, graph := 0, node := 0, prio := 0 } }
/-- SEMRAISE of 1 in semaphore 31 of core 319, and of a core that does not exist. -/
def raise (c : Nat) : Word64 := BitVec.ofNat 64 (2 ^ 32 + 31 * 2 ^ 9 + c)
/-- The last complete manifest stands in the last granule of its area, for epoch 5. -/
def backState : State :=
  (((((main.ctlPut Ctl.SNAPLAST 0x810000).ctlPut Ctl.SNAPAREA (BitVec.ofNat 64 (0x80 * 2 ^ 16 + 2 * 2 ^ 40))).ctlPut Ctl.ROLLEP 5).setNat 0x810008 8 5).setNat 0x810002 1 1)

/-- What holds of a core at reset and of every core that a state lists holds of each. -/
theorem core_all {s : State} {p : Core → Prop} (z : p {}) (h : ∀ e ∈ s.cores, p e.2) (d : Nat) : p (s.core d) := by
  simp only [State.core, Map.get_eq_find]
  generalize s.cores = l at h
  induction l with
  | nil => exact z
  | cons e l ih =>
    by_cases c : e.1 = d
    · simpa [Map.find, c] using h e (.head _)
    · simpa [Map.find, c] using ih fun x m => h x (.tail _ m)

theorem witness_controlReplies (h : Obligations.ControlReplies) : runs (.xinvStart (-1)) main ∧ runs (.xinvStart 0) busyState ∧ runs .xinvComplete busyState ∧
    runs .xinvComplete landingState ∧ runs (.tlinvStart (-1)) main ∧ runs .tlinvComplete busyState ∧ runs (.escDiscard 319) frozenState ∧
    runs (.escQuarantine 319) frozenState ∧ runs (.escDiscard 319) main ∧ runs (.pageinDone 319 1) pageState ∧ runs (.pageinDone 319 1) main ∧
    runs (.semraise (raise 319)) pageState ∧ runs (.semraise (raise 320)) main ∧ runs (.rollback 0) main ∧ runs (.rollback (2 ^ 62)) cuttingState ∧
    runs (.rollback (2 ^ 62)) main ∧ runs (.rollback (2 ^ 62)) backState := by
  have a := h main (-1) 319
  have b := h busyState 0 319
  have f := (h frozenState 0 319).2.2.2.2.2.2.1 rfl (by decide) rfl fun d _ =>
    core_all (p := fun k => ∀ r ∈ k.e0.reqs ++ k.e1.reqs, r.header = 0) (by decide) (by decide +kernel) d
  exact ⟨runs_of (a.1 (by decide +kernel)), ⟨_, b.2.1 (by decide +kernel)⟩, runs_of (b.2.2.1 (by decide +kernel) (by decide +kernel)),
    ⟨_, (h landingState 0 0).2.2.2.1 (by decide +kernel)⟩, runs_of (a.2.2.2.2.1 (by decide +kernel)),
    runs_of (b.2.2.2.2.2.1 (by decide +kernel) rfl), runs_of (f _ _ (.head _)), runs_of (f _ _ (.tail _ (.head _))), ⟨_, (a.2.2.2.2.2.2.2.1 rfl).1⟩,
    runs_of ((h pageState 1 319).2.2.2.2.2.2.2.2.1 rfl rfl), ⟨_, (h main 1 319).2.2.2.2.2.2.2.2.2.1 (.inl rfl)⟩,
    runs_of ((h pageState (raise 319) 319).2.2.2.2.2.2.2.2.2.2.1 (by decide +kernel) (by decide +kernel) rfl),
    ⟨_, (h main (raise 320) 0).2.2.2.2.2.2.2.2.2.2.2.1 (by decide +kernel)⟩,
    ⟨_, (h main 0 0).2.2.2.2.2.2.2.2.2.2.2.2.1 (by decide +kernel)⟩, runs_of ((h cuttingState (2 ^ 62) 0).2.2.2.2.2.2.2.2.2.2.2.2.2.1 (by decide +kernel) rfl),
    runs_of ((h main (2 ^ 62) 0).2.2.2.2.2.2.2.2.2.2.2.2.2.2.1 (by decide +kernel) (by decide +kernel) (by decide +kernel)),
    runs_of ((h backState (2 ^ 62) 0).2.2.2.2.2.2.2.2.2.2.2.2.2.2.2 (by decide +kernel) (by decide +kernel) (by decide +kernel) (by decide +kernel)
      (by decide +kernel) (by decide +kernel) (by decide +kernel) (by decide +kernel) (by decide +kernel) rfl rfl (by decide +kernel) fun _ m => nomatch m)⟩

/-- Core 319, the second core of tenant 254, free for a pool node homed on it; an armed timer of core 0 whose time has come. -/
def poolRecord : BitVec 2048 := 64#2048 <<< (8 * 141)
def freeState : State :=
  { ((main.onCore 0 fun k => k.csrPut Csr.TCMP 0x8000000000000000).ctlPut (Ctl.TENCFG 254) 0x8008000000000000).ctlPut (Ctl.TENMAP 39) 0xFEFEFFFFFFFFFFFF with
    graphs := [(9, { port := false, tenant := 254, base := 0x400000, count := 1,
                     nodes := [(0, { record := poolRecord, counter := 0, state := 1, home := some 319 })] })] }
/-- A timetabled node of the tenant's second core instead, released and due in frame 0. -/
def timedRecord : BitVec 2048 := poolRecord ||| (0x80#2048 <<< (8 * 140)) ||| (1#2048 <<< (8 * 160))
def timedState : State :=
  { freeState with
    graphs := [(9, { port := false, tenant := 254, base := 0x400000, count := 1,
                     nodes := [(0, { record := timedRecord, counter := 0, state := 1 })] })] }

theorem witness_framesAndDispatch (h : Obligations.FramesAndDispatch) : runs .frameAdvance main ∧ runs .frameAdvance { freeState with frameDue := true } ∧
    runs (.deadlineOverrun 254) freeState ∧ runs (.deadlineOverrun 0) { main with clk := 1023 } ∧ runs (.poolNodeStealable 254) freeState ∧
    runs (.timerNoticePending 0) freeState ∧ runs (.timerNoticePending 0) main ∧ runs (.taskDispatch 0) main ∧ runs (.taskDispatch 319) freeState ∧
    runs (.taskDispatch 319) timedState := by
  have a := h freeState 0 254
  refine ⟨⟨_, (h main 0 0).1 rfl⟩, runs_of ((h { freeState with frameDue := true } 0 0).2.1 rfl), runs_of (a.2.2.1 rfl (by decide +kernel)),
    ⟨_, (h { main with clk := 1023 } 0 0).2.2.2.1 (by decide)⟩, ⟨_, a.2.2.2.2.1⟩, runs_of (a.2.2.2.2.2.1.1 (by decide +kernel) (by decide +kernel)),
    ⟨_, (h main 0 0).2.2.2.2.2.1.2 (.inl (by decide +kernel))⟩, ⟨_, (h main 0 0).2.2.2.2.2.2.1 (by decide +kernel)⟩, ?_, ?_⟩
  · obtain ⟨t, _, _, e, _⟩ := (h freeState 319 254).2.2.2.2.2.2.2 (by decide +kernel) (by decide +kernel) 9 0 _ _ rfl rfl (fun _ m => nomatch m) (by decide +kernel)
      (.inr ⟨by decide +kernel, by decide +kernel⟩)
    exact ⟨t, e⟩
  · obtain ⟨t, _, _, e, _⟩ := (h timedState 319 254).2.2.2.2.2.2.2 (by decide +kernel) (by decide +kernel) 9 0 _ _ rfl rfl (fun _ m => nomatch m) (by decide +kernel)
      (.inl (by decide +kernel))
    exact ⟨t, e⟩

/-- Core 319 with a task, a handler and what a change of it leaves. -/
def boundary (f : Core → Core) : State := main.onCore 319 fun k =>
  f { (k.csrPut Csr.TVEC 0x8000).csrPut Csr.NVEC 0x9000 with task := some { tenant := 0, graph := 0, node := 0, prio := 0 } }
def pending (p : Pending) : State := boundary fun k => { k with pend := p }
/-- Without a handler. -/
def noHandler : State := (pending { brk := some 9 }).onCore 319 fun k => k.csrPut Csr.TVEC 0
/-- The one active core of tenant 3, which has waited for 16 frames in an ENQ. -/
def stuckState : State := (boundary fun k => { k with enqFrames := 16 }).ctlPut (Ctl.TENMAP 39) 0x03FFFFFFFFFFFFFF

theorem witness_boundaryTraps (h : Obligations.BoundaryTraps) :
    runs (.trapEntry 319) (pending { segCheck := some 5 }) ∧ runs (.trapEntry 319) (pending { memUe := [{ kind := 1, addr := 0, pc := 0 }] }) ∧
    runs (.trapEntry 319) (pending { teller := some 0 }) ∧
    runs (.trapEntry 319) (boundary fun k => { k with e0 := { record := some { kind := 1, opc := 1, addr := 0, pc := 0, time := 0 } } }) ∧
    runs (.trapEntry 319) (pending { memUe := [{ kind := 1, addr := 0, pc := 0, call := some 255 }] }) ∧
    runs (.trapEntry 319) (pending {}) ∧ runs (.watchdog 319) (boundary fun k => { k with idleFrames := 1024 }) ∧
    runs (.preemptForced 319) (pending { preempt := some 100000 }) ∧ runs (.escalation 319) noHandler ∧
    runs (.watchdogDuringSave 319) (boundary fun k => { k with saving := some 0x10000, idleFrames := 1024 }) ∧
    runs (.preemptRequest 319) (pending {}) ∧ runs (.preemptRequest 319) (pending { preempt := some 5 }) ∧ runs (.queueDeadlock 3) stuckState := by
  have b (p : Pending) : AtBoundary ((pending p).core 319) p :=
    ⟨rfl, rfl, ⟨rfl, rfl⟩, rfl, .inr (show (0 : Nat) < 1024 by decide)⟩
  let ev : MemEvent := { kind := 1, addr := 0, pc := 0 }
  let byCall : MemEvent := { kind := 1, addr := 0, pc := 0, call := some 255 }
  refine ⟨?_, ?_, ?_, ?_, ?_, ?_, ?_, ?_, ?_, ?_, ?_, ?_, ?_⟩
  · exact runs_of ((h (pending { segCheck := some 5 }) 319 5 0 ev).1 (by decide +kernel) _ 0x1A (nth 0 rfl) (b _))
  · exact runs_of ((h (pending { memUe := [ev] }) 319 5 0 ev).1 (by decide +kernel) _ 0x18 (nth 5 rfl) (b _))
  · exact runs_of ((h (pending { teller := some 0 }) 319 0 0 ev).1 (by decide +kernel) _ 0x16 (nth 6 rfl) (b _))
  · exact runs_of ((h (boundary fun k => { k with e0 := { record := some { kind := 1, opc := 1, addr := 0, pc := 0, time := 0 } } }) 319 0 0 ev).2.1
      (by decide +kernel) rfl rfl rfl _ rfl rfl rfl)
  · exact runs_of ((h (pending { memUe := [byCall] }) 319 0 0 byCall).2.2.1 (by decide +kernel) 255 (b _) (by decide) rfl)
  · exact ⟨_, (h (pending {}) 319 0 0 ev).2.2.2.1 (b _)⟩
  · exact runs_of ((h (boundary fun k => { k with idleFrames := 1024 }) 319 0 0 ev).2.2.2.2.1 (by decide +kernel) ⟨rfl, rfl, ⟨rfl, rfl⟩, rfl, .inr (by decide +kernel)⟩
      (by decide +kernel) (by decide +kernel))
  · exact runs_of ((h (pending { preempt := some 100000 }) 319 100000 0 ev).2.2.2.2.2.1 (by decide +kernel) (b _) (by decide +kernel))
  · exact runs_of ((h noHandler 319 0 9 ev).2.2.2.2.2.2.1 (by decide +kernel) ⟨rfl, rfl, ⟨rfl, rfl⟩, rfl, .inr (by decide +kernel)⟩ (by decide))
  · exact runs_of ((h (boundary fun k => { k with saving := some 0x10000, idleFrames := 1024 }) 319 0 9 ev).2.2.2.2.2.2.2.1 0x10000 rfl rfl (by decide +kernel)
      (by decide +kernel) (by decide) rfl rfl (by decide +kernel))
  · exact runs_of ((h (pending {}) 319 0 9 ev).2.2.2.2.2.2.2.2.1 rfl rfl)
  · exact runs_of ((h (pending { preempt := some 5 }) 319 0 9 ev).2.2.2.2.2.2.2.2.2.1 (.inr rfl))
  · exact runs_of ((h stuckState 319 3 9 ev).2.2.2.2.2.2.2.2.2.2 [] (by decide +kernel) (by decide +kernel) rfl (by decide +kernel) (by decide +kernel) (by decide +kernel))

/-- The events of `witness_noticesUnwindsCuts`. -/
def uncorrectable : MemEvent := { kind := 1, addr := 0, pc := 0 }
def innermost : Region := { handler := 0x7000, inNotice := false }
/-- A snapshot is being taken of tenant 0, whose task on core 319 is to cut. -/
def cutsState : State :=
  { (boundary fun k => { k with pend := { cutNow := true }, cutAge := 100000 }).ctlPut Ctl.SNAPCFG 0x8000000000000000 with snap := { phase := 1 } }
/-- The same with the task halted. -/
def haltedCut : State := cutsState.onCore 319 fun k => { k with task := some { tenant := 0, graph := 0, node := 0, prio := 0, halted := true } }
def noticed (n : Notice) : State := (boundary fun k => { k with notice := n }).onCore 319 fun k => k.csrPut Csr.RBENTRY 0xA000

theorem witness_noticesUnwindsCuts (h : Obligations.NoticesUnwindsCuts) :
    runs (.containmentUnwind 319) (boundary fun k => { k with contain := { regions := [innermost, innermost] }, pend := { memUe := [uncorrectable] } }) ∧
    runs (.containmentUnwind 319) main ∧ runs (.noticeDelivery 319) (noticed { ldDone := [15] }) ∧ runs (.noticeDelivery 319) (noticed { ldFault := [(15, 7)] }) ∧
    runs (.noticeDelivery 319) (noticed { timer := some 7 }) ∧ runs (.noticeDelivery 319) (noticed { rollback := some 7, ldDone := [15] }) ∧
    runs (.noticeDelivery 319) ((noticed { ldDone := [15] }).onCore 319 fun k => k.csrPut Csr.NVEC 0) ∧ runs (.noticeDelivery 319) (noticed { running := true }) ∧
    runs (.coreCut 319) cutsState ∧ runs (.cutForced 319) cutsState ∧ runs (.cutForced 319) haltedCut ∧ runs (.coreCut 319) main ∧ runs (.cutForced 319) main := by
  have n (m : Notice) (r : m.running = false) := (h (noticed m) 319 uncorrectable innermost []).2.2.1
    ⟨rfl, rfl, ⟨rfl, rfl⟩, rfl, .inr (show (0 : Nat) < 1024 by decide)⟩ rfl r rfl
  have c := (h cutsState 319 uncorrectable innermost []).2.2.2.2.1 rfl rfl (by decide +kernel) rfl
  have d := (h haltedCut 319 uncorrectable innermost []).2.2.2.2.1 rfl rfl (by decide +kernel) rfl
  have z := (h main 319 uncorrectable innermost []).2.2.2.2.2
  refine ⟨runs_of ((h (boundary fun k => { k with contain := { regions := [innermost, innermost] }, pend := { memUe := [uncorrectable] } }) 319 uncorrectable innermost
      [innermost]).1 rfl rfl rfl (by decide) (.inr rfl)), ⟨_, (h main 319 uncorrectable innermost []).2.1 rfl⟩,
    runs_of ((n { ldDone := [15] } rfl).1 0x9000 1 15 0 { } (.inl ⟨[], by decide +kernel, rfl, rfl, by decide +kernel, rfl, rfl, rfl⟩)),
    runs_of ((n { ldFault := [(15, 7)] } rfl).1 0x9000 2 15 7 { } (.inr (.inl ⟨[], by decide +kernel, rfl, rfl, rfl, by decide +kernel, rfl, rfl⟩))),
    runs_of ((n { timer := some 7 } rfl).1 0x9000 3 0 7 { } (.inr (.inr (.inl ⟨by decide +kernel, rfl, rfl, rfl, rfl, by decide +kernel, rfl, rfl, rfl⟩)))),
    runs_of ((n { rollback := some 7, ldDone := [15] } rfl).1 0xA000 4 0 7 { ldDone := [15] } (.inr (.inr (.inr ⟨rfl, by decide +kernel, by decide, rfl, rfl, rfl⟩)))),
    ?_, ⟨_, (h (noticed { running := true }) 319 uncorrectable innermost []).2.2.2.1 rfl⟩, ⟨_, c.1 rfl rfl⟩, ⟨_, c.2 (.inl rfl) (by decide +kernel)⟩,
    ⟨_, d.2 (.inr ⟨rfl, rfl, rfl⟩) (by decide +kernel)⟩, ⟨_, z.1 rfl⟩, ⟨_, z.2 (by decide)⟩⟩
  exact ⟨_, ((h ((noticed { ldDone := [15] }).onCore 319 fun k => k.csrPut Csr.NVEC 0) 319 uncorrectable innermost []).2.2.1
    ⟨rfl, rfl, ⟨rfl, rfl⟩, rfl, .inr (by decide +kernel)⟩ rfl rfl rfl).2 (by decide +kernel) rfl⟩

theorem ok_of {ε α : Type} {x : Except ε α} {a : α} (h : x.toOption = some a) : x = .ok a := by
  cases x with
  | error e => exact nomatch h
  | ok b => exact congrArg _ (Option.some.inj h)

/-- What an instruction answers with a property. -/
def nextB (o : Host.Outcome State Fault Refusal) (p : State → Bool) : Bool :=
  match o with
  | .next t => p t
  | _ => false

theorem next_of {o : Host.Outcome State Fault Refusal} {p : State → Bool} (h : nextB o p = true) : ∃ t, o = .next t ∧ p t = true := by
  cases o with
  | next t => exact ⟨t, rfl, h⟩
  | fault _ => exact nomatch h
  | refused _ => exact nomatch h

/-- A literal bundle of ADD alone, in core 0's main pipeline, and what its fetch gives. -/
def fetchState : State := (State.reset.placeNative 80 295256572112549183489).onCore 0 id
theorem at_fetch : AtPipe fetchState := ⟨rfl, ⟨rfl, rfl, rfl, rfl⟩, .inr ⟨by decide +kernel, by decide +kernel, _, rfl, rfl⟩⟩
def fetched : Got := ((fetchState.fetch 0 (fetchState.core 0).main.pc).toOption).getD ⟨{}, []⟩

/-- Core 0 with one result in flight, or a queue entry. -/
def flightState (late : Bool) : State := { (mainWith fun k => { k with windows := [{ reg := .s 1, due := 9, late := late }] }) with clk := 8 }
def entryState : State := { (mainWith fun k => k.setQ 63 [{ v := 1, due := 9 }]) with clk := 8 }
def dueState : State := mainWith fun k => { k with nt := [{ target := 3, value := 7, null := false, left := 0 }], fmtPend := [(5, 0)] }
def passing : Pass := { fmt := .f64, fmtn := 5, seq := 0, sat := false, acc := 14, a := [], b := some [], start := some 0 }
def passState (p : Pass) : State := mainWith fun k => { k with passes := [p], matFree := 0 }

/-- What holds of the entries of every queue, as one check. -/
theorem all_queues {k : Core} {p : QEntry → Prop} [DecidablePred p] (h : (List.range 64).all (fun i => (k.q (BitVec.ofNat 6 i)).all fun e => p e) = true) :
    ∀ (q : QReg), ∀ e ∈ k.q q, p e := by
  intro q e m
  have y := List.all_eq_true.mp h q.toNat (List.mem_range.mpr q.isLt)
  rw [BitVec.ofNat_toNat, BitVec.setWidth_eq] at y
  simpa using List.all_eq_true.mp y e m

theorem witness_resultEvents (h : Obligations.ResultEvents) : runs (.bundleIssue 0) fetchState ∧ runs (.bundleIssue 319) main ∧
    runs (.resultLanding 0 0) (flightState false) ∧ runs (.resultLanding 0 0) (flightState true) ∧ runs (.resultLanding 0 0) entryState ∧
    runs (.ntreqResult 0) dueState ∧ runs (.setfmtEffect 0) dueState ∧ runs (.splitWrite 0 15) (passState passing) ∧ runs (.splitWrite 0 15) main ∧
    (∃ t, exec (.tcmpWrite 0 (-1)) main = .next t ∧ (t.core 0).csrGet Csr.TCMP = -1) ∧
    (∃ t, exec (.tcmpWrite 0 0x8000000000000000) main = .next t ∧ (t.core 0).csrGet Csr.TCMP = BitVec.ofNat 64 ((0x8000000000000000 : Word64).toNat % 2 ^ 63)) ∧
    runs (.pageinRequest 319 0) pageState ∧ runs (.pageinRequest 319 1) main := by
  refine ⟨?_, ⟨_, (h main 319 0).2.1 (.inl (by decide))⟩, runs_of ((h (flightState false) 0 0).2.2.1 _ rfl rfl (by decide) (all_queues (by decide +kernel))),
    ⟨_, (h (flightState true) 0 0).2.2.2.1 _ rfl rfl⟩, runs_of ((h entryState 0 0).2.2.2.2.1 0 0 63 { v := 1, due := 9 } rfl (all_queues (by decide +kernel)) (by decide +kernel) rfl),
    runs_of ((h dueState 0 0).2.2.2.2.2.1 _ rfl rfl (by decide)), runs_of ((h dueState 0 0).2.2.2.2.2.2.1 5 0 (by decide) rfl),
    ⟨_, (h (passState passing) 0 15).2.2.2.2.2.2.2.1 (by decide +kernel)⟩, runs_of ((h main 0 15).2.2.2.2.2.2.2.2.1 (by decide +kernel) rfl), ?_, ?_,
    ⟨_, (h pageState 319 0).2.2.2.2.2.2.2.2.2.2.1 rfl⟩, runs_of ((h main 319 1).2.2.2.2.2.2.2.2.2.2.2 rfl)⟩
  · obtain ⟨u, e, _⟩ := next_of (p := fun t => t.turn = fetchState.turn)
      (by decide +kernel : nextB (exec (.add g 3 1 2) (fetchState.latch 0 fetched)) (fun t => t.turn = fetchState.turn) = true)
    exact ⟨_, ((h fetchState 0 0).1 rfl at_fetch (fun _ z => nomatch z) fetched (ok_of (by decide +kernel))).2 (.add g 3 1 2) u (by decide +kernel) e⟩
  · obtain ⟨t, e, _, a, _⟩ := (h main 0 (-1)).2.2.2.2.2.2.2.2.2.1
    exact ⟨t, e, (a (.inr (by decide +kernel))).1⟩
  · obtain ⟨t, e, _, _, b⟩ := (h main 0 0x8000000000000000).2.2.2.2.2.2.2.2.2.1
    exact ⟨t, e, (b (by decide) (by decide +kernel)).1⟩

/-- An MPASSD whose unit is free. -/
def waiting : Pass := { passing with b := none, start := none, bAt := [0x10000] }
/-- A stored row that has yet to be written at the end of local memory. -/
def rowState : State := mainWith fun k => { k with mstores := [{ writes := [(hbmSize - 2, [1, 2], false)], flags := 0, va := 0, pc := 0 }] }
/-- A demand of node 255 that has ended, and one with a break of tensor 1 yet to be reported. -/
def demand : Demand := { node := 255, full := true, pc := 0x10001, why := 0, breaks := [], ate := none, entry := some 63, flags := 0 }
def demandState (d : Demand) (pin : Bool) : State := planState.onCore 0 fun k =>
  { k with berth := { k.berth with demand := some d, cache := [(63, { planEntry with pin := pin })] } }

theorem witness_unitEvents (h : Obligations.UnitEvents) : runs (.mpassdStart 0) (passState waiting) ∧ runs (.mpassdStart 0) (mainWith fun k => { k with matFree := 1 }) ∧
    runs (.passCommit 0 0) (passState passing) ∧ runs (.passCommit 0 0) main ∧ runs (.mstorecWritesPerformed 0) rowState ∧
    runs (.demandComplete 0 255) (demandState demand false) ∧ runs (.demandComplete 0 254) (demandState demand false) ∧
    runs (.breakEvaluated 0 1 true) (demandState { demand with breaks := [(0, true, 0, true)] } false) ∧
    runs (.breakEvaluated 0 0 true) (demandState { demand with breaks := [(0, true, 0, true)] } false) ∧
    runs (.breakEvaluated 0 0 true) (demandState { demand with breaks := [(0, true, 2 ^ 24, true)] } true) ∧
    runs (.breakEvaluated 0 0 true) (demandState { demand with breaks := [(0, true, 2 ^ 24, true)] } false) := by
  have b (d pin) := (h (demandState d pin) 0).2.2.2.2.2.2.2
  refine ⟨runs_of ((h (passState waiting) 0).1 waiting rfl rfl (by decide) rfl ⟨rfl, rfl, rfl, by decide +kernel⟩),
    ⟨_, (h (mainWith fun k => { k with matFree := 1 }) 0).2.1 (by decide +kernel)⟩,
    runs_of ((h (passState passing) 0).2.2.1 passing [] rfl rfl rfl rfl rfl rfl (fun _ => rfl)), ⟨_, (h main 0).2.2.2.1 (by decide +kernel)⟩,
    runs_of ((h rowState 0).2.2.2.2.1 _ [] rfl rfl ⟨rfl, rfl, rfl, by decide +kernel⟩ (by decide +kernel)),
    runs_of ((h (demandState demand false) 0).2.2.2.2.2.1 demand rfl rfl rfl rfl rfl rfl), ⟨_, (h (demandState demand false) 0).2.2.2.2.2.2.1 254 ?_⟩,
    ⟨_, (b _ false _ _ _ _ _ [] rfl rfl).1 1 true (by decide)⟩, ⟨_, (b _ false _ _ _ _ _ [] rfl rfl).2.1 (by decide +kernel)⟩,
    runs_of ((b _ true _ _ _ _ _ [] rfl rfl).2.2.1 (by decide +kernel) (by decide) 63 { planEntry with pin := true } ⟨rfl, rfl⟩ rfl),
    runs_of ((b _ false _ _ _ _ _ [] rfl rfl).2.2.2 (by decide +kernel) 63 planEntry ⟨rfl, rfl⟩ (.inl rfl) (by decide +kernel) (fun _ => by decide +kernel))⟩
  intro d e
  have : some demand = some d := e
  cases this; decide

/-- A request of engine 0 of core 0, which holds the translation of the last granule of the first GiB. -/
def request (op : ReqOp) : Req := { op := op, sg := ⟨31, true⟩, pc := 0x10001, root := 1 }
def engineState (f : Core → Core) (rs : List Req) : State := mainWith fun k =>
  f { k with e0 := { reqs := rs }, tlb := [{ asid := 0, global := false, granule := 0x3FFF, pa := 0x3FFF0000, perm := 0xDF }] }
def oneReq (op : ReqOp) : State := engineState id [request op]
/-- A record is unresolved, behind a request that waits. -/
def recordState : State := mainWith fun k =>
  { k with e0 := { reqs := [{ request (.copy 1 0 1 1 0 0 0 0) with held := true }], record := some { kind := 1, opc := 1, addr := 0, pc := 0, time := 0 } } }
def pushReq : Req := { request (.rpush 15 15 0 128 false 2) with done := 64, started := true }
def fillReq : Req := { request (.ldblk 15 0x10000 64 true) with done := 64, started := true }

theorem fail_of {m : Move} {k v : Nat} (h : (match m with | .fail a b => decide (a = k ∧ b = v) | _ => false) = true) : m = .fail k v := by
  cases m <;> simp_all

theorem witness_engineEvents (h : Obligations.EngineEvents) : runs (.engineUnitWritten 0 false 0) (oneReq (.copy 1 3 1 128 0x1FFF80 0 0 0)) ∧
    runs (.engineUnitWritten 0 false 0) (oneReq (.copy 1 2 1 128 0x3FFFFF80 0 0 0)) ∧ runs (.engineUnitWritten 0 false 0) (oneReq (.copy 1 1 1 128 0x1FFF80 0x3FFFFF80 0 0)) ∧
    runs (.engineUnitFailure 0 false 0) (oneReq (.copy 1 1 1 128 0 0x40000000 0 0)) ∧ runs (.engineUnitFailure 0 false 0) (oneReq (.tensor (tensor 0x100000 0) (tensor 0x100000 0) .rne 0x4000)) ∧
    runs (.engineRequestComplete 0 false) (engineState id [{ request (.evblk 0) with ended := true }]) ∧ runs (.engineRequestComplete 0 true) main ∧
    runs (.engineResume 0) recordState ∧ runs (.engineAbort 0) recordState ∧ runs (.engineResume 0) main ∧
    runs (.tileAvailable 0 15) (engineState (fun k => k.setG 15 ring) [pushReq]) ∧ runs (.tileAvailable 0 15) main ∧
    runs (.loadBlockComplete 0 15) (engineState (fun k => { k with blocks := [(15, { base := 0x10000, count := 64, ntc := true, ticket := 0 })] }) [fillReq]) ∧
    runs (.loadBlockComplete 0 0) main := by
  have plain : ∀ op, (oneReq op).wordPoison = [] ∧ (oneReq op).sectorPoison = [] ∧ (oneReq op).owned = [] ∧ (oneReq op).hist = [] ∧ (oneReq op).teller = none ∧
      ((oneReq op).core 0).scratchPoison = [] := fun _ => ⟨rfl, rfl, rfl, rfl, rfl, rfl⟩
  have a (op) (n dst src da sa : Nat) (m) := (h (oneReq op) 0 false).1 0 n dst src da sa (request op) rfl m rfl rfl (plain op)
  have m (op) : (oneReq op).mayRun 0 false 0 (request op) = true := rfl
  have f (op) (kind va : Nat) (n : (oneReq op).nextUnit 0 (request op) = .fail kind va) := ((h (oneReq op) 0 false).2.1 0 kind va (request op) rfl (m op) rfl n rfl rfl).2
  have z := h main 0 false
  have r := (h recordState 0 false).2.2.2.2.1 _ rfl rfl rfl (by decide +kernel)
  refine ⟨runs_of ((a _ 128 0x1FFF80 0 0 0 (m _) (by decide) (by decide) rfl rfl (by decide) (by decide)).1 rfl (by decide +kernel) (by decide +kernel) (by decide) (by decide +kernel)),
    runs_of ((a _ 128 0x3FFFFF80 0 0x3FFFFF80 0 (m _) (by decide) (by decide) rfl rfl (by decide) (by decide)).2.1 rfl (by decide +kernel) (by decide +kernel)
      (ok_of (by decide +kernel)) (by decide) (by decide +kernel) (by decide +kernel)),
    runs_of ((a _ 128 0x1FFF80 0x3FFFFF80 0 0x3FFFFF80 (m _) (by decide) (by decide) rfl rfl (by decide) (by decide)).2.2 rfl (by decide +kernel) (by decide +kernel) (by decide)
      (ok_of (by decide +kernel)) (by decide +kernel)), ?_, ?_,
    runs_of ((h (engineState id [{ request (.evblk 0) with ended := true }]) 0 false).2.2.1 _ [] rfl rfl rfl (by decide +kernel) (by decide +kernel) rfl (by decide) rfl),
    ⟨_, (h main 0 true).2.2.2.1 rfl⟩, runs_of r.1, runs_of r.2, ⟨_, (z.2.2.2.2.2.1 rfl).1⟩,
    runs_of ((h (engineState (fun k => k.setG 15 ring) [pushReq]) 0 false).2.2.2.2.2.2.1 15 0 15 0 2 128 false pushReq (by decide +kernel) rfl rfl rfl (by decide)),
    ⟨_, z.2.2.2.2.2.2.2.1 15 (by decide +kernel)⟩,
    runs_of ((h (engineState (fun k => { k with blocks := [(15, { base := 0x10000, count := 64, ntc := true, ticket := 0 })] }) [fillReq]) 0 false).2.2.2.2.2.2.2.2.1
      15 0x10000 64 true fillReq _ rfl rfl rfl (by decide) rfl rfl rfl), ⟨_, z.2.2.2.2.2.2.2.2.2 rfl rfl 0⟩⟩
  · obtain ⟨t, e, _, p, _⟩ := f (.copy 1 1 1 128 0 0x40000000 0 0) 1 0x40000000 (fail_of (by decide +kernel))
    have := p rfl (by decide)
    exact ⟨t, e⟩
  · obtain ⟨t, e, _, _, p⟩ := f (.tensor (tensor 0x100000 0) (tensor 0x100000 0) .rne 0x4000) 7 0x4000 (fail_of (by decide +kernel))
    have := p (by decide) (.inl (by decide))
    exact ⟨t, e⟩

/-- Member 0 of group 1, whose member 1 is module 1 behind link 15, with snapshots of tenant 0 over the group. -/
def grouped (l : Link) : State :=
  { (((main.ctlPut (Ctl.LGRP 1) (BitVec.ofNat 64 (2 ^ 63 + 2 ^ 50))).ctlPut Ctl.LGMEM 0x0100).ctlPut Ctl.SNAPCFG (BitVec.ofNat 64 (2 ^ 63 + 2 ^ 44))) with
    links := [(15, l)] }
def upLink : Link := { up := true, peer := 1, plink := 15 }
/-- A flit of one byte at the end of a transfer, an abort, a marker. -/
def flit (kind off : Nat) : Flit := { kind := kind, group := 1, srcm := 1, dstm := 0, tag := 9, fin := true, len := 1, offset := off, payload := [7] }
def transfer : Inbound := { group := 1, src := 1, tag := 9 }
def received (x : Inbound) : State := { grouped upLink with inbound := [x] }
def sendReq : Req := { request (.send true 1 1 9 0 128) with started := true, via := [(1, 15)] }
def sending : State := (grouped upLink).onCore 0 fun k => { k with e0 := { reqs := [sendReq] } }
/-- The error ring serves one record at 0x900000. -/
def ringServed : State := main.ctlPut Ctl.ERRBASE (BitVec.ofNat 64 (2 ^ 63 + 0x900 * 2 ^ 12))
theorem ring_ready : RingReady ringServed := by
  refine ⟨?_, ?_, ?_, ?_⟩ <;> decide +kernel

theorem witness_linkEvents (h : Obligations.LinkEvents) : runs (.linkTrained 15 1 15) main ∧ runs (.linkTrained 16 1 15) main ∧ runs (.linkDown 15) main ∧
    runs (.linkDown 15) (grouped upLink) ∧ runs (.linkDown 15) sending ∧ runs (.dataFlitReceive 15 (flit 0 0)) (grouped upLink) ∧
    runs (.dataFlitReceive 15 (flit 0 1)) (received transfer) ∧ runs (.abortFlitReceive 15 (flit 3 0)) (received transfer) ∧
    runs (.dataFlitReceive 15 (flit 0 0)) (received { transfer with discard := true }) ∧
    runs (.dataFlitReceive 15 { flit 0 0 with fin := false }) (received { transfer with discard := true }) ∧
    runs (.abortFlitReceive 15 (flit 3 0)) (grouped upLink) ∧ runs (.abortFlitReceive 15 { flit 3 0 with fin := false }) (received { transfer with ended := true }) ∧
    runs (.abortFlitReceive 15 { flit 3 0 with fin := false }) (grouped upLink) ∧ runs (.dataFlitReceive 15 { flit 0 0 with dstm := 1 }) (grouped upLink) ∧
    runs (.dataFlitReceive 15 (flit 0 0)) (grouped { upLink with rollback := true }) ∧ runs (.dataFlitReceive 15 (flit 1 0)) main ∧
    runs (.dataFlitReceive 15 (flit 4 0)) ringServed ∧ runs (.dataFlitReceive 15 (flit 4 0)) main ∧ runs (.abortFlitReceive 15 (flit 1 0)) main ∧
    runs (.creditFlitReceive 15 (flit 1 0)) main := by
  have z := h main 15 1 15 (flit 1 0)
  have a := h (grouped upLink) 15 1 15 (flit 0 0)
  have b := h (grouped upLink) 15 1 15 (flit 3 0)
  have c := h (received transfer) 15 1 15
  have d := h (received { transfer with discard := true }) 15 1 15
  have n := h (received { transfer with ended := true }) 15 1 15 { flit 3 0 with fin := false }
  have o := h (grouped upLink) 15 1 15 { flit 3 0 with fin := false }
  refine ⟨runs_of (z.1 (by decide) (by decide +kernel)), ⟨_, (h main 16 1 15 (flit 1 0)).2.1 (.inl (by decide))⟩, ⟨_, z.2.2.1 rfl⟩,
    runs_of (a.2.2.2.1 rfl (by decide) rfl), ?_,
    runs_of2 (a.2.2.2.2.1 rfl (by decide +kernel) (fun _ m => nomatch m)),
    runs_of2 (((c (flit 0 1)).2.2.2.2.2.1 transfer [] [] (by decide +kernel) rfl ⟨rfl, rfl, rfl⟩ rfl (fun _ m => nomatch m)).1 rfl rfl),
    ⟨_, ((c (flit 3 0)).2.2.2.2.2.1 transfer [] [] (by decide +kernel) rfl ⟨rfl, rfl, rfl⟩ rfl (fun _ m => nomatch m)).2.1 rfl rfl rfl⟩,
    ⟨_, (((d (flit 0 0)).2.2.2.2.2.1 { transfer with discard := true } [] [] (by decide +kernel) rfl ⟨rfl, rfl, rfl⟩ rfl (fun _ m => nomatch m)).2.2.1 rfl rfl).1 rfl⟩,
    ⟨_, ((d { flit 0 0 with fin := false }).2.2.2.2.2.1 { transfer with discard := true } [] [] (by decide +kernel) rfl ⟨rfl, rfl, rfl⟩ rfl
      (fun _ m => nomatch m)).2.2.2 rfl rfl rfl⟩,
    ⟨_, b.2.2.2.2.2.2.1 rfl rfl (by decide +kernel) (fun _ m => nomatch m)⟩,
    ⟨_, (n.2.2.2.2.2.2.2.1 rfl rfl (by decide +kernel)).1 { transfer with ended := true } [] [] rfl ⟨rfl, rfl, rfl⟩ (fun _ m => nomatch m)⟩,
    ⟨_, (o.2.2.2.2.2.2.2.1 rfl rfl (by decide +kernel)).2 (fun _ m => nomatch m) (by decide +kernel)⟩,
    ⟨_, (h (grouped upLink) 15 1 15 { flit 0 0 with dstm := 1 }).2.2.2.2.2.2.2.2.1 15 (.inl rfl) (by decide +kernel) (by decide +kernel) (by decide +kernel)⟩,
    ⟨_, (h (grouped { upLink with rollback := true }) 15 1 15 (flit 0 0)).2.2.2.2.2.2.2.2.2.1 (.inl rfl) rfl rfl⟩,
    ⟨_, z.2.2.2.2.2.2.2.2.2.2.1 (.inr (by decide))⟩, runs_of (((h ringServed 15 1 15 (flit 4 0)).2.2.2.2.2.2.2.2.2.2.2.1 (by decide)).1 ring_ready),
    ⟨_, ((h main 15 1 15 (flit 4 0)).2.2.2.2.2.2.2.2.2.2.2.1 (by decide)).2 (by decide +kernel)⟩,
    ⟨_, z.2.2.2.2.2.2.2.2.2.2.2.2.1 (.inr (by decide))⟩, ⟨_, z.2.2.2.2.2.2.2.2.2.2.2.2.2⟩⟩
  obtain ⟨t, e, _, _, _, _, _, _, _, _, _, _, _, _, p⟩ := (h sending 15 1 15 (flit 0 0)).2.2.2.1 rfl (by decide) rfl
  have := p 0 1 1 1 9 0 128 true sendReq rfl rfl rfl rfl rfl rfl rfl rfl rfl rfl (by decide)
  exact ⟨t, e⟩

/-- A cut of epoch 4 runs at the last member link's marker. -/
def cutting (s : Snap) : State := { grouped upLink with snap := s }
def marker (off : Nat) : Flit := { flit 2 off with len := 0, payload := [] }
/-- The table and the area at 0x700000 and 0x800000, with granule 14 in state `st`, for snapshots of this module alone. -/
def tableState (st area : Nat) : State :=
  ((((main.ctlPut Ctl.SNAPCFG 0x8000000000000000).ctlPut Ctl.PSTBASE (BitVec.ofNat 64 (0x70 * 2 ^ 16 + 1))).ctlPut Ctl.SNAPAREA
    (BitVec.ofNat 64 (area * 2 ^ 40 + 0x80 * 2 ^ 16))).setNat 0x70000E 1 (4 + st))
/-- All dies but the last have armed, and their markers have come. -/
def armingState : State :=
  { tableState 3 1 with snap := { phase := 1, moduleCut := true, armed := [0, 1, 2, 3, 4, 5, 6], paths := (diePaths.filter fun p => p % 9 = 7) } }
/-- Nothing of the manifest is left to copy. -/
def endingState : State := { tableState 1 1 with snap := { phase := 2, cur := { addr := 0x800000 } } }
/-- A snapshot of this module alone begins, into an area of 64 granules at 0x800000, over the tasks of `s`. -/
def cutOver (s : State) : State :=
  { (s.ctlPut Ctl.SNAPCFG 0x8000000000000000).ctlPut Ctl.SNAPAREA (BitVec.ofNat 64 (64 * 2 ^ 40 + 0x80 * 2 ^ 16)) with snap := { phase := 1 } }
def cutCore (f : Core → Core) : State := cutOver (mainWith f)
def copying : State := { tableState 1 0 with snap := { phase := 2, cur := { granules := [(14, 0, false)] } } }

theorem witness_snapshotEvents (h : Obligations.SnapshotEvents) : runs (.markerReceive 15 (marker 5)) (cutting { epoch := 4 }) ∧
    runs (.markerReceive 15 (marker 4)) (cutting { epoch := 4, phase := 1 }) ∧ runs (.markerReceive 15 (marker 4)) main ∧
    runs (.markerReceive 15 (marker 4)) ringServed ∧ runs (.markerReceive 15 (flit 1 0)) main ∧
    runs (.rollbackMarkerReceive 15 (flit 1 0)) main ∧ runs (.rollbackMarkerReceive 15 (marker (2 ^ 63 + 4))) main ∧
    runs (.rollbackMarkerReceive 15 (marker (2 ^ 63 + 4))) (grouped upLink) ∧ runs .moduleCut main ∧ runs .moduleCut (cutOver State.reset) ∧
    runs .moduleCut (cutCore fun k => { k with frozen := true }) ∧ runs .moduleCut (cutCore fun k => { k with cut := true }) ∧
    runs (.snapshotArm 7) main ∧ (∃ t, exec (.snapshotArm 7) armingState = .next t ∧ t.pageState 14 = some 1) ∧ runs (.granuleCopy 14) main ∧
    runs (.granuleCopy 14) (tableState 1 1) ∧ runs (.backgroundCopy 14) (tableState 1 1) ∧ runs (.backgroundCopy 14) copying ∧
    runs .manifestEnd main ∧ runs .manifestEnd endingState := by
  have z := h main 15 7 14 (flit 1 0)
  have a := h armingState 15 7 14 (flit 1 0)
  have t := h (tableState 1 1) 15 7 14 (flit 1 0)
  have m (s : State) := h s 15 7 14 (marker 4)
  have r (s : State) := h s 15 7 14 (marker (2 ^ 63 + 4))
  have cuts (s : State) := (h s 15 7 14 (flit 1 0)).2.2.2.2.2.1
  have queues : ∀ n : Fin 64, ((cutCore fun k => { k with cut := true }).core 0).q (BitVec.ofFin n) = [] := by decide +kernel
  refine ⟨runs_of (((h (cutting { epoch := 4 }) 15 7 14 (marker 5)).1 rfl (by decide)).1 (by decide +kernel) ⟨by decide +kernel, by decide +kernel⟩ (by decide) rfl),
    ⟨_, ((m (cutting { epoch := 4, phase := 1 })).1 rfl (by decide)).2.1 (by decide +kernel) ⟨by decide +kernel, by decide +kernel⟩ rfl rfl rfl⟩,
    ⟨_, (((m main).1 rfl (by decide)).2.2 (by decide +kernel)).1 (by decide +kernel)⟩, runs_of ((((m ringServed).1 rfl (by decide)).2.2 (by decide +kernel)).2 ring_ready),
    ⟨_, z.2.1 (.inl (by decide))⟩, ⟨_, z.2.2.1 (.inl (by decide))⟩, ⟨_, (((r main).2.2.2.1 rfl (by decide)).1 (by decide +kernel)).1 (by decide +kernel)⟩,
    runs_of (((r (grouped upLink)).2.2.2.1 rfl (by decide)).2 (by decide +kernel) rfl), ⟨_, z.2.2.2.2.1 (.inl (by decide))⟩, ?_, ?_, ?_,
    ⟨_, z.2.2.2.2.2.2.2.1 (by decide +kernel) rfl⟩, ?_, ⟨_, (z.2.2.2.2.2.2.2.2.2.1 (by decide +kernel)).1⟩,
    ⟨_, t.2.2.2.2.2.2.2.2.2.2.1 (by decide +kernel)⟩,
    runs_of ((t.2.2.2.2.2.2.2.2.2.2.2.1 true (by decide +kernel) (.inr rfl)).1 0x70000E (by decide +kernel) (by decide +kernel) (by decide +kernel) (by decide +kernel)),
    runs_of (((h copying 15 7 14 (flit 1 0)).2.2.2.2.2.2.2.2.2.2.2.1 true (by decide +kernel) (.inr rfl)).2 (by decide +kernel) (by decide +kernel)),
    ⟨_, z.2.2.2.2.2.2.2.2.2.2.2.2.1 (by decide +kernel)⟩,
    runs_of ((h endingState 15 7 14 (flit 1 0)).2.2.2.2.2.2.2.2.2.2.2.2.2 rfl rfl (fun _ m => nomatch m) rfl (by decide) (by decide) (by decide) (by decide +kernel)
      (by decide +kernel) (by decide) ⟨rfl, rfl, rfl⟩ (by decide +kernel) ?_)⟩
  · obtain ⟨t, c, _⟩ := (cuts (cutOver State.reset) rfl rfl (by decide +kernel) (by decide +kernel) ⟨rfl, rfl, rfl⟩ (by decide +kernel)).1 (by decide +kernel)
    exact ⟨t, c.1⟩
  · obtain ⟨t, c, _⟩ := ((cuts (cutCore fun k => { k with frozen := true }) rfl rfl (by decide +kernel) (by decide +kernel) ⟨rfl, rfl, rfl⟩ (by decide +kernel)).2 0
      (by decide +kernel)).1 rfl
    exact ⟨t, c.1⟩
  · obtain ⟨t, c, _⟩ := ((cuts (cutCore fun k => { k with cut := true }) rfl rfl (by decide +kernel) (by decide +kernel) ⟨rfl, rfl, rfl⟩ (by decide +kernel)).2 0
      (by decide +kernel)).2 rfl rfl (by decide +kernel) (fun _ _ => rfl) rfl
      (fun q => by rw [show ((cutCore fun k => { k with cut := true }).core 0).q q = [] from queues q.toFin]; exact ⟨by decide, fun _ m => nomatch m⟩)
      (by decide +kernel) (by decide +kernel) (by decide +kernel) (by decide +kernel) (by decide +kernel) (by decide +kernel)
    exact ⟨t, c.1⟩
  · obtain ⟨u, e, _, _, p, _⟩ := a.2.2.2.2.2.2.2.2.1 (by decide +kernel) rfl (by decide +kernel) (by decide +kernel)
    exact ⟨u, e, (p 14 (by decide +kernel) (by decide) (by decide +kernel)).1⟩
  · intro x y i e
    rcases i with rfl | i
    · rw [show endingState.pageByte _ = some 0x700080 by decide +kernel] at e
      cases e; decide
    · exact nomatch i

def scan : Scan := { target := 319, core := 0, sem := 31, record := hbmSize - 32, started := 0 }
def scanned (clk : Nat) : State := { main with scans := [scan], clk := clk }
/-- A task of high priority waits for the core that is scanned. -/
def wanted : State :=
  { (main.ctlPut (Ctl.TENCFG 254) 0x8000000000000000).ctlPut (Ctl.TENMAP 39) 0xFEFFFFFFFFFFFFFF with
    scans := [scan]
    graphs := [(9, { port := false, tenant := 254, base := 0, count := 1, nodes := [(0, { record := 6#2048 <<< 1120, counter := 0, state := 1, home := some 319 })] })] }
/-- Core 0 owns the word at 0x10004. -/
def holder : State := { main with owned := [(0x4001, { owner := 0, value := 7 })] }

theorem witness_arrayErrors (h : Obligations.ErrorsAndAccesses) : runs (.scrubVisit 319) main ∧ runs (.arrayError (.pred 319 63) false) main ∧
    runs (.arrayError (.l1 0 7) true) main ∧ runs (.arrayError (.sector 7) true) ringServed ∧ runs (.arrayError (.pred 0 63) false) ringServed ∧
    runs (.arrayError (.l2 7) true) main ∧ runs (.arrayError (.scratch 0 0) true) main ∧ runs (.arrayError (.queue 0 0 0) true) vecMain ∧
    runs (.arrayError (.acc 0 15 63) true) main ∧ runs (.arrayError (.scalar 0 63) true) main ∧ runs (.arrayError (.pred 319 63) true) main ∧
    runs (.arrayError (.slice 0x10004) true) holder ∧ runs (.arrayError (.routine 255 255 63) true) main ∧
    runs (.arrayError (.pageState 14) true) (tableState 1 1) ∧ runs (.arrayError (.l1 0 0x10004) true) holder := by
  let q : BusAccess := ⟨0, .load, 0, [], none, false, none, false, false, 0⟩
  have z := h main 0 (.sector 0) q 1 1
  have y := h main 319 (.pred 319 63) q 1 1
  have o := h holder 0 (.sector 0) q 1 1
  have v := h vecMain 0 (.sector 0) q 1 1
  have ring : (main.ctlGet Ctl.ERRBASE).getLsbD 63 = false := by decide +kernel
  obtain ⟨t, e, _, r, _⟩ := (h ringServed 0 (.sector 0) q 1 1).2.2.2.1 7 0 0 63 0 0 0 0 true ring_ready (by decide) _ (.head _)
  exact ⟨⟨_, y.1⟩, ⟨_, y.2.1 ring (fun _ _ e => nomatch e)⟩, runs_of (z.2.2.1 7 ring (by decide +kernel) true), ⟨t, e⟩, runs_of r,
    runs_of (z.2.2.2.2.2.1 7 ring), runs_of (z.2.2.2.2.2.2.1 0 ring), runs_of (v.2.2.2.2.2.2.2.1 (0 : QReg) 0 (landedEntry 0x3F800000) (by decide +kernel) (by decide +kernel)),
    runs_of (z.2.2.2.2.2.2.2.2.1 15 63 (by decide) (by decide) ring), runs_of (z.2.2.2.2.2.2.2.2.2.1 63 (by decide) ring), runs_of (y.2.2.2.2.2.2.2.2.2.2.1 63 (by decide) ring),
    runs_of (o.2.2.2.2.2.2.2.2.2.2.2.1 0x10004 (by decide +kernel)), runs_of (z.2.2.2.2.2.2.2.2.2.2.2.2.1 255 255 63 ring),
    runs_of ((h (tableState 1 1) 0 (.sector 0) q 1 1).2.2.2.2.2.2.2.2.2.2.2.2.2.1 14 1 (by decide +kernel) (by decide +kernel)),
    runs_of (o.2.2.2.2.2.2.2.2.2.2.2.2.2.2.1 0x10004 _ rfl rfl (by decide +kernel) (by decide) rfl rfl (by decide +kernel))⟩

/-- An access to plain memory or the control die, and a core's store from another module. -/
def bus (dev : Nat) (op : BusOp) (addr : Nat) (data : List Byte) : BusAccess := { dev := dev, op := op, addr := addr, data := data }
def peerStore : BusAccess := { bus 0 .store 0x10004 (toBytes 4 7) with peer := some 1, owns := true }
/-- The IOMMU passes requests through; it refuses them and has a fault queue of two records at 0x900000. -/
def bareState : State := main.ioPut 0x10 1
def faultQueue : State := (main.ioPut 0x28 (BitVec.ofNat 64 (0x900 * 2 ^ 10))).ioPut 0x48 (BitVec.ofNat 64 (2 ^ 48))

theorem witness_accesses (h : Obligations.ErrorsAndAccesses) : runs (.generalCoreAccess (bus 0 .load 0 [])) main ∧
    runs (.generalCoreAccess (bus 0 .maxu (hbmSize - 8) [1, 2, 3, 4, 5, 6, 7, 8])) main ∧ runs (.deviceRequest (bus 1 .load 0 [0])) bareState ∧
    runs (.deviceRequest (bus 1 .store (hbmSize - 1) [1])) bareState ∧ runs (.deviceRequest (bus 1 .store (Ctl.base + 0x1040) [1, 2, 3, 4])) bareState ∧
    runs (.deviceRequest (bus 1 .load 0 [0])) main ∧ runs (.deviceRequest (bus (2 ^ 24 - 1) .load (2 ^ 64 - 1) [0])) faultQueue ∧
    runs (.generalCoreAccess peerStore) main ∧ runs (.generalCoreAccess peerStore) (grouped { upLink with rollback := true }) := by
  have clean : main.owned = [] ∧ main.wordPoison = [] ∧ main.sectorPoison = [] ∧ bitAt (main.ctlGet Ctl.PSTBASE).toNat 0 = false := ⟨rfl, rfl, rfl, by decide +kernel⟩
  have a (s : State) (q : BusAccess) := h s 0 (.sector 0) q 1 1
  have d (q : BusAccess) := (a bareState q).2.2.2.2.2.2.2.2.2.2.2.2.2.2.2.2.1
  have p := (a main peerStore).2.2.2.2.2.2.2.2.2.2.2.2.2.2.2.2.2.2.1 1 7 rfl rfl rfl rfl (by decide) rfl (by decide) clean
  have r := (a (grouped { upLink with rollback := true }) peerStore).2.2.2.2.2.2.2.2.2.2.2.2.2.2.2.2.2.2.1 1 7 rfl rfl rfl rfl (by decide) rfl (by decide) ⟨rfl, rfl, rfl, by decide +kernel⟩
  exact ⟨⟨_, (a main (bus 0 .load 0 [])).2.2.2.2.2.2.2.2.2.2.2.2.2.2.2.1 rfl rfl rfl⟩,
    runs_of ((a main (bus 0 .maxu (hbmSize - 8) [1, 2, 3, 4, 5, 6, 7, 8])).2.2.2.2.2.2.2.2.2.2.2.2.2.2.2.2.1.2.1 _ (.inl rfl) rfl (by decide) (by decide) (by decide) clean),
    ⟨_, (d (bus 1 .load 0 [0])).1 ⟨by decide +kernel, rfl, rfl⟩ rfl rfl rfl⟩,
    runs_of ((d (bus 1 .store (hbmSize - 1) [1])).2.1 _ (.inr ⟨rfl, by decide +kernel, rfl, by decide +kernel⟩) rfl (by decide) (by decide) (by decide)
      ⟨rfl, rfl, rfl, by decide +kernel⟩),
    ⟨_, ((d (bus 1 .store (Ctl.base + 0x1040) [1, 2, 3, 4])).2.2 0x1040 4 0x04030201 (by decide) rfl rfl rfl rfl (by decide) (by decide)).2
      ⟨by decide +kernel, rfl, by decide +kernel⟩⟩,
    ⟨_, ((a main (bus 1 .load 0 [0])).2.2.2.2.2.2.2.2.2.2.2.2.2.2.2.2.2.1 (by decide +kernel) rfl (by decide) (by decide)).1 (.inl (by decide +kernel))⟩,
    runs_of (((a faultQueue (bus (2 ^ 24 - 1) .load (2 ^ 64 - 1) [0])).2.2.2.2.2.2.2.2.2.2.2.2.2.2.2.2.2.1 (by decide +kernel) (by decide +kernel) (by decide) (by decide)).2 (by decide +kernel)
      (by decide +kernel) (by decide +kernel) (by decide +kernel) (by decide +kernel) ⟨rfl, rfl, rfl, by decide +kernel⟩),
    runs_of (p.2 (by decide +kernel)), ⟨_, r.1 15 (by decide +kernel) (by decide) rfl⟩⟩

theorem witness_scans (h : Obligations.ErrorsAndAccesses) : runs (.scanComplete 319 1 1) (scanned 400000) ∧ runs (.scanComplete 319 1 2) (scanned 399999) ∧
    runs (.scanAbort 319) wanted ∧ runs (.scanAbort 319) (scanned 399999) := by
  let q : BusAccess := bus 0 .load 0 []
  have s (x : State) (sig expected) := (h x 319 (.sector 0) q sig expected).2.2.2.2.2.2.2.2.2.2.2.2.2.2.2.2.2.2.2 scan
  have a := s (scanned 400000) 1 1 rfl rfl (by decide) rfl (by decide) ⟨rfl, rfl, rfl, by decide +kernel⟩ (by decide +kernel) (by decide) (by decide)
  have b := s (scanned 399999) 1 2 rfl rfl (by decide) rfl (by decide) ⟨rfl, rfl, rfl, by decide +kernel⟩ (by decide +kernel) (by decide) (by decide)
  have w := s wanted 1 1 rfl rfl (by decide) rfl (by decide) ⟨rfl, rfl, rfl, by decide +kernel⟩ (by decide +kernel) (by decide) (by decide)
  exact ⟨runs_of (a.1 (by decide)), ⟨_, b.2.1 (by decide)⟩, runs_of (w.2.2.1 (by decide +kernel)), ⟨_, b.2.2.2 (by decide +kernel)⟩⟩

/-- Core 0 with handlers; and with four queues of the lowest allotment, queue 0 full. -/
def faultState : State := mainWith fun k => ((k.csrPut Csr.TVEC 0x8000).csrPut Csr.TVECEM 0x9000)
def narrowState : State := faultState.onCore 0 fun k => (k.setQ 0 (List.replicate 4 (landedEntry 0))).csrPut Csr.QALLOT 4
/-- A latched bundle of one word whose opcode no map lists, in position 7. -/
def unlisted : State := faultState.onCore 0 fun k => { k with ir := { k.ir with words := [(7, BitVec.ofNat 44 (0xFF * 2 ^ 36))] } }

theorem witness_issueFaults (h : Obligations.IssueFaults) : runs (.fcmp g .bf16 .eq 0 1 2) faultState ∧
    (unlisted.issueLatched.core unlisted.turn).level = 1 ∧ runs (.eret g) faultState ∧ runs (.csrw g Csr.TVEC 1) faultState ∧ runs (.csrr g 1 Csr.PGREQ) faultState ∧
    runs (.vmov g 3 ⟨4, false⟩) narrowState ∧ runs (.vmov g 3 ⟨1, false⟩) narrowState ∧ runs (.vmov g 0 ⟨0, true⟩) narrowState := by
  have a (ins sl n e) := h faultState ins sl g 0 1 1 2 n 7 (BitVec.ofNat 44 (0xFF * 2 ^ 36)) e rfl rfl (by decide +kernel) (by decide +kernel)
  have b (ins sl) := h narrowState ins sl g 0 1 1 2 0 0 0 .illegalBundle rfl rfl (by decide +kernel) (by decide +kernel)
  have u := (h unlisted .nop { pos := 0 } g 0 1 1 2 0 7 (BitVec.ofNat 44 (0xFF * 2 ^ 36)) .undefinedOp rfl rfl (by decide +kernel) (by decide +kernel)).2.1 rfl (by decide) rfl
  have r : Ready narrowState g := ready_of (by decide +kernel) rfl rfl
  refine ⟨runs_of ((a (.fcmp g .bf16 .eq 0 1 2) _ 0 .illegalFormat).1 rfl (by decide)), u.1.level, runs_of ((a (.eret g) { pos := 0 } 0 .illegalBundle).2.2.1 7 (nth 4 rfl)),
    runs_of ((a (.csrw g Csr.TVEC 1) { pos := 0 } Csr.TVEC .illegalBundle).2.2.2.1 (by decide) (by decide) (.head _)),
    runs_of ((a .nop { pos := 0 } Csr.PGREQ .illegalBundle).2.2.2.2.1 (by decide) (by decide)),
    runs_of ((b (.vmov g 3 ⟨4, false⟩) _).2.2.2.2.2.1 rfl (by decide) rfl ⟨4, .head _, by decide +kernel⟩), ?_, ?_⟩
  · exact runs_of (((b (.vmov g 3 ⟨1, false⟩) _).2.2.2.2.2.2 rfl (by decide) rfl r (by decide +kernel)).1 (by decide +kernel) (by decide +kernel))
  · exact runs_of (((b (.vmov g 0 ⟨0, true⟩) _).2.2.2.2.2.2 rfl (by decide) rfl r (by decide +kernel)).2 (by decide +kernel) (by decide +kernel))

/-- Scalar 1 misaligned, scalar 2 at the first address without a leaf, scalar 3 no valid address; handlers of both levels. -/
def accessState (level : Nat) : State := mainWith fun k =>
  { ((scalars k [0x3FFFFFF9, 0x40000000, 0x0100000000000000]).csrPut Csr.TVEC 0x8000).csrPut Csr.TVEC2 0x9000 with level := level }

theorem witness_accessFaults (h : Obligations.AccessFaults) : runs (.ldd g 4 1 0) (accessState 0) ∧ runs (.stb g 4 2 0) (accessState 0) ∧ runs (.ldb g 4 3 0) (accessState 0) ∧
    runs (.ldd g 4 2 0) (accessState 1) ∧ runs (.ldd g 4 2 0) (accessState 2) ∧ runs (.std g 4 3 0) (accessState 1) ∧ runs (.std g 4 1 0) (accessState 1) ∧
    runs (.taskend g) (accessState 1) ∧ runs (.mzero g 15) (accessState 2) := by
  have at0 (a) (ins) := h (accessState 0) g 4 a 0 ins
  have at1 (a) (ins) := h (accessState 1) g 4 a 0 ins
  have at2 (a) (ins) := h (accessState 2) g 4 a 0 ins
  have r0 : Ready (accessState 0) g := ready_of (by decide +kernel) rfl rfl
  have r1 : Tending (accessState 1) g := tending_of (by decide +kernel) (by decide +kernel) rfl
  have r2 : Tending (accessState 2) g := tending_of (by decide +kernel) (by decide +kernel) rfl
  refine ⟨runs_of ((((at0 1 _ 8 false).1 (nth 6 rfl)).1 r0 (by decide +kernel)).1 (by decide +kernel) (by decide +kernel)),
    runs_of ((((at0 2 _ 1 true).1 (nth 7 rfl)).1 r0 (by decide +kernel)).2 (.inr ⟨by decide +kernel, by decide +kernel, by decide +kernel, fun _ m => nomatch m⟩)),
    runs_of ((((at0 3 _ 1 false).1 (nth 0 rfl)).1 r0 (by decide +kernel)).2 (.inl (by decide +kernel))),
    runs_of ((((at1 2 _ 8 false).1 (nth 6 rfl)).2 r1 (by decide +kernel) (by decide)).1 ⟨by decide +kernel, by decide +kernel, by decide +kernel, fun _ m => nomatch m⟩
      rfl (by decide +kernel)),
    runs_of ((((at2 2 _ 8 false).1 (nth 6 rfl)).2 r2 (by decide +kernel) (by decide)).2.1 ⟨by decide +kernel, by decide +kernel, by decide +kernel, fun _ m => nomatch m⟩
      (.inl rfl)),
    runs_of ((((at1 3 _ 8 true).1 (nth 10 rfl)).2 r1 (by decide +kernel) (by decide)).2.2.1 (by decide +kernel)),
    runs_of ((((at1 1 _ 8 true).1 (nth 10 rfl)).2 r1 (by decide +kernel) (by decide)).2.2.2 (by decide +kernel) (by decide +kernel)),
    runs_of ((at1 0 (.taskend g) 0 false).2 _ rfl rfl (.inl rfl) (by decide) (.inr ⟨0, 0, 0, false, by decide⟩)),
    runs_of ((at2 0 (.mzero g 15) 0 false).2 _ rfl rfl (.inr rfl) (by decide) (.inl (by decide)))⟩

theorem witness_roundTrips (h : Obligations.RoundTrips) : decodeTableWord 80 295256572112549183489 = some (.add g 3 1 2) ∧
    (∃ w, encodeWord (.tellerLimm 7 (-1)) = some w ∧ tellerDecode w = some (.tellerLimm 7 (-1))) ∧
    ∃ w, encodeWord (.ovnCmp 15 31 31 1 5) = some w ∧ ovnWordS w = some (.ovnCmp 15 31 31 1 5) := by
  refine ⟨?_, ?_, ?_⟩
  · obtain ⟨_, _, x, e, _, d⟩ := h.2.1 (.add g 3 1 2) { pos := 0 } 0 _ (by decide +kernel) rfl
    have y : some (80, x) = some (80, 295256572112549183489) := e.symm.trans (by decide +kernel)
    cases y; exact d
  · exact (h.2.2.2.2 (.tellerLimm 7 (-1)) 0 0 (-1) 0 0 0 0 0 7 0 0 0 0 (by decide +kernel)).1 (by decide +kernel)
  · exact (h.2.2.2.2 (.ovnCmp 15 31 31 1 5) 0 0 0 0 31 31 31 15 5 0 0 0 1 (by decide +kernel)).2.1 (by decide +kernel)

/-- An event stands first on the agenda. -/
def agendaState : State := { main with agenda := [.frameAdvance] }
/-- A routine's next word is ADD. -/
def wordState : State := { main with teller := some { routine with code := [0x20120000] } }
/-- An Ovnath bundle of one ADD in its first slot. -/
def ovnBundle : State := State.reset.placeOvnath 0x01184400

theorem atIssue_fetch : AtIssue fetchState := ⟨at_fetch, rfl, rfl, rfl⟩
theorem atIssue_ovn : AtIssue ovnBundle := ⟨⟨rfl, ⟨rfl, rfl, rfl, rfl⟩, .inr ⟨by decide +kernel, by decide +kernel, _, rfl, rfl⟩⟩, rfl, rfl, rfl⟩

theorem witness_stepRunsDecoded (h : Obligations.StepRunsDecoded) : step agendaState = exec .frameAdvance { agendaState with agenda := [] } ∧
    (∃ i, step wordState = exec i wordState) ∧ (∃ t, step fetchState = onNext State.pipeDone (exec (.add g 3 1 2) t)) ∧
    (∃ t, step fetchState = onNext State.pipeDone (exec (.add g 3 1 2) (State.latch t 0 fetched))) ∧
    step ovnBundle = onNext State.pipeDone (exec (.ovnAdd 3 1 2) ovnBundle) := by
  refine ⟨(h agendaState .frameAdvance rfl).1 [] rfl rfl, ⟨.tellerAdd 0 1 1, (h wordState (.tellerAdd 0 1 1) rfl).2.1 _ _ [] rfl rfl (by decide +kernel)⟩,
    ⟨_, (h fetchState (.add g 3 1 2) rfl).2.2.1 295256572112549183489 0 _ atIssue_fetch (.inl rfl) (by decide +kernel) rfl (by decide +kernel) rfl (by decide +kernel)
      (by decide +kernel) (by decide +kernel) (ok_of (by decide +kernel)) (ok_of (by decide +kernel))⟩,
    ⟨_, ((h fetchState (.add g 3 1 2) rfl).2.2.2.1 fetched _ atIssue_fetch (.inl rfl) (ok_of (by decide +kernel)) rfl).1 (by decide +kernel)⟩,
    (h ovnBundle (.ovnAdd 3 1 2) rfl).2.2.2.2 0x01184400 0 atIssue_ovn (by decide +kernel) rfl rfl rfl (by decide +kernel) (by decide +kernel) (ok_of (by decide +kernel)) (by decide)
      (ok_of (by decide +kernel)) ?_⟩
  intro m l n
  have : m = 1 ∨ m = 2 ∨ m = 3 := by omega
  rcases this with rfl | rfl | rfl <;> decide

theorem witness_stepKeepsMemory (h : Obligations.StepKeepsMemory) : ∃ t, step fetchState = .next t ∧ Memory.wf t.mem = true := by
  obtain ⟨t, e, _⟩ := next_of (by decide +kernel : nextB (step fetchState) (fun _ => true) = true)
  exact ⟨t, e, h fetchState t (by decide +kernel) e⟩

/-! ### Single steps -/

/-- Scalar 3 after an instruction that reads scalars 1, 2 and 3 of the given values. -/
def scalarB (a b d : Nat) (i : Instr) (r : Nat) : Bool :=
  nextB (exec i (mainWith fun k => scalars k [a, b, d])) fun t => ((t.core 0).s 3).toNat = r

/-- Integer results: wraps, the corners of division, counts and extensions (R188 to R191). -/
theorem test_step_integers : (scalarB (2 ^ 64 - 1) 1 9 (.add g 3 1 2) 0 && scalarB 0 1 9 (.sub g 3 1 2) (2 ^ 64 - 1) &&
    scalarB (2 ^ 64 - 1) (2 ^ 64 - 1) 9 (.mulh g 3 1 2) 0 && scalarB (2 ^ 64 - 1) (2 ^ 64 - 1) 9 (.mulhn g 3 1 2) (2 ^ 64 - 2) &&
    scalarB 7 0 9 (.divs g 3 1 2) (2 ^ 64 - 1) && scalarB (2 ^ 63) (2 ^ 64 - 1) 9 (.divs g 3 1 2) (2 ^ 63) && scalarB (2 ^ 63) (2 ^ 64 - 1) 9 (.rems g 3 1 2) 0 &&
    scalarB (2 ^ 64 - 7) 2 9 (.rems g 3 1 2) (2 ^ 64 - 1) && scalarB 7 0 9 (.remn g 3 1 2) 7 && scalarB (2 ^ 64 - 7) 2 9 (.divn g 3 1 2) (2 ^ 63 - 4) &&
    scalarB 0 0 9 (.clz g 3 1) 64 && scalarB 0x10 0 9 (.ctz g 3 1) 4 && scalarB 0x180 0 9 (.sext g 3 1 7) (2 ^ 64 - 128) && scalarB 0x1FF 0 9 (.zext g 3 1 7) 255 &&
    scalarB (2 ^ 64 - 1) 0 9 (.andi g 3 1 0x10000) (2 ^ 64 - 2 ^ 16) && scalarB (2 ^ 63) 0 9 (.shrai g 3 1 63) (2 ^ 64 - 1)) = true := by decide +kernel

/-- The constant that R192 builds, its last step, and a LIMM of a negative number. -/
theorem test_step_constants : (scalarB 0 0 0x0000456789ABCDEF (.limmh g 3 3 0x0123) 0x0123456789ABCDEF && scalarB 0 0 9 (.limm g 3 (-3)) (2 ^ 64 - 3)) = true := by decide +kernel

/-- Compares of one pair, signed and natural, and SEL (R193, R195). -/
theorem test_step_compares : ([(.cmp g 3 1 2 false .lt, true), (.cmp g 3 1 2 true .lt, false), (.cmp g 3 1 2 true .ge, true), (.cmp g 3 1 2 false .eq, false)] : List (Instr × Bool)).all
    (fun e => nextB (exec e.1 (mainWith fun k => scalars k [2 ^ 64 - 1, 1, 9])) fun t => (t.core 0).p 3 = e.2) = true := by decide +kernel
theorem test_step_select : (scalarB 5 6 9 (.sel g 3 4 1 2) 6 && scalarB 5 6 9 (.sel g 3 0 1 2) 5) = true := by decide +kernel

/-- Scalar floats: one third in two modes, the zeros of a sum, 1 / 0, a square root, and conversions to an integer (R90, R196 to R200). -/
theorem test_step_floats : (scalarB 0x3F800000 0x40400000 9 (.fdiv g .f32 .rne 3 1 2) 0x3EAAAAAB && scalarB 0x3F800000 0x40400000 9 (.fdiv g .f32 .rtz 3 1 2) 0x3EAAAAAA &&
    scalarB 0x3FF0000000000000 0xBFF0000000000000 9 (.fadd g .f64 .rne 3 1 2) 0 && scalarB 0x3FF0000000000000 0xBFF0000000000000 9 (.fadd g .f64 .rdn 3 1 2) (2 ^ 63) &&
    scalarB 0xBF800000 0 9 (.fdiv g .f32 .rne 3 1 2) 0xFF800000 && scalarB 0x40800000 0 9 (.fsqrt g .f32 .rne 3 1) 0x40000000 &&
    scalarB 0 0x80000000 9 (.fmin g .f32 3 1 2) 0x80000000 && scalarB 0xC0200000 0 9 (.fcvt g .int32 .f32 .rne 3 1) (2 ^ 64 - 2) &&
    scalarB 0x7F800000 0 9 (.fcvt g .int32 .f32 .rne 3 1) 0x7FFFFFFF && scalarB 0x3F800000 0x3F800000 0x40000000 (.fma g .f32 .rne 3 1 2) 0x40400000) = true := by decide +kernel

/-- Loads extend as their names say and stores keep the low byte, at a negative displacement (R133). -/
def byteState : State := (mainWith fun k => scalars k [0x10008, 0x1234]).setNat 0x10000 8 0x00000000000080FF
theorem test_step_loads : ([(.ldb g 3 1 (-8), 2 ^ 64 - 1), (.ldbn g 3 1 (-8), 255), (.ldh g 3 1 (-8), 2 ^ 64 - 0x7F01), (.ldwn g 3 1 (-8), 0x80FF)] : List (Instr × Nat)).all
    (fun e => nextB (exec e.1 byteState) fun t => ((t.core 0).s 3).toNat = e.2) = true := by decide +kernel
theorem test_step_stores : nextB (exec (.stb g 2 1 (-7)) byteState) (fun t => coreNat t 0x10000 8 = 0x34FF) = true := by decide +kernel

/-- The conversion that R212's text works out lane by lane, without and with .sat. -/
def convertState : State := mainWith fun k => k.setQ 3 [landedEntry (BitVec.ofNat 2048 (0x40400000 + 0x42C80000 * 2 ^ 32 + 0x43960000 * 2 ^ 64 + 0x80000000 * 2 ^ 96 +
  0x39800000 * 2 ^ 128 + 0x7FA00000 * 2 ^ 160))]
def lastEntry (t : State) (q : QReg) : Nat := (((t.core 0).q q).getLast?.map fun e => e.v.toNat).getD 0
theorem test_step_convert : (nextB (exec (.vcvt g (.b8 .se 3) .f32 .rne false 5 ⟨3, false⟩) convertState) (fun t => lastEntry t 5 = 0x80_00_00_7F_74_4C) &&
    nextB (exec (.vcvt g (.b8 .se 3) .f32 .rne true 5 ⟨3, true⟩) convertState) (fun t => lastEntry t 5 = 0x80_00_00_7E_74_4C && ((t.core 0).q 3).length = 1)) = true := by
  decide +kernel

/-- Lanes of two vectors, as natural 8-bit numbers in lanes 0 to 3. -/
def lanes (a b c d : Nat) : QEntry := landedEntry (BitVec.ofNat 2048 (a + b * 2 ^ 8 + c * 2 ^ 16 + d * 2 ^ 24))
def laneState : State := mainWith fun k => (k.setQ 1 [lanes 255 1 128 7]).setQ 2 [lanes 1 2 127 9]
def laneB (i : Instr) (r : Nat) : Bool := nextB (exec i laneState) fun t => lastEntry t 3 % 2 ^ 32 = r

/-- Integer lanes wrap, compare signed or natural, shift modulo their width and clamp (R203 to R212). -/
theorem test_step_lanes : (laneB (.vadd g .nat8 .rne 3 ⟨1, false⟩ ⟨2, false⟩) 0x10FF0300 && laneB (.vcmp g .int8 .lt 3 ⟨1, false⟩ ⟨2, false⟩) 0xFFFFFFFF &&
    laneB (.vcmp g .nat8 .lt 3 ⟨1, false⟩ ⟨2, false⟩) 0xFF00FF00 && laneB (.vshl g .nat8 3 ⟨1, false⟩ ⟨2, false⟩) 0x0E0004FE &&
    laneB (.vsat g .int8 0 3 ⟨1, false⟩) 0x07F801FF && laneB (.vadif g .int8 .rne 3 ⟨1, false⟩ ⟨2, false⟩) 0x02FF0102 && laneB (.viota g .nat8 3) 0x03020100 &&
    laneB (.vredadd g .nat8 .rne 3 ⟨1, false⟩) 0x87 && laneB (.vredmin g .int8 3 ⟨1, false⟩) 0x80 && laneB (.vredmax g .int8 3 ⟨1, false⟩) 0x07) = true := by decide +kernel

/-- The length of a jump, a call and a loop, from the code pointer of the bundle: L is bit 0 of the target (R302, R303). -/
def pcAfter (i : Instr) (s : State) : Nat := match exec i s with | .next t => (t.pipeDone.core 0).main.pc.toNat | _ => 0
/-- Transfers from the literal bundle at 0x10000, which another follows at 0x10011 (R307, R308). -/
def flowState : State := mainWith fun k => { scalars k [1, 2, 0x20001] with ir := { k.ir with cp := 0x10001, next := 0x10011 } }
def flowB (i : Instr) (pc a : Nat) : Bool := nextB (exec i flowState) fun t => (t.core 0).main.pc.toNat = pc && ((t.core 0).s 1).toNat = a
theorem test_step_flow : (flowB (.br g 40) 0x10028 1 && flowB (.br g 41) 0x10029 1 && flowB (.br ⟨true, 0⟩ 40) 0x10011 1 && flowB (.bri g 3) 0x20001 1 &&
    flowB (.call g 1 (-16)) 0xFFF0 0x10011 && flowB (.loop g 1 (-16)) 0x10011 0 && flowB (.brp g 0 2) 0x10002 1) = true := by decide +kernel
theorem test_step_loop : nextB (exec (.loop g 2 (-15)) flowState) (fun t => (t.core 0).main.pc = 0xFFF1 && (t.core 0).s 2 = 1) = true := by decide +kernel

/-- TRAP 7 completes; BREAK is then taken before the next bundle, with code 7 in the detail of TCAUSE (R317, R341, R343). -/
def vectored : State := flowState.onCore 0 fun k => k.csrPut Csr.TVEC 0x8000
theorem test_step_trap : nextB (exec (.trap g 7) vectored) (fun t => nextB (exec (.trapEntry 0) t) fun t => let k := t.core 0
    k.level = 1 && k.tender.pc = 0x8000 && k.csrGet Csr.TPC = 0x10011 && k.csrGet Csr.TCAUSE = 0x000700000000001F) = true := by decide +kernel

/-- A teller routine's arithmetic on handle registers: h1 = 5, h2 = 0xF0, h3 all ones (R281, R282). -/
def handles : TellerRun :=
  { routine with
    code := [0, 0, 0]
    h := Vector.ofFn fun i => if i.val = 1 then 5 else if i.val = 2 then 0xF0 else if i.val = 3 then 0xFFFFFFFFFFFFFFFF else 0
    data := 0x8877665544332211 }
def handleB (i : Instr) (r : Nat) : Bool := nextB (exec i { main with teller := some handles }) fun t => (t.teller.map fun h => (h.h[4]).toNat) = some r
theorem test_step_teller : (handleB (.tellerAdd 4 3 1) 4 && handleB (.tellerSubImm 4 1 6) (2 ^ 64 - 1) && handleB (.tellerMin 4 3 1) (2 ^ 64 - 1) && handleB (.tellerMinn 4 3 1) 5 &&
    handleB (.tellerShraImm 4 3 63) (2 ^ 64 - 1) && handleB (.tellerSat 4 2 0) 127 && handleB (.tellerLimm 4 (-4096)) (2 ^ 64 - 4096) && handleB (.tellerLdw 4 0 4) 0x88776655) = true := by
  decide +kernel

/-- An Ovnath program's integers: its LI, its unsigned compare and a shift (R405). -/
def ovnStart : State := { (mainWith fun k => scalars k [2 ^ 64 - 1, 4, 9]) with ovn := { core := 0, running := true } }
def ovnB (i : Instr) (r : Nat) : Bool := nextB (exec i ovnStart) fun t => ((t.core 0).s 3).toNat = r
theorem test_step_ovnath : (ovnB (.ovnAdd 3 1 2) 3 && ovnB (.ovnMul 3 1 2) (2 ^ 64 - 4) && ovnB (.ovnShr 3 1 2) (2 ^ 60 - 1) && ovnB (.ovnLi 3 (-1)) (2 ^ 64 - 1) &&
    ovnB (.ovnAddi 3 2 (-5)) (2 ^ 64 - 1)) = true := by decide +kernel

/-- A step of the placed program runs the instruction of its word: LIMM s3, −3 in a literal bundle of one slot (R46, R192, log 41). -/
theorem test_step_placed : nextB (step (State.reset.withFetchWord 80 11806024856502238445569)) (fun t => (t.core 0).s 3 = 0xFFFFFFFFFFFFFFFD) = true := by
  decide +kernel

end Sys2Proof.Tests
end

section
/-! PROOFS. The reset state (O41): the reset values by table. -/

namespace Sys2Proof.Machine
open Sys2Proof

/-! ### The reset state -/

@[simp] theorem reset_core (c : Nat) : State.reset.core c = {} := rfl
@[simp] theorem reset_ctlGet (o : Nat) : State.reset.ctlGet o = ctlReset o := rfl

/-- A register file filled with one value reads as that value. -/
@[simp] theorem vget_replicate {α : Type} (d : α) (n k : Nat) : vget d (Vector.replicate n d) k = d := by
  unfold vget
  simp only [Vector.toArray_replicate, Array.getD_eq_getD_getElem?, Array.getElem?_replicate]
  split <;> rfl

@[simp] theorem core_reset_csrGet (n : Nat) : ({} : Core).csrGet n = csrReset n := rfl
@[simp] theorem core_reset_s (n : SReg) : ({} : Core).s n = 0 := by simp [Core.s]
@[simp] theorem core_reset_w (n : WReg) : ({} : Core).w n = 0 := vget_replicate ..
@[simp] theorem core_reset_q (n : QReg) : ({} : Core).q n = [] := vget_replicate ..
/-- Of the predicates p0 alone reads true (R16). -/
@[simp] theorem core_reset_p (n : PReg) : ({} : Core).p n = decide (n = 0) := by
  have h : n.toNat = 0 → n = 0 := fun h => BitVec.eq_of_toNat_eq h
  simpa [Core.p] using h

/-- The CSRs whose reset value is not zero. -/
theorem csrReset_other {n : Nat} (h : n ∉ [Csr.FMTN, Csr.SPLIT, Csr.QALLOT, Csr.REPLAN, Csr.PCOST, Csr.PBOUND, Csr.HWDOG, Csr.VMROOT]) :
    csrReset n = 0 := by
  simp only [List.mem_cons, List.not_mem_nil, or_false, not_or] at h
  obtain ⟨h1, h2, h3, h4, h5, h6, h7, h8⟩ := h
  simp only [csrReset, if_neg h1, if_neg h2, if_neg h3, if_neg h4, if_neg h5, if_neg h6, if_neg h7, if_neg h8]

/-- The offsets of a table of the register map. -/
theorem inTab_iff {x lo n : Nat} : inTab x lo n = true ↔ lo ≤ x ∧ x < lo + 8 * n := by simp [inTab]

/-- The reset value of a register that lies beyond the single ones: the tables alone decide it. -/
theorem ctlReset_tables {o : Nat} (h : 0x2000 ≤ o) : ctlReset o =
    if inTab o 0x3000 40 then 0xFFFFFFFFFFFFFFFF
    else if inTab o 0x4000 256 then 0x0008000000000000
    else if inTab o 0x4800 256 then 0xA000000000000000
    else if inTab o 0x6000 64 then 0x000C000000000000
    else if inTab o 0x8000 320 then BitVec.ofNat 64 (2 ^ 63 + (o - 0x8000) / 8)
    else 0 := by
  rw [ctlReset, if_neg (by unfold Ctl.CAPPTR; omega), if_neg (by unfold Ctl.SCRUBCTL; omega), if_neg (by unfold Ctl.ERRBASE; omega),
    if_neg (by unfold Ctl.SLIPBASE; omega)]

theorem ctlReset_tenmap {i : Nat} (h : i < 40) : ctlReset (Ctl.TENMAP i) = -1 := by
  unfold Ctl.TENMAP
  simp (disch := omega) only [ctlReset_tables, inTab_iff, if_pos]
  rfl
theorem ctlReset_tencfg {i : Nat} (h : i < 256) : ctlReset (Ctl.TENCFG i) = 0x0008000000000000 := by
  unfold Ctl.TENCFG
  simp (disch := omega) only [ctlReset_tables, inTab_iff, if_pos, if_neg]
theorem ctlReset_tenroot {i : Nat} (h : i < 256) : ctlReset (Ctl.TENROOT i) = 0xA000000000000000 := by
  unfold Ctl.TENROOT
  simp (disch := omega) only [ctlReset_tables, inTab_iff, if_pos, if_neg]
theorem ctlReset_hwqcfg {i : Nat} (h : i < 64) : ctlReset (Ctl.HWQCFG i) = 0x000C000000000000 := by
  unfold Ctl.HWQCFG
  simp (disch := omega) only [ctlReset_tables, inTab_iff, if_pos, if_neg]
theorem ctlReset_lcmap {i : Nat} (h : i < 320) : (ctlReset (Ctl.LCMAP i)).toNat = 2 ^ 63 + i := by
  unfold Ctl.LCMAP
  simp (disch := omega) only [ctlReset_tables, inTab_iff, if_pos, if_neg, BitVec.toNat_ofNat]
  omega
theorem ctlReset_xesc {i : Nat} (h : i < 320) : ctlReset (Ctl.XESC i) = 0 := by
  unfold Ctl.XESC
  simp (disch := omega) only [ctlReset_tables, inTab_iff, if_neg]

/-- Settles O41: every part of the reset state by the reset value of its table. -/
theorem resetState : Obligations.ResetState := by
  unfold Obligations.ResetState
  refine ⟨fun c => ⟨rfl, rfl, rfl, ?_, fun n h => csrReset_other h, core_reset_s, core_reset_p, core_reset_w, core_reset_q⟩, ?_,
    fun i h => ctlReset_tenmap h, fun i h => ⟨ctlReset_tencfg h, ctlReset_tenroot h⟩, fun i h => ctlReset_hwqcfg h,
    fun i h => ⟨ctlReset_lcmap h, ctlReset_xesc h⟩, rfl, rfl, rfl, rfl, rfl, rfl, fun a => rfl⟩
  · intro e h
    simp only [reset_core, core_reset_csrGet]
    revert e; decide
  · simp only [reset_ctlGet]
    decide

end Sys2Proof.Machine
end

section
/-! PROOFS. Resets, pins and the restart of the harts (O42). -/

namespace Sys2Proof.Machine
open Sys2Proof

/-! ### Resets, pins and the restart of the harts (R430 to R432) -/

/-- A read of a table of which some keys are kept. -/
theorem Map.get_filter_key {α : Type} (d : α) (m : Map α) (p : Nat → Bool) (k : Nat) :
    Map.get d (m.filter fun e => p e.1) k = if p k then Map.get d m k else d := by
  induction m with
  | nil => simp [Map.get]
  | cons e m ih =>
    obtain ⟨a, b⟩ := e
    by_cases ha : p a = true
    · rw [List.filter_cons_of_pos (by simpa using ha)]
      simp only [Map.get, ih]
      by_cases hk : a = k
      · subst hk; simp [ha]
      · simp [hk]
    · rw [List.filter_cons_of_neg (by simpa using ha), ih]
      by_cases hk : a = k
      · subst hk; simp [ha]
      · simp [Map.get, hk]

/-- A warm reset keeps the two registers of RWL fields (R5, R432). -/
theorem warm_ctlGet (s : State) (o : Nat) : s.warm.ctlGet o = if o = Ctl.MODID ∨ o = Ctl.PSTBASE then s.ctlGet o else ctlReset o := by
  have h := Map.get_filter_key (ctlReset o) s.ctl (fun n => n = Ctl.MODID || n = Ctl.PSTBASE) o
  simp only [Bool.or_eq_true, decide_eq_true_eq] at h
  exact h

/-- Verification touches the index records and the free values alone (R429, R430). -/
structure State.Verified (s t : State) : Prop where
  rest : t = { s with control := { s.control with records := t.control.records }, free := t.free }

theorem State.Verified.trans {s t u : State} (h : s.Verified t) (g : t.Verified u) : s.Verified u := by
  constructor
  rw [g.rest, h.rest]

theorem verify_verified (s : State) (key : Nat) : s.Verified (s.verify key).1 := by
  unfold State.verify State.putRecord
  constructor
  simp only
  split
  · rfl
  · split
    · rfl
    · split
      · rfl
      · split <;> rfl

theorem verifyOs_verified (s : State) : s.Verified s.verifyOs.1 := by
  unfold State.verifyOs
  simp only
  split
  · exact verify_verified s 1
  · exact (verify_verified s 1).trans (verify_verified _ 1)

/-- The harts held in reset or released from it (R428, R431). -/
def State.withHarts (s : State) (held : Bool) : State := { s with control := { s.control with hartsReset := held } }

/-- OSRESTART changes nothing without its bit or before DONE (R431). -/
theorem osRestart_ignored {s : State} {v : Word64} (h : v.getLsbD 1 = false ∨ (s.ctlGet Ctl.BOOTST).getLsbD 8 = false) : s.osRestart v = s := by
  have e : (!v.getLsbD 1 || !(s.ctlGet Ctl.BOOTST).getLsbD 8) = true := by
    rcases h with h | h <;> rw [h]
    · rfl
    · exact Bool.or_true _
  exact if_pos e

/-- Where it acts, step 4 runs with the slot's number stored; then the harts run again, or stay in reset with step 4 in BOOTST (R428, R431). -/
theorem osRestart_acts {s : State} {v : Word64} (h : v.getLsbD 1 = true) (d : (s.ctlGet Ctl.BOOTST).getLsbD 8 = true) :
    ∃ t, (s.ctlPut Ctl.OSRESTART (v &&& 1)).Verified t ∧ (s.osRestart v = t.withHarts false ∨
      s.osRestart v = (t.withHarts true).ctlPut Ctl.BOOTST ((t.ctlGet Ctl.BOOTST &&& 256) ||| 4)) := by
  have e : (!v.getLsbD 1 || !(s.ctlGet Ctl.BOOTST).getLsbD 8) = false := by rw [h, d]; rfl
  have run : s.osRestart v = let r := (s.ctlPut Ctl.OSRESTART (v &&& 1)).verifyOs
      if r.2 then r.1.withHarts !r.2 else (r.1.withHarts !r.2).ctlPut Ctl.BOOTST ((r.1.ctlGet Ctl.BOOTST &&& 256) ||| 4) :=
    if_neg fun a => Bool.false_ne_true (e.symm.trans a)
  refine ⟨_, verifyOs_verified _, ?_⟩
  rw [run]
  cases hr : (s.ctlPut Ctl.OSRESTART (v &&& 1)).verifyOs.2 with
  | true => left; simp only [hr, if_true, Bool.not_true]
  | false => right; simp only [hr, Bool.false_eq_true, if_false, Bool.not_false]

/-- Settles O42, from what a reset keeps and what verification touches. -/
theorem resetsAndPins : Obligations.ResetsAndPins := by
  unfold Obligations.ResetsAndPins
  intro s v r ctlOf base
  refine ⟨rfl, ⟨_, rfl, warm_ctlGet s, rfl⟩, rfl, rfl, rfl, rfl, ⟨_, rfl, rfl, fun q => ?_⟩, fun h => ?_, fun h d => ?_⟩
  · rw [show (s.reprovision r).control.records = Map.put s.control.records r _ from rfl, Map.get_put]
    by_cases e : r = q
    · subst e; simp
    · rw [if_neg e, if_neg (Ne.symm e)]
  · exact congrArg Host.Outcome.next (osRestart_ignored h)
  · obtain ⟨t, ht, e⟩ := osRestart_acts h d
    have same (o : Nat) : t.ctlGet o = (s.ctlPut Ctl.OSRESTART (v &&& 1)).ctlGet o := by rw [ht.rest]; rfl
    have other (o : Nat) (n : o ≠ Ctl.OSRESTART) : t.ctlGet o = s.ctlGet o := (same o).trans (s.ctlPut_ctlGet_ne _ n.symm)
    have slot : t.ctlGet Ctl.OSRESTART = v &&& 1 := by rw [same, State.ctlPut_ctlGet_same]
    have cores : t.cores = s.cores := by rw [ht.rest]; rfl
    have mem : t.mem = s.mem := by rw [ht.rest]; rfl
    have boot : t.ctlGet Ctl.BOOTST = s.ctlGet Ctl.BOOTST := other _ (by decide)
    refine ⟨_, rfl, ?_⟩
    rcases e with e | e <;> rw [e]
    · exact ⟨slot, cores, mem, fun o n _ => other o n, .inl ⟨rfl, boot⟩⟩
    · refine ⟨(State.ctlPut_ctlGet_ne _ _ (by decide)).trans slot, cores, mem,
        fun o n m => (State.ctlPut_ctlGet_ne _ _ m.symm).trans (other o n), .inr ⟨rfl, ?_⟩⟩
      rw [State.ctlPut_ctlGet_same, boot]

end Sys2Proof.Machine
end

section
/-! PROOFS. Writes of control-die registers and CSEM (O43). -/

namespace Sys2Proof.Machine
open Sys2Proof

/-! ### Storing a register's image -/

/-- A field of an image replaced, bit by bit. -/
theorem getLsbD_merge (x v m : Word64) (j : Nat) : ((x &&& ~~~m) ||| (v &&& m)).getLsbD j = if m.getLsbD j then v.getLsbD j else x.getLsbD j := by
  simp only [BitVec.getLsbD_or, BitVec.getLsbD_and, BitVec.getLsbD_not]
  by_cases h : j < 64
  · cases m.getLsbD j <;> simp [h]
  · simp [BitVec.getLsbD_of_ge _ j (Nat.le_of_not_lt h)]

/-- A write of one register is no write of another, nor of anything else. -/
theorem ctlOnly_ctlPut (s : State) (o : Nat) (v : Word64) : CtlOnly s (s.ctlPut o v) [o] where
  others _ h := State.ctlPut_ctlGet_ne s v fun e => h (e ▸ List.mem_singleton_self _)
  rest := rfl

theorem ctlTakes_ctlStore (s : State) (o : Nat) (v : Word64) : CtlTakes s (s.ctlStore o v) o v := by
  intro j _
  unfold State.ctlStore
  rw [State.ctlPut_ctlGet_same, getLsbD_merge]

/-! ### CSEM (R322) -/

/-- A grant writes the port's code in CSEM and the record of the owners, and nothing else. -/
theorem csemGrant_ctlGet (s : State) (port : Bool) (prev : Nat) : ((s.csemGrant port prev).ctlGet Ctl.CSEM).toNat = portCode port := by
  unfold State.csemGrant
  rw [State.ctlPut_ctlGet_same]
  cases port <;> rfl
theorem csemGrant_ctlGet_ne (s : State) (port : Bool) (prev : Nat) {x : Nat} (h : x ≠ Ctl.CSEM) :
    (s.csemGrant port prev).ctlGet x = s.ctlGet x := State.ctlPut_ctlGet_ne _ _ h.symm

theorem csemAcquire_free {s : State} (port : Bool) (h : s.csemOwner = 0) : s.csemAcquire port = s.csemGrant port s.control.lastOwner := by
  unfold State.csemAcquire; rw [if_pos h]
theorem csemAcquire_tie {s : State} {port : Bool} (h : s.csemOwner ≠ 0) (o : s.csemOwner ≠ portCode port)
    (t : s.control.granted = s.clk ∧ s.control.prevOwner = s.control.lastOwner) :
    s.csemAcquire port = s.csemGrant port s.control.prevOwner := by
  unfold State.csemAcquire; rw [if_neg h, if_pos (by simp [o, t])]
theorem csemAcquire_dropped {s : State} {port : Bool} (h : s.csemOwner ≠ 0)
    (d : s.csemOwner = portCode port ∨ ¬(s.control.granted = s.clk ∧ s.control.prevOwner = s.control.lastOwner)) : s.csemAcquire port = s := by
  unfold State.csemAcquire
  rw [if_neg h, if_neg]
  simp only [Bool.and_eq_true, decide_eq_true_eq]
  rintro ⟨⟨o, g⟩, p⟩
  exact d.elim o fun n => n ⟨g, p⟩

/-! ### The lost owners of a route (R303, R426) -/

/-- An owner outside the module that nothing reaches. -/
def State.ownerGone (s : State) (e : Nat × OwnedWord) : Bool := 320 ≤ e.2.owner && !s.reaches (e.2.owner - 320)

theorem ownerGone_false_iff {s : State} {e : Nat × OwnedWord} : s.ownerGone e = false ↔ e.2.owner < 320 ∨ s.reaches (e.2.owner - 320) = true := by
  rw [State.ownerGone, Bool.and_eq_false_iff, decide_eq_false_iff_not, Nat.not_le, Bool.not_eq_false']

theorem mem_insert {m : NatSet} {k a : Nat} : a ∈ NatSet.insert m k ↔ a = k ∨ a ∈ m := by
  induction m with
  | nil => simp [NatSet.insert]
  | cons x xs ih =>
    unfold NatSet.insert
    split
    · next h => subst h; simp
    · split
      · simp
      · rw [List.mem_cons, List.mem_cons, ih, or_left_comm]

theorem mem_foldl_insert {α : Type} (f : α → Nat) (l : List α) (m : NatSet) (a : Nat) :
    a ∈ l.foldl (fun m e => NatSet.insert m (f e)) m ↔ a ∈ m ∨ ∃ e ∈ l, f e = a := by
  induction l generalizing m with
  | nil => simp
  | cons x xs ih =>
    simp only [List.foldl_cons, ih, mem_insert, List.mem_cons, exists_eq_or_imp]
    rw [or_assoc, or_left_comm, @eq_comm _ a (f x)]

/-- What lost owners held is owned no more, and poison where no home has it; nothing else changes. -/
theorem dropLost_rest (s : State) : s.dropLost = { s with owned := s.dropLost.owned, wordPoison := s.dropLost.wordPoison } := by
  unfold State.dropLost
  simp only
  split <;> rfl

theorem dropLost_owned (s : State) : s.dropLost.owned = s.owned.filter fun e => !s.ownerGone e := by
  unfold State.dropLost
  simp only
  split
  · next h =>
    symm
    rw [List.filter_eq_self]
    intro e m
    have kept : ¬ s.ownerGone e = true := List.filter_eq_nil_iff.1 h e m
    simpa using kept
  · rfl

theorem dropLost_wordPoison (s : State) : s.dropLost.wordPoison =
    ((s.owned.filter s.ownerGone).filter fun e => !e.2.home).foldl (fun m e => NatSet.insert m e.1) s.wordPoison := by
  unfold State.dropLost
  simp only
  split
  · next h => rw [show s.owned.filter s.ownerGone = [] from h]; rfl
  · rfl

theorem mem_dropLost_owned {s : State} {e : Nat × OwnedWord} :
    e ∈ s.dropLost.owned ↔ e ∈ s.owned ∧ (e.2.owner < 320 ∨ s.reaches (e.2.owner - 320) = true) := by
  rw [dropLost_owned, List.mem_filter, Bool.not_eq_true', ownerGone_false_iff]

theorem mem_dropLost_wordPoison {s : State} {a : Nat} :
    a ∈ s.dropLost.wordPoison ↔ a ∈ s.wordPoison ∨ ∃ e ∈ s.owned, e.1 = a ∧ e ∉ s.dropLost.owned ∧ e.2.home = false := by
  rw [dropLost_wordPoison, mem_foldl_insert]
  apply or_congr_right
  apply exists_congr
  intro e
  rw [dropLost_owned]
  simp only [List.mem_filter, Bool.not_eq_true']
  constructor
  · rintro ⟨⟨⟨m, gone⟩, home⟩, at_⟩
    exact ⟨m, at_, fun k => Bool.false_ne_true (k.2.symm.trans gone), home⟩
  · rintro ⟨m, at_, n, home⟩
    exact ⟨⟨⟨m, Bool.of_not_eq_false fun g => n ⟨m, g⟩⟩, home⟩, at_⟩

theorem reaches_dropLost (s : State) (m : Nat) : s.dropLost.reaches m = s.reaches m := by rw [dropLost_rest]; rfl
theorem ctlGet_dropLost (s : State) (o : Nat) : s.dropLost.ctlGet o = s.ctlGet o := by rw [dropLost_rest]; rfl

/-! ### A write on its way to its register (R5, R104, R322, R419) -/

/-- The bits of the register at `off / 8 * 8` that a write of `size` bytes covers. -/
def writeCover (off size : Nat) : Word64 := if size = 8 then 0xFFFFFFFFFFFFFFFF else BitVec.ofNat 64 ((2 ^ 32 - 1) <<< (8 * (off % 8)))
/-- The bits that it presents there. -/
def writeBits (off size : Nat) (v : Word64) : Word64 := if size = 8 then v else BitVec.ofNat 64 ((v.toNat % 2 ^ 32) <<< (8 * (off % 8)))
/-- The whole register's image with them. -/
def State.writeImage (s : State) (off size : Nat) (v : Word64) : Word64 := (s.ctlGet (off / 8 * 8) &&& ~~~writeCover off size) ||| writeBits off size v

/-- What a port may not write: a guarded register without CSEM, and through CP1 a register of the general cores (R322). -/
def State.writeDenied (s : State) (port : Bool) (o : Nat) : Bool := (ctlGuarded o && s.csemOwner ≠ portCode port) || (ctlGeneral o && port)

theorem registerWrite_ignored {s : State} {src : Writer} {off size : Nat} {v : Word64}
    (h : size ≠ 4 ∧ size ≠ 8 ∨ off % size ≠ 0 ∨ ctlAssigned (off / 8 * 8) = false ∨ ∃ c, src = .tender c) : s.registerWrite src off size v = s := by
  unfold State.registerWrite
  simp only
  split
  · rfl
  · next n =>
    obtain ⟨c, rfl⟩ : ∃ c, src = .tender c := by
      simp only [Bool.or_eq_true, not_or, Bool.not_eq_true', decide_eq_true_eq] at n
      obtain ⟨⟨⟨⟨sz, al⟩, as⟩, -⟩, -⟩ := n
      rcases h with h | h | h | h
      · simp [h] at sz
      · exact absurd h al
      · exact absurd h as
      · exact h
    rfl

/-- A write of a register's place and size by a port reaches the register, or sets DENIED. -/
theorem registerWrite_port {s : State} {src : Writer} {off size : Nat} {v : Word64} {port : Bool} (p : writerPort src = some port)
    (sz : size = 4 ∨ size = 8) (al : off % size = 0) (as : ctlAssigned (off / 8 * 8) = true) (lo : 0x1000 ≤ off / 8 * 8)
    (hi : off / 8 * 8 < 0x100000) : s.registerWrite src off size v = if s.writeDenied port (off / 8 * 8) then s.lnFlag port 63
      else s.ctlEffect port (off / 8 * 8) (s.writeImage off size v) (writeCover off size) := by
  have dev : ctlDevice (off / 8 * 8) = false := by simpa [ctlDevice] using hi
  have io : ioWindow (off / 8 * 8) = false := by unfold ioWindow; rw [Bool.and_eq_false_iff]; left; simp; omega
  have go : (!(size = 4 || size = 8) || off % size ≠ 0 || !ctlAssigned (off / 8 * 8) || (ctlDevice (off / 8 * 8) && !ioWindow (off / 8 * 8)) ||
      off / 8 * 8 < 0x1000) = false := by
    have sz : (size = 4 || size = 8) = true := by simpa using sz
    rw [sz]; simp [al, as, dev, lo]
  refine (if_neg fun a => Bool.false_ne_true (go.symm.trans a)).trans ?_
  simp only [p, io, Bool.false_eq_true, if_false]
  rfl

/-- A write of a whole register presents its image. -/
theorem writeImage_whole {s : State} {off : Nat} (v : Word64) : s.writeImage off 8 v = v := by
  simp [State.writeImage, writeCover, writeBits]


/-! ### What a write that reaches its register does (R5) -/

/-- Registers whose write is an operation of the module, not the store of an image: commands, status bits and what the dispatcher keeps. -/
def ctlCommand (o : Nat) : Prop :=
  o = Ctl.CSEM ∨ o = Ctl.LNCTL 0 ∨ o = Ctl.LNCTL 1 ∨ o = Ctl.LNSTAT 0 ∨ o = Ctl.LNSTAT 1 ∨ inTab o 0xE000 5 ∨ inTab o 0xE040 5 ∨
    inTab o 0xE080 5 ∨ o = Ctl.XINVC ∨ o = Ctl.TLINV ∨ o = Ctl.SEMRAISE ∨ o = Ctl.OSRESTART ∨ o = Ctl.ROLLCTL ∨ inTab o 0x3000 40 ∨
    inTab o 0x4000 256 ∨ inTab o 0x6000 64 ∨ inTab o 0x8000 320 ∨ inTab o 0xA000 320 ∨ inTab o 0xC000 320

/-- A register of a table beside those of the commands. -/
theorem not_ctlCommand_of_table {o : Nat} (h : 0x1140 ≤ o ∧ o < 0x1168 ∨ 0x2008 ≤ o ∧ o < 0x3000 ∨ 0x4800 ≤ o ∧ o < 0x6000 ∨
    0x7000 ≤ o ∧ o < 0x8000 ∨ 0x10000 ≤ o) : ¬ctlCommand o := by
  simp only [ctlCommand, inTab_iff, Ctl.CSEM, Ctl.LNCTL, Ctl.LNSTAT, Ctl.XINVC, Ctl.TLINV, Ctl.SEMRAISE, Ctl.OSRESTART, Ctl.ROLLCTL]
  omega

/-- The write of any other register stores its image, by fields that lock or by writable bits; a route also ends what lost modules own. -/
theorem ctlEffect_store {s : State} {port : Bool} {o : Nat} {v w : Word64} (h : ¬ctlCommand o) : s.ctlEffect port o v w =
    if o = Ctl.MODID || o = Ctl.PSTBASE then s.ctlLock o v w
    else if inTab o (Ctl.QROUTE 0) 256 then (s.ctlStore o v).dropLost
    else s.ctlStore o v := by
  simp only [ctlCommand, not_or] at h
  have lnctl : o ≠ Ctl.LNCTL (bit port) := by cases port <;> simp [h, bit]
  unfold State.ctlEffect
  simp only [h, lnctl, if_false, Bool.or_self, decide_false, Bool.false_eq_true]

/-- The registers of plain RW bits. -/
def ctlPlain (off : Nat) : Prop :=
  off ∈ [Ctl.BOOTSEL, Ctl.PCIEBIF, Ctl.HOVBASE, Ctl.KTBASE, Ctl.SYSCBASE, Ctl.SCRUBCTL, Ctl.XINVA, Ctl.ERRBASE, Ctl.ERRPOS, Ctl.SLIPBASE,
        Ctl.SLIPPOS, Ctl.SNAPCFG, Ctl.SNAPAREA, Ctl.SNAPPOS, Ctl.ROLLEP, Ctl.LNBASE 0, Ctl.LNBASE 1] ∨ inTab off 0x1140 5 = true ∨
        inTab off 0x2008 15 = true ∨ inTab off 0x2100 120 = true ∨ inTab off 0x4800 256 = true ∨ inTab off 0x5000 256 = true ∨
        inTab off 0x10000 512 = true

/-- A single register is in no table that lies elsewhere, and a register of a table is no single one. -/
theorem ctlPlain.isStored {o : Nat} (h : ctlPlain o) : ¬ctlCommand o ∧ o ≠ Ctl.MODID ∧ o ≠ Ctl.PSTBASE ∧ ¬inTab o (Ctl.QROUTE 0) 256 = true := by
  rcases h with h | h
  · revert o; unfold ctlCommand; decide
  · simp only [inTab_iff] at h ⊢
    unfold Ctl.MODID Ctl.PSTBASE Ctl.QROUTE
    exact ⟨not_ctlCommand_of_table (by omega), by omega⟩

theorem ctlEffect_plain {s : State} {port : Bool} {o : Nat} {v w : Word64} (h : ctlPlain o) : s.ctlEffect port o v w = s.ctlStore o v := by
  obtain ⟨c, m, p, r⟩ := h.isStored
  rw [ctlEffect_store c, if_neg (by simp [m, p]), if_neg r]

theorem ctlEffect_route {s : State} {port : Bool} {o : Nat} {v w : Word64} (h : inTab o 0x7000 256 = true) :
    s.ctlEffect port o v w = (s.ctlStore o v).dropLost := by
  have b := inTab_iff.1 h
  have single : o ≠ Ctl.MODID ∧ o ≠ Ctl.PSTBASE := by unfold Ctl.MODID Ctl.PSTBASE; omega
  rw [ctlEffect_store (not_ctlCommand_of_table (by omega)), if_neg (by simp [single])]
  exact if_pos h

theorem ctlEffect_lock {s : State} {port : Bool} {o : Nat} {v w : Word64} (h : o = Ctl.MODID ∨ o = Ctl.PSTBASE) :
    s.ctlEffect port o v w = s.ctlLock o v w := by
  rw [ctlEffect_store, if_pos (by simpa using h)]
  rcases h with rfl | rfl <;> unfold ctlCommand <;> decide


/-! ### Fields that lock (R5) -/

/-- One RWL field of register `o`: the bits `m` of it that a write covers are taken and lock it, unless it is locked. -/
def State.lockField (s : State) (o i : Nat) (v m : Word64) : State :=
  if m = 0 || o + i ∈ s.control.locked then s
  else { s with control := { s.control with locked := NatSet.insert s.control.locked (o + i) } }.ctlPut o ((s.ctlGet o &&& ~~~m) ||| (v &&& m))

theorem lockField_rest (s : State) (o i : Nat) (v m : Word64) : s.lockField o i v m =
    { s with ctl := (s.lockField o i v m).ctl, control := { s.control with locked := (s.lockField o i v m).control.locked } } := by
  unfold State.lockField; split <;> rfl

theorem lockField_ctlGet_ne (s : State) {o x : Nat} (i : Nat) (v m : Word64) (h : x ≠ o) : (s.lockField o i v m).ctlGet x = s.ctlGet x := by
  unfold State.lockField
  split
  · rfl
  · exact State.ctlPut_ctlGet_ne _ _ h.symm

theorem mem_lockField (s : State) (o i x : Nat) (v m : Word64) :
    x ∈ (s.lockField o i v m).control.locked ↔ x ∈ s.control.locked ∨ x = o + i ∧ m ≠ 0 := by
  unfold State.lockField
  split
  · next h =>
    simp only [Bool.or_eq_true, decide_eq_true_eq] at h
    refine ⟨.inl, fun k => k.elim id fun ⟨e, n⟩ => h.elim (absurd · n) fun l => e ▸ l⟩
  · next h =>
    simp only [Bool.or_eq_true, decide_eq_true_eq, not_or] at h
    rw [State.ctlPut_control, mem_insert, or_comm, and_iff_left h.1]

theorem getLsbD_lockField (s : State) (o i j : Nat) (v m : Word64) : ((s.lockField o i v m).ctlGet o).getLsbD j =
    if o + i ∉ s.control.locked ∧ m.getLsbD j = true then v.getLsbD j else (s.ctlGet o).getLsbD j := by
  unfold State.lockField
  split
  · next h =>
    rw [if_neg]
    rintro ⟨l, b⟩
    simp only [Bool.or_eq_true, decide_eq_true_eq, l, or_false] at h
    simp [h] at b
  · next h =>
    simp only [Bool.or_eq_true, decide_eq_true_eq, not_or] at h
    rw [State.ctlPut_ctlGet_same, getLsbD_merge]
    simp only [h.2, not_false_eq_true, true_and]

/-- From `s` to `t` the first `n` fields of register `o` have seen image `v`, of which field `i` is offered the bits `m i`. -/
structure FieldsLocked (s t : State) (o n : Nat) (v : Word64) (m : Nat → Word64) : Prop where
  others : ∀ x, x ≠ o → t.ctlGet x = s.ctlGet x
  rest : t = { s with ctl := t.ctl, control := { s.control with locked := t.control.locked } }
  locked : ∀ x, x ∈ t.control.locked ↔ x ∈ s.control.locked ∨ ∃ i < n, x = o + i ∧ m i ≠ 0
  bits : ∀ j, (t.ctlGet o).getLsbD j =
    if ∃ i < n, o + i ∉ s.control.locked ∧ (m i).getLsbD j = true then v.getLsbD j else (s.ctlGet o).getLsbD j

theorem FieldsLocked.start (s : State) (o : Nat) (v : Word64) (m : Nat → Word64) : FieldsLocked s s o 0 v m where
  others _ _ := rfl
  rest := rfl
  locked x := by simp
  bits j := by simp

theorem FieldsLocked.next {s t : State} {o n : Nat} {v : Word64} {m : Nat → Word64} (h : FieldsLocked s t o n v m) :
    FieldsLocked s (t.lockField o n v (m n)) o (n + 1) v m where
  others x e := (lockField_ctlGet_ne t n v (m n) e).trans (h.others x e)
  rest := by rw [lockField_rest, h.rest]
  locked x := by rw [mem_lockField, h.locked, Nat.exists_lt_succ_right, or_assoc]
  bits j := by
    have unlocked : o + n ∉ t.control.locked ↔ o + n ∉ s.control.locked := by
      rw [h.locked, or_iff_left]
      rintro ⟨i, lt, e, -⟩
      omega
    rw [getLsbD_lockField, h.bits]
    simp only [unlocked, Nat.exists_lt_succ_right]
    by_cases a : o + n ∉ s.control.locked ∧ (m n).getLsbD j = true
    · rw [if_pos a, if_pos (.inr a)]
    · simp only [if_neg a, or_iff_left a]

/-- A write of a register of RWL fields sees them in their order. -/
theorem ctlLock_fields (s : State) (o : Nat) (v w : Word64) :
    FieldsLocked s (s.ctlLock o v w) o (ctlLocks o).length v fun i => w &&& (ctlLocks o).getD i 0 := by
  have first (n : Nat) : FieldsLocked s ((List.range n).foldl (fun t i => t.lockField o i v (w &&& (ctlLocks o).getD i 0)) s) o n v
      fun i => w &&& (ctlLocks o).getD i 0 := by
    induction n with
    | zero => exact .start ..
    | succ n ih => rw [List.range_succ, List.foldl_append]; exact ih.next
  exact first _

/-- No bit is in two fields. -/
theorem ctlLocks_disjoint (o : Nat) : (ctlLocks o).Pairwise fun m m' => m &&& m' = 0 := by
  unfold ctlLocks
  split
  · decide
  · split <;> decide

theorem ctlLocks_unique {o i i' j : Nat} {m m' : Word64} (h : (ctlLocks o)[i]? = some m) (h' : (ctlLocks o)[i']? = some m')
    (b : m.getLsbD j = true) (b' : m'.getLsbD j = true) : i = i' := by
  have apart {x y : Word64} (b : x.getLsbD j = true) (b' : y.getLsbD j = true) : x &&& y ≠ 0 := fun e => by
    have := congrArg (·.getLsbD j) e
    simp [b, b'] at this
  obtain ⟨l, rfl⟩ := List.getElem?_eq_some_iff.1 h
  obtain ⟨l', rfl⟩ := List.getElem?_eq_some_iff.1 h'
  have d := List.pairwise_iff_getElem.1 (ctlLocks_disjoint o)
  rcases Nat.lt_trichotomy i i' with lt | e | lt
  · exact absurd (d _ _ l l' lt) (apart b b')
  · exact e
  · exact absurd (d _ _ l' l lt) (apart b' b)

/-- What a write that covers the bits `w` does to one field of a register, and to the bits of none. -/
theorem FieldsLocked.field {s t : State} {o i j : Nat} {v w m : Word64}
    (k : FieldsLocked s t o (ctlLocks o).length v fun i => w &&& (ctlLocks o).getD i 0) (h : (ctlLocks o)[i]? = some m) (b : m.getLsbD j = true) :
    (t.ctlGet o).getLsbD j = (if o + i ∉ s.control.locked ∧ (w &&& m).getLsbD j = true then v.getLsbD j else (s.ctlGet o).getLsbD j) ∧
      (o + i ∈ t.control.locked ↔ o + i ∈ s.control.locked ∨ w &&& m ≠ 0) := by
  obtain ⟨lt, rfl⟩ := List.getElem?_eq_some_iff.1 h
  have entry {i' : Nat} (l : i' < (ctlLocks o).length) : (ctlLocks o).getD i' 0 = (ctlLocks o)[i'] := by simp [l]
  constructor
  · rw [k.bits]
    congr 1
    refine propext ⟨fun ⟨i', l, n, c⟩ => ?_, fun ⟨n, c⟩ => ⟨i, lt, n, by rw [entry lt]; exact c⟩⟩
    rw [entry l] at c
    have b' : (ctlLocks o)[i'].getLsbD j = true := by
      rw [BitVec.getLsbD_and, Bool.and_eq_true] at c
      exact c.2
    obtain rfl := ctlLocks_unique h (List.getElem?_eq_getElem l) b b'
    exact ⟨n, c⟩
  · rw [k.locked]
    apply or_congr_right
    constructor
    · rintro ⟨i', l, e, c⟩
      obtain rfl : i = i' := Nat.add_left_cancel e
      rwa [entry l] at c
    · exact fun c => ⟨i, lt, rfl, by rwa [entry lt]⟩
theorem FieldsLocked.unfielded {s t : State} {o j : Nat} {v w : Word64}
    (k : FieldsLocked s t o (ctlLocks o).length v fun i => w &&& (ctlLocks o).getD i 0) (h : ∀ m ∈ ctlLocks o, m.getLsbD j = false) :
    (t.ctlGet o).getLsbD j = (s.ctlGet o).getLsbD j := by
  rw [k.bits, if_neg]
  rintro ⟨i, l, -, c⟩
  have out := h _ (List.getElem_mem l)
  simp [l, out] at c

/-- The covered bits of a field. -/
theorem writeCover_and (off size : Nat) (m : Word64) :
    writeCover off size &&& m = if size = 8 then m else m &&& (0xFFFFFFFF#64 <<< (8 * (off % 8))) := by
  unfold writeCover
  split
  · exact BitVec.allOnes_and
  · rw [BitVec.and_comm]
    congr 1

/-- A covered bit of a register takes the bit of the value that the write brings there. -/
theorem getLsbD_writeImage {s : State} {off size j : Nat} (v : Word64) (sz : size = 4 ∨ size = 8) (al : off % size = 0)
    (c : (writeCover off size).getLsbD j = true) : (s.writeImage off size v).getLsbD j = v.getLsbD (j - 8 * (off % 8)) := by
  have lt : j < 64 := BitVec.lt_of_getLsbD c
  unfold State.writeImage
  rw [BitVec.getLsbD_or, BitVec.getLsbD_and, BitVec.getLsbD_not, c]
  simp only [Bool.not_true, Bool.and_false, Bool.false_or]
  unfold writeBits
  unfold writeCover at c
  rcases sz with rfl | rfl
  · rw [if_neg (by decide)] at c ⊢
    rw [BitVec.getLsbD_ofNat, Nat.testBit_shiftLeft] at c
    rw [BitVec.getLsbD_ofNat, Nat.testBit_shiftLeft, Nat.testBit_mod_two_pow]
    simp only [Nat.testBit_two_pow_sub_one, Bool.and_eq_true, decide_eq_true_eq] at c
    obtain ⟨-, lo, hi⟩ := c
    simp only [lt, lo, hi, decide_true, Bool.true_and]
    rfl
  · rw [if_pos rfl, al, Nat.mul_zero, Nat.sub_zero]


/-! ### The statement -/

/-- The ports by which the writers of the statement reach the registers. -/
theorem writerPort_of {src : Writer} {port : Bool} (h : src = .cp port ∨ src = .general ∧ port = false) : writerPort src = some port := by
  rcases h with rfl | ⟨rfl, rfl⟩ <;> rfl

/-- A write of a whole register by a port. -/
theorem registerWrite_whole {s : State} {src : Writer} {off : Nat} {v : Word64} {port : Bool} (p : writerPort src = some port)
    (al : off % 8 = 0) (as : ctlAssigned off = true) (hi : off < 0x100000) (lo : 0x1000 ≤ off) :
    s.registerWrite src off 8 v = if s.writeDenied port off then s.lnFlag port 63 else s.ctlEffect port off v (writeCover off 8) := by
  have e : off / 8 * 8 = off := by omega
  rw [registerWrite_port p (.inr rfl) al (e.symm ▸ as) (e.symm ▸ lo) (e.symm ▸ hi), writeImage_whole, e]

theorem writeDenied_iff {s : State} {port : Bool} {o : Nat} : s.writeDenied port o = true ↔
    ctlGuarded o = true ∧ s.csemOwner ≠ portCode port ∨ ctlGeneral o = true ∧ port = true := by
  simp [State.writeDenied]

/-- DENIED alone is set (R322). -/
theorem lnFlag_denied (s : State) (port : Bool) : CtlOnly s (s.lnFlag port 63) [Ctl.LNSTAT (bit port)] ∧
    (s.lnFlag port 63).ctlGet (Ctl.LNSTAT (bit port)) = s.ctlGet (Ctl.LNSTAT (bit port)) ||| 0x8000000000000000 :=
  ⟨ctlOnly_ctlPut .., State.ctlPut_ctlGet_same ..⟩

/-- A write of MODID or PSTBASE by a port offers its fields the bits that it covers (R5). -/
theorem registerWrite_lock {s : State} {src : Writer} {off size : Nat} {v : Word64} {port : Bool} (p : writerPort src = some port)
    (sz : size = 4 ∨ size = 8) (al : off % size = 0) (h : off / 8 * 8 = Ctl.MODID ∨ off / 8 * 8 = Ctl.PSTBASE) :
    FieldsLocked s (s.registerWrite src off size v) (off / 8 * 8) (ctlLocks (off / 8 * 8)).length (s.writeImage off size v)
      fun i => writeCover off size &&& (ctlLocks (off / 8 * 8)).getD i 0 := by
  have place : ctlAssigned (off / 8 * 8) = true ∧ 0x1000 ≤ off / 8 * 8 ∧ off / 8 * 8 < 0x100000 ∧ s.writeDenied port (off / 8 * 8) = false := by
    rcases h with h | h <;> rw [h] <;> exact ⟨rfl, by decide, by decide, rfl⟩
  obtain ⟨as, lo, hi, free⟩ := place
  rw [registerWrite_port p sz al as lo hi, free, if_neg Bool.false_ne_true, ctlEffect_lock h]
  exact ctlLock_fields ..

/-- Settles O43, path by path of a write: ignored, denied, to fields that lock, to a route, to plain bits; then CSEM. -/
theorem registerWrites : Obligations.RegisterWrites := by
  unfold Obligations.RegisterWrites
  intro s src off size v port o code write owner from_ whole tie free granted denied
  have reached (f : from_) (w : whole) (fr : free) : exec write s = .next (s.ctlEffect port off v (writeCover off 8)) := by
    obtain ⟨rfl, al, as, hi, lo⟩ := w
    have nd : ¬ s.writeDenied port off = true := by
      rw [writeDenied_iff]
      rintro (⟨g, n⟩ | ⟨g, n⟩)
      · exact n (fr.1 g)
      · exact Bool.false_ne_true ((fr.2 g).symm.trans n)
    exact congrArg Host.Outcome.next ((registerWrite_whole (writerPort_of f) al as hi lo).trans (if_neg nd))
  have grant (prev : Nat) : granted (s.csemGrant port prev) prev :=
    ⟨csemGrant_ctlGet s port prev, fun x h => csemGrant_ctlGet_ne s port prev h, rfl⟩
  refine ⟨fun h => congrArg Host.Outcome.next (registerWrite_ignored h), ?_, ?_, ?_, ?_, ?_, ?_, ?_, ?_, ?_⟩
  · rintro f ⟨rfl, al, as, hi, lo⟩ d
    refine ⟨_, congrArg Host.Outcome.next ((registerWrite_whole (writerPort_of f) al as hi lo).trans (if_pos (writeDenied_iff.2 d))), ?_⟩
    exact lnFlag_denied s port
  · intro f sz al h
    have k := registerWrite_lock (s := s) (v := v) (writerPort_of f) sz al h
    refine ⟨_, rfl, k.others, k.rest, fun i m hm j hj => ?_, fun j hj => k.unfielded hj⟩
    obtain ⟨taken, locked⟩ := k.field hm hj
    simp only [← writeCover_and]
    refine ⟨taken.trans ?_, locked⟩
    split
    · next c =>
      rw [BitVec.getLsbD_and, Bool.and_eq_true] at c
      exact getLsbD_writeImage v sz al c.2.1
    · rfl
  · intro f w fr h
    refine ⟨_, (reached f w fr).trans (congrArg Host.Outcome.next (ctlEffect_route h)), ?_, ?_, ?_, ?_, ?_⟩
    · intro j lt
      rw [ctlGet_dropLost]
      exact ctlTakes_ctlStore s off v j lt
    · intro x n
      rw [ctlGet_dropLost]
      exact (ctlOnly_ctlPut s off _).others x (by simpa using n)
    · rw [dropLost_rest]; rfl
    · intro e
      rw [reaches_dropLost]
      exact mem_dropLost_owned
    · intro a
      exact mem_dropLost_wordPoison
  · intro f w fr h
    exact ⟨_, (reached f w fr).trans (congrArg Host.Outcome.next (ctlEffect_plain h)), ctlOnly_ctlPut .., ctlTakes_ctlStore s off v⟩
  · exact fun h => ⟨_, congrArg Host.Outcome.next (csemAcquire_free port h), grant _⟩
  · exact fun h n t => ⟨_, congrArg Host.Outcome.next (csemAcquire_tie h n t), grant _⟩
  · exact fun h d => congrArg Host.Outcome.next (csemAcquire_dropped h d)
  · exact fun h => ⟨_, congrArg Host.Outcome.next (if_pos h), State.ctlPut_ctlGet_same .., ctlOnly_ctlPut ..⟩
  · exact fun h => congrArg Host.Outcome.next (if_neg h)

end Sys2Proof.Machine
end

section
/-! PROOFS. CSRs as they are read and written by instructions (O5). -/

namespace Sys2Proof.Machine
open Sys2Proof

/-! ### Reading a CSR (R201) -/

/-- With no result in flight and no flag waiting in a queue, FFLAGS reads as it stands (R93). -/
theorem fflagsAt_quiet {k : Core} (w : k.windows = []) (q : ∀ n : QReg, ∀ e ∈ k.q n, e.flags = 0) (clk pick : Nat) :
    k.fflagsAt clk pick = k.csrGet Csr.FFLAGS := by
  have entries : ∀ e ∈ (List.range 64).flatMap fun n => vget [] k.regs.q n, e.flags = 0 := by
    intro e m
    obtain ⟨n, lt, m⟩ := List.mem_flatMap.1 m
    have small : n % 2 ^ 6 = n := Nat.mod_eq_of_lt (List.mem_range.1 lt)
    refine q (BitVec.ofNat 6 n) e ?_
    rwa [Core.q, BitVec.toNat_ofNat, small]
  unfold Core.fflagsAt
  simp only [w, List.length_nil, List.range_zero, List.foldl_nil]
  generalize (List.range 64).flatMap (fun n => vget [] k.regs.q n) = es at entries
  generalize pushed : List.foldl _ _ _ = x
  have unflagged : x = 0 := by
    rw [← pushed]
    refine foldl_keeps (P := fun f : Flags => f = 0) ?_ rfl _
    rintro _ i rfl
    cases h : es[i]? with
    | none => rfl
    | some e => simp [entries e (List.mem_of_getElem? h)]
  rw [unflagged]
  exact BitVec.or_zero

/-- With no image pending FMTN governs every bundle (R185). -/
theorem fmtImage_quiet {k : Core} (h : k.fmtPend = []) : k.fmtImage = k.csrGet Csr.FMTN := by
  unfold Core.fmtImage
  rw [h]
  exact ite_self _

/-- The CSRs whose image the machine keeps beside the stored ones. -/
def keptCsrs : List Nat := [Csr.BLKST, Csr.EFCAUSE, Csr.EFADDR, Csr.EFPC, Csr.BERTHST, Csr.PLANST, Csr.FRAME, Csr.AGE, Csr.CRDEPTH, Csr.CRCAUSE, Csr.CRADDR,
  Csr.CRPC, Csr.LCMAP]

/-- A CSR number of an instruction, by its value. -/
theorem toNat_mem_map {w : Nat} {n : BitVec w} {l : List (BitVec w)} : n.toNat ∈ l.map BitVec.toNat ↔ n ∈ l :=
  ⟨fun h => by
    obtain ⟨x, m, e⟩ := List.mem_map.1 h
    exact BitVec.eq_of_toNat_eq e ▸ m, List.mem_map_of_mem⟩

theorem mem_keptCsrs {n : BitVec 12} : n.toNat ∈ keptCsrs ↔
    n ∈ ([0x102, 0x103, 0x104, 0x105, 0x110, 0x119, 0x131, 0x132, 0x170, 0x171, 0x172, 0x173, 0x174] : List (BitVec 12)) :=
  toNat_mem_map (l := [0x102, 0x103, 0x104, 0x105, 0x110, 0x119, 0x131, 0x132, 0x170, 0x171, 0x172, 0x173, 0x174])

/-- Any other CSR reads as it is stored, when nothing of the core is in flight. -/
theorem csrRead_stored {s : State} (q : Quiet s) {n : Nat} (h : n ∉ keptCsrs) (pick : Nat) : s.csrRead s.turn n pick = (s.core s.turn).csrGet n := by
  simp only [keptCsrs, List.mem_cons, List.not_mem_nil, or_false, not_or] at h
  unfold State.csrRead
  simp only [h, if_false, fflagsAt_quiet q.landed q.flagless, fmtImage_quiet q.formats]
  split
  · next e => rw [e]
  · split
    · next e => rw [e]
    · rfl

/-- A slot of a CSR read is clear in a quiet state. -/
theorem slotCsrr_clear {s : State} (q : Quiet s) (g : Guard) (d : SReg) (n : BitVec 12) : (slotCsrr g d n).Clear s where
  queues := queuesReady_nil s
  check := rfl
  claims := by intro q m; cases m
  eats := eats_clean q.clean _
  wait := rfl

/-- CSRR is a scalar result (R201). -/
theorem csrr_done {s : State} {g : Guard} {n : BitVec 12} (i : Ready s g ∧ csrPrivRead n.toNat = false ∨ Tending s g) (d : SReg) :
    ∃ t pick, issueOne none (slotCsrr g d n) s = .next t ∧ ScalarDone s t [] d (s.csrRead s.turn n.toNat pick) 2 0 := by
  have q : Quiet s := i.elim (·.1.toQuiet) (·.toQuiet)
  obtain ⟨t, e, done⟩ := scalarDone_of (sl := slotCsrr g d n) (i.imp id (⟨·, .inl rfl, rfl⟩)) rfl (slotCsrr_clear q g d n) rfl
    (fun _ => rfl) (fun _ => rfl) (fun _ => rfl) rfl
  exact ⟨t, _, e, done⟩

/-! ### Writing a CSR (R5, R201) -/

/-- No field takes an image and clears by ones. -/
theorem csrW1c_mask (n : Nat) : csrW1c n &&& csrMask n = 0 := by
  unfold csrW1c
  split
  · next h => subst h; decide
  · exact BitVec.zero_and

/-- A presented image, field by field (R5). -/
theorem getLsbD_csrStore (k : Core) (n j : Nat) (v ones : Word64) : ((k.csrStore n v ones).csrGet n).getLsbD j =
    if (csrMask n).getLsbD j then v.getLsbD j
    else if (csrW1c n).getLsbD j then (k.csrGet n).getLsbD j && !ones.getLsbD j else (k.csrGet n).getLsbD j := by
  have apart : ((csrW1c n).getLsbD j && (csrMask n).getLsbD j) = false := by
    rw [← BitVec.getLsbD_and, csrW1c_mask]
    exact BitVec.getLsbD_zero
  unfold Core.csrStore
  rw [Core.csrPut_csrGet_same, BitVec.getLsbD_and, getLsbD_merge, BitVec.getLsbD_not, BitVec.getLsbD_and]
  by_cases lt : j < 64
  · cases m : (csrMask n).getLsbD j <;> cases w : (csrW1c n).getLsbD j <;> simp_all
  · simp [BitVec.getLsbD_of_ge _ j (Nat.le_of_not_lt lt)]

/-- A write of one CSR leaves everything else of the core. -/
theorem csrPut_kept (k : Core) (n : Nat) (v : Word64) : CoreKept k (k.csrPut n v) { csrs := [n] } where
  scalar _ _ := ⟨rfl, rfl⟩
  predicate _ _ := rfl
  descriptor _ _ := ⟨rfl, rfl⟩
  ring _ _ := rfl
  accumulator _ _ _ _ := ⟨rfl, rfl⟩
  semaphore _ _ := rfl
  queue _ _ := rfl
  cell _ _ := rfl
  csr _ m := Core.csrPut_csrGet_ne k v fun e => m (e ▸ List.mem_singleton_self _)
  scratch _ _ := rfl
  engines _ := ⟨rfl, rfl⟩
  matrix _ := ⟨rfl, rfl⟩
  blocks _ := rfl
  berth _ := ⟨rfl, rfl, rfl⟩
  notice _ := rfl
  regions _ := ⟨rfl, rfl, rfl, rfl⟩
  level _ := rfl
  task _ := rfl
  clock _ := rfl

/-- A CSR without writable fields, BFCAUSE among them, is as it was (R201). -/
theorem csrStore_breaks (k : Core) (n : Nat) (v ones : Word64) : (k.csrStore n v ones).csrGet Csr.BFCAUSE = k.csrGet Csr.BFCAUSE := by
  by_cases h : n = Csr.BFCAUSE
  · subst h
    have ro : csrMask Csr.BFCAUSE = 0#64 ∧ csrW1c Csr.BFCAUSE = 0#64 := ⟨rfl, rfl⟩
    apply BitVec.eq_of_getLsbD_eq
    intro j _
    simp [getLsbD_csrStore, ro]
  · exact Core.csrPut_csrGet_ne _ _ h

/-- The CSRs whose write is more than a store. -/
def actingCsrs : List Nat := [Csr.EFCAUSE, Csr.SPLIT, Csr.TCMP, Csr.PGREQ]

theorem csrWrite_store {s : State} {n : Nat} (h : n ∉ actingCsrs) (c : Nat) (v ones : Word64) :
    s.csrWrite c n v ones = s.onCore c fun k => k.csrStore n v ones := by
  simp only [actingCsrs, List.mem_cons, List.not_mem_nil, or_false, not_or] at h
  unfold State.csrWrite
  simp only [h, if_false]

theorem csrWriteSlot_clear {s : State} (q : Quiet s) (f : CsrForm) (g : Guard) {n : BitVec 12} (a : SReg) (h : n.toNat ∉ actingCsrs) :
    (csrWriteSlot f g n a).Clear s where
  queues := queuesReady_nil s
  check := rfl
  claims := by intro q m; cases m
  eats := eats_clean q.clean _
  wait := by
    simp only [actingCsrs, List.mem_cons, List.not_mem_nil, or_false, not_or] at h
    simp only [csrWriteSlot, h, if_false]

/-- CSRW, CSRS and CSRC store the image that they form, and do nothing else (R201). -/
theorem csrWrite_done {s : State} {g : Guard} {n : BitVec 12} (a : SReg) (f : CsrForm)
    (i : Ready s g ∧ csrPrivWrite n.toNat = false ∧ csrPrivRead n.toNat = false ∨ Tending s g) (h : n.toNat ∉ actingCsrs) (kept : n.toNat ∉ keptCsrs) :
    ∃ t, issueOne none (csrWriteSlot f g n a) s = .next t ∧ (t.core s.turn).csrGet n.toNat = ((s.core s.turn).csrStore n.toNat
      (f.image ((s.core s.turn).csrGet n.toNat) ((s.core s.turn).s a)) (f.ones ((s.core s.turn).s a))).csrGet n.toNat ∧
      Frame s t { csrs := [n.toNat] } := by
  have q : Quiet s := i.elim (·.1.toQuiet) (·.toQuiet)
  have image : (if n = 0x001 then (s.core s.turn).csrGet Csr.FFLAGS else s.csrRead s.turn n.toNat 0) = (s.core s.turn).csrGet n.toNat := by
    split
    · next e => rw [e]; rfl
    · exact csrRead_stored q kept 0
  have source : ((csrWriteSlot f g n a).alone s).sr a = (s.core s.turn).s a := Ctx.sr_landed q.landed a
  obtain ⟨t, e, cm, fr⟩ := coreSlot_done (sl := csrWriteSlot f g n a) (w := { csrs := [n.toNat] })
    (f := fun k => k.csrStore n.toNat (f.image ((s.core s.turn).csrGet n.toNat) ((s.core s.turn).s a)) (f.ones ((s.core s.turn).s a)))
    (i.imp (fun r => ⟨r.1, by simp [csrWriteSlot, r.2]⟩) (⟨·, .inl rfl, rfl⟩)) rfl (csrWriteSlot_clear q f g a h)
    (fun t => by rw [← image, ← source]; exact csrWrite_store h ..)
    (fun _ => rfl) (fun _ => rfl) rfl (csrPut_kept ..) (by simp) (q.plain rfl rfl rfl (csrStore_breaks ..) rfl) q.nodes rfl
  refine ⟨t, e, ?_, fr⟩
  rw [Core.csrGet, cm.alike.csr]
  rfl

/-- An assigned CSR is well formed in every instruction that names one (R201). -/
theorem exec_csrr (s : State) (g : Guard) (d : SReg) {n : BitVec 12} (h : csrAssigned n = true) : exec (.csrr g d n) s = issueOne none (slotCsrr g d n) s :=
  congrArg (issueOne · (slotCsrr g d n) s) (if_pos h)
theorem exec_csrw (s : State) (g : Guard) {n : BitVec 12} (a : SReg) (h : csrAssigned n = true) : exec (.csrw g n a) s = issueOne none (csrWriteSlot .w g n a) s :=
  congrArg (issueOne · (csrWriteSlot .w g n a) s) (if_pos h)
theorem exec_csrs (s : State) (g : Guard) {n : BitVec 12} (a : SReg) (h : csrAssigned n = true) : exec (.csrs g n a) s = issueOne none (csrWriteSlot .s g n a) s :=
  congrArg (issueOne · (csrWriteSlot .s g n a) s) (if_pos h)
theorem exec_csrc (s : State) (g : Guard) {n : BitVec 12} (a : SReg) (h : csrAssigned n = true) : exec (.csrc g n a) s = issueOne none (csrWriteSlot .c g n a) s :=
  congrArg (issueOne · (csrWriteSlot .c g n a) s) (if_pos h)

/-- The CSRs of which the statement on writes does not speak, by their values: those that the machine keeps and those whose write acts. -/
theorem mem_unstoredCsrs {n : BitVec 12} : n.toNat ∈ keptCsrs ++ [Csr.SPLIT, Csr.TCMP, Csr.PGREQ] ↔
    n ∈ ([0x102, 0x103, 0x104, 0x105, 0x110, 0x119, 0x131, 0x132, 0x170, 0x171, 0x172, 0x173, 0x174, 0x100, 0x130, 0x163] : List (BitVec 12)) :=
  toNat_mem_map (l := [0x102, 0x103, 0x104, 0x105, 0x110, 0x119, 0x131, 0x132, 0x170, 0x171, 0x172, 0x173, 0x174, 0x100, 0x130, 0x163])
theorem actingCsrs_unstored : ∀ n ∈ actingCsrs, n ∈ keptCsrs ++ [Csr.SPLIT, Csr.TCMP, Csr.PGREQ] := by decide

/-- Settles O5: CSRR is a scalar result, and a write stores its image field by field and commits. -/
theorem csrAccess : Obligations.CsrAccess := by
  unfold Obligations.CsrAccess
  constructor
  · intro s g n i form d c v
    have q : Quiet s := i.elim (·.1.toQuiet) (·.toQuiet)
    have assigned : csrAssigned n = true := Decidable.byContradiction fun h => nomatch (if_neg h).symm.trans form
    have read (pick : Nat) : s.csrRead s.turn n.toNat pick = v := by
      by_cases h : n.toNat ∈ keptCsrs
      · rw [mem_keptCsrs] at h
        simp only [List.mem_cons, List.not_mem_nil, or_false] at h
        rcases h with rfl | rfl | rfl | rfl | rfl | rfl | rfl | rfl | rfl | rfl | rfl | rfl | rfl <;>
          simp only [v, State.csrRead, Csr.FFLAGS, Csr.FMTN, Csr.BLKST, Csr.EFCAUSE, Csr.EFADDR, Csr.EFPC, Csr.BERTHST, Csr.PLANST, Csr.FRAME, Csr.AGE,
            Csr.CRDEPTH, Csr.CRCAUSE, Csr.CRADDR, Csr.CRPC, Csr.LCMAP, BitVec.reduceToNat, BitVec.reduceEq, Nat.reduceEqDiff, if_true, if_false] <;> rfl
      · rw [csrRead_stored q h]
        rw [mem_keptCsrs] at h
        simp only [List.mem_cons, List.not_mem_nil, or_false, not_or] at h
        simp only [v, h, if_false]
        rfl
    obtain ⟨t, pick, e, done⟩ := csrr_done i d
    exact ⟨t, (exec_csrr s g d assigned).trans e, read pick ▸ done⟩
  · intro s g n a i assigned other ins image ones old x m
    have quiet : n.toNat ∉ keptCsrs ∧ n.toNat ∉ actingCsrs :=
      ⟨fun h => other (mem_unstoredCsrs.1 (List.mem_append_left _ h)), fun h => other (mem_unstoredCsrs.1 (actingCsrs_unstored _ h))⟩
    have form (f : CsrForm) (e : image = f.image old x ∧ ones = f.ones x) :
        ∃ t, issueOne none (csrWriteSlot f g n a) s = .next t ∧ (∀ j, j < 64 → ((t.core s.turn).csrGet n.toNat).getLsbD j =
          (if (csrMask n.toNat).getLsbD j then image.getLsbD j
           else if (csrW1c n.toNat).getLsbD j then old.getLsbD j && !ones.getLsbD j else old.getLsbD j)) ∧
          Frame s t { csrs := [n.toNat] } := by
      obtain ⟨rfl, rfl⟩ := e
      obtain ⟨t, e, val, fr⟩ := csrWrite_done a f i quiet.2 quiet.1
      exact ⟨t, e, fun j _ => val ▸ getLsbD_csrStore .., fr⟩
    simp only [List.mem_cons, List.not_mem_nil, or_false, Prod.mk.injEq] at m
    rcases m with ⟨rfl, hi, ho⟩ | ⟨rfl, hi, ho⟩ | ⟨rfl, hi, ho⟩
    · exact exec_csrw s g a assigned ▸ form .w ⟨hi, ho⟩
    · exact exec_csrs s g a assigned ▸ form .s ⟨hi, ho⟩
    · exact exec_csrc s g a assigned ▸ form .c ⟨hi, ho⟩

end Sys2Proof.Machine
end

section
/-! PROOFS. The elements of a matrix pass: lanes of a row, and that what a pass computes fits its accumulator (O50). -/

namespace Sys2Proof.Machine
open Sys2Proof

/-! ### Lanes of a packed vector (R166) -/

/-- The bits of the lanes that are packed from a list of lane numbers. -/
theorem testBit_packLanes {w : Nat} (f : Nat → Nat) (l : List Nat) (j : Nat) {i : Nat} (h : i < w) :
    (l.foldr (fun j acc => (f j % 2 ^ w) <<< (w * j) ||| acc) 0).testBit (w * j + i) = (decide (j ∈ l) && (f j).testBit i) := by
  induction l with
  | nil => simp
  | cons x l ih =>
    rw [List.foldr_cons, Nat.testBit_or, ih, Nat.testBit_shiftLeft, Nat.testBit_mod_two_pow]
    rcases Nat.lt_trichotomy j x with lt | rfl | lt
    · have below : ¬ w * x ≤ w * j + i := by
        have := Nat.mul_le_mul_left w (Nat.succ_le_of_lt lt)
        rw [Nat.mul_succ] at this
        omega
      simp [below, Nat.ne_of_lt lt]
    · simp [h]
    · have above : ¬ w * j + i - w * x < w := by
        have := Nat.mul_le_mul_left w (Nat.succ_le_of_lt lt)
        rw [Nat.mul_succ] at this
        omega
      simp [above, Nat.ne_of_gt lt]

/-- A lane of a packed vector reads as the low bits of what was put there. -/
theorem laneOf_ofLanes (w n : Nat) (f : Nat → Nat) {j : Nat} (h : j < n) : laneOf w (ofLanes w n f) j = f j % 2 ^ w := by
  apply Nat.eq_of_testBit_eq
  intro i
  rw [laneOf, testBit_field, Nat.testBit_mod_two_pow]
  by_cases lt : i < w
  · rw [ofLanes, testBit_packLanes f _ j lt]; simp [h]
  · simp [lt]

/-- The same of a vector register, which holds all its lanes. -/
theorem laneOf_vector {w n m : Nat} (f : Nat → Nat) {j : Nat} (h : j < n) (fits : w * n ≤ m) :
    laneOf w (BitVec.ofNat m (ofLanes w n f)).toNat j = f j % 2 ^ w := by
  rw [← laneOf_ofLanes w n f h]
  apply Nat.eq_of_testBit_eq
  intro i
  simp only [laneOf, testBit_field, BitVec.toNat_ofNat, Nat.testBit_mod_two_pow]
  by_cases lt : i < w
  · have : w * j + i < m := by
      have := Nat.mul_le_mul_left w (Nat.succ_le_of_lt h)
      rw [Nat.mul_succ] at this
      omega
    simp [this]
  · simp [lt]

/-! ### An element of a pass fits its accumulator (R96 to R99) -/

section Accumulators

variable {f : Fmt} (acc : f = .f32 ∨ f = .f64) (n : Fmtn)
include acc

theorem encodeMag_lt {g : Grid} (hg : gridOf f = some g) (neg : Bool) {c : Nat} (h : c ≤ g.maxCode) : encodeMag f neg c < 2 ^ fmtWidth n f := by
  have sign : bit neg ≤ 1 := by cases neg <;> decide
  rcases acc with rfl | rfl <;> obtain rfl := Option.some.inj hg <;> simp only [encodeMag, fmtWidth] at h ⊢ <;> omega

theorem nanCode_lt : nanCode f < 2 ^ fmtWidth n f := by
  rcases acc with rfl | rfl <;> simp [nanCode, fmtWidth]

theorem infCode_lt {neg : Bool} {c : Nat} (h : infCode neg f = some c) : c < 2 ^ fmtWidth n f := by
  have sign : bit neg ≤ 1 := by cases neg <;> decide
  rcases acc with rfl | rfl <;> obtain rfl := Option.some.inj h <;> simp only [fmtWidth] <;> omega

theorem roundFloat_lt (mode : RM) (sat : Bool) (sd : Seed) (x : Exact) : (roundFloat f mode sat sd x).1 < 2 ^ fmtWidth n f := by
  obtain ⟨g, hg⟩ : ∃ g, gridOf f = some g := by rcases acc with rfl | rfl <;> exact ⟨_, rfl⟩
  have zero : 0 < 2 ^ fmtWidth n f := Nat.two_pow_pos _
  have last := encodeMag_lt acc n hg x.neg (Nat.le_refl _)
  have inf : (infCode x.neg f).getD (nanCode f) < 2 ^ fmtWidth n f := by
    cases h : infCode x.neg f with
    | none => exact nanCode_lt acc n
    | some c => exact infCode_lt acc n h
  unfold roundFloat
  split
  · rcases acc with h | h <;> exact nomatch h
  · rw [hg]
    dsimp only
    split
    · split
      · exact zero
      · split
        · exact zero
        · exact nanCode_lt acc n
    · split
      · exact encodeMag_lt acc n hg _ ‹_›
      · split
        · exact last
        · split
          · exact inf
          · exact last

theorem finish_lt (mode : RM) (sat : Bool) (sd : Seed) (r : Exactly) : (finish f mode sat sd r).1 < 2 ^ fmtWidth n f := by
  cases r with
  | nan fl => exact nanCode_lt acc n
  | inf neg fl =>
    simp only [finish]
    split
    · exact infCode_lt acc n ‹_›
    · exact nanCode_lt acc n
  | fin x => exact roundFloat_lt acc n mode sat sd x

theorem satFloat_lt {x : Nat} (h : x < 2 ^ fmtWidth n f) : (satFloat f x).1 < 2 ^ fmtWidth n f := by
  unfold satFloat
  split
  · exact encodeMag_lt acc n ‹_› _ (Nat.le_refl _)
  · exact h

theorem minMaxFloat_lt (m : Fmtn) (mx : Bool) {x y : Nat} (hx : x < 2 ^ fmtWidth n f) (hy : y < 2 ^ fmtWidth n f) :
    (minMaxFloat m f mx x y).1 < 2 ^ fmtWidth n f := by
  have pick (b : Bool) : (if b then y else x) < 2 ^ fmtWidth n f := by cases b <;> assumption
  unfold minMaxFloat
  dsimp only
  split
  · exact nanCode_lt acc n
  · exact hy
  · exact hx
  · split <;> exact pick _

theorem chainFloat_lt (sat : Bool) (code : Nat) {x : Nat} (a b : Val) (h : x < 2 ^ fmtWidth n f) :
    (chainFloat f sat code x a b).1 < 2 ^ fmtWidth n f := by
  have kept (r : Nat × Flags) (hr : r.1 < 2 ^ fmtWidth n f) :
      (if sat then ((satFloat f r.1).1, r.2 ||| (satFloat f r.1).2) else r).1 < 2 ^ fmtWidth n f := by
    split
    · exact satFloat_lt acc n hr
    · exact hr
  unfold chainFloat
  apply kept
  split
  · exact finish_lt acc n ..
  · exact finish_lt acc n ..
  · exact minMaxFloat_lt acc n _ _ h (finish_lt acc n ..)

end Accumulators

theorem wrap_lt (w : Nat) (v : Int) : wrap w v < 2 ^ w := by
  have pos : (0 : Int) < (2 ^ w : Nat) := by exact_mod_cast Nat.two_pow_pos w
  have lt := Int.emod_lt_of_pos v pos
  have nonneg := Int.emod_nonneg v (Int.ne_of_gt pos)
  unfold wrap
  omega

theorem toInt32_lt (sat : Bool) (i : Int) : (toInt32 sat i).1 < 2 ^ 32 := by
  cases sat <;> exact wrap_lt ..

theorem chainInt_lt (sat : Bool) (code x : Nat) (a b : Int) : (chainInt sat code x a b).1 < 2 ^ 32 := by
  unfold chainInt
  split <;> exact toInt32_lt ..

/-- The width of an accumulator element: 64 bits for f64, else 32 (R96). -/
theorem accWidth (n : Fmtn) (f : Fmt) : fmtWidth n (accFmt f) = if f = .f64 then 64 else 32 := by
  cases f <;> rfl

/-- A pass into a floating-point accumulator is in f32 or f64; every other one is in int32 (R96). -/
theorem accFmt_float {f : Fmt} (h : accFmt f ≠ .int32) : accFmt f = .f32 ∨ accFmt f = .f64 := by
  cases f <;> simp [accFmt] at h ⊢

/-- A pass turns an element that fits the accumulator into one that fits. -/
theorem passElement_lt (n : Fmtn) (f : Fmt) (seq : Nat) (sat : Bool) {c : Nat} (ra rb : Nat) (h : c < 2 ^ fmtWidth n (accFmt f)) :
    (passElement n f seq sat c ra rb).1 < 2 ^ fmtWidth n (accFmt f) := by
  unfold passElement
  by_cases int : accFmt f = .int32
  · rw [int] at h ⊢
    simp only [if_true]
    split
    · refine foldl_keeps (P := fun st : Nat × Flags => st.1 < 2 ^ 32) (fun st k _ => ?_) (b := (c, 0)) h _
      exact chainInt_lt ..
    · exact toInt32_lt ..
  · simp only [if_neg int]
    split
    · refine foldl_keeps (P := fun st : Nat × Flags => st.1 < 2 ^ fmtWidth n (accFmt f)) (fun st k hs => ?_) (b := (c, 0)) h _
      exact chainFloat_lt (accFmt_float int) n _ _ _ _ hs
    · exact finish_lt (accFmt_float int) n ..

/-- The bits of flags gathered over a list (R93). -/
theorem getLsbD_gatherFlags {α : Type} (g : α → Flags) (l : List α) (m : Nat) :
    (l.foldl (fun f x => f ||| g x) (0 : Flags)).getLsbD m = l.any fun x => (g x).getLsbD m := by
  have onto (f : Flags) : (l.foldl (fun f x => f ||| g x) f).getLsbD m = (f.getLsbD m || l.any fun x => (g x).getLsbD m) := by
    induction l generalizing f with
    | nil => simp
    | cons x l ih => rw [List.foldl_cons, ih, BitVec.getLsbD_or, List.any_cons, Bool.or_assoc]
  rw [onto 0, show (0 : Flags).getLsbD m = false from BitVec.getLsbD_zero, Bool.false_or]

end Sys2Proof.Machine
end

section
/-! PROOFS. What the updates of a core that an event makes leave as it was (O50). -/

namespace Sys2Proof.Machine
open Sys2Proof

/-! ### What an update of a core leaves as it was -/

theorem CoreKept.seq {k k' k'' : Core} {w : Writes} (h : CoreKept k k' w) (g : CoreKept k' k'' w) : CoreKept k k'' w :=
  h.trans g (fun _ m => m) (fun _ m => m) (fun _ m => m) (fun _ m => m) (fun _ m => m) (fun _ m => m) (fun _ m => m)

/-- A frame that names more registers, CSRs and parts. -/
theorem CoreKept.widen {k k' : Core} {v w : Writes} (h : CoreKept k k' v) (r : ∀ x ∈ v.regs, x ∈ w.regs) (cs : ∀ x ∈ v.csrs, x ∈ w.csrs)
    (pt : ∀ x ∈ v.parts, x ∈ w.parts) (se : v.sems = w.sems := by rfl) (q : v.queues = w.queues := by rfl) (ce : v.cells = w.cells := by rfl)
    (sp : v.spad = w.spad := by rfl) : CoreKept k k' w :=
  h.trans (CoreKept.refl k' w) (fun x m n => m (r x n)) (fun _ m => se ▸ m) (fun _ m => q ▸ m) (fun _ m => ce ▸ m) (fun x m n => m (cs x n))
    (fun _ m => sp ▸ m) (fun x m n => m (pt x n))

/-- Replacing a core and drawing free values changes that core alone. -/
theorem coreOnly_setCore {s : State} {c : Nat} {k : Core} {w : Writes} (h : CoreKept (s.core c) k w) (n : Nat) :
    CoreOnly s ((s.setCore c k).drew n) c w where
  core := by rw [State.drew_core, State.setCore_core_same]; exact h
  others _ ne := (State.drew_core ..).trans (State.setCore_core_ne _ _ ne)
  memory := ⟨rfl, rfl, rfl, rfl⟩
  module := ⟨rfl, rfl, rfl, rfl, rfl, rfl, rfl⟩

theorem orFlags_kept (k : Core) (f : Flags) {w : Writes} (h : Csr.FFLAGS ∈ w.csrs) : CoreKept k (k.orFlags f) w :=
  { CoreKept.refl k w with csr := fun n m => (csrPut_kept k Csr.FFLAGS _).csr n fun e => m (List.mem_singleton.mp e ▸ h) }

theorem passes_kept (k : Core) (ps : List Pass) (free : Nat) {w : Writes} (h : .matrix ∈ w.parts) :
    CoreKept k { k with passes := ps, matFree := free } w :=
  { CoreKept.refl k w with matrix := fun m => absurd h m }

theorem mstores_kept (k : Core) (ms : List MStore) {w : Writes} (h : .matrix ∈ w.parts) : CoreKept k { k with mstores := ms } w :=
  { CoreKept.refl k w with matrix := fun m => absurd h m }

theorem berth_kept (k : Core) (b : Berth) {w : Writes} (h : .berth ∈ w.parts) : CoreKept k { k with berth := b } w :=
  { CoreKept.refl k w with berth := fun m => absurd h m }

/-- An accumulator row that is named, or that takes the value it has. -/
theorem setRow_kept {k : Core} {a r : Nat} {v : Vec} {w : Writes} (lt : r < 64) (h : .c a ∈ w.regs ∨ v = k.row a r) :
    CoreKept k (k.setRow a r v) w :=
  { CoreKept.refl k w with
    accumulator := fun b t tl m => by
      refine ⟨?_, rfl⟩
      rw [Core.setRow_row]
      split
      · obtain ⟨rfl, rfl⟩ : a = b ∧ r = t := by omega
        exact h.resolve_left m
      · rfl }

@[simp] theorem orFlags_csrGet (k : Core) (f : Flags) : (k.orFlags f).csrGet Csr.FFLAGS = k.csrGet Csr.FFLAGS ||| f.zeroExtend 64 :=
  Core.csrPut_csrGet_same ..

end Sys2Proof.Machine
end

section
/-! PROOFS. The commit of a pass (O50). -/

namespace Sys2Proof.Machine
open Sys2Proof

/-! ### The commit of a pass (R224) -/

/-- Accumulator element (i, j) of a pass: of the pair for f64 (R96). -/
def Pass.element (p : Pass) (k : Core) (i j : Nat) : Nat :=
  if p.fmt = .f64 then laneOf 32 (k.row p.acc i).toNat j + laneOf 32 (k.row (p.acc + 1) i).toNat j * 2 ^ 32
  else laneOf 32 (k.row p.acc i).toNat j

/-- That element and its flags after pass `p` with B tile `b`. -/
def Pass.elementAfter (p : Pass) (b : List (BitVec 1024)) (k : Core) (i j : Nat) : Nat × Flags :=
  passElement (fmtnOf p.fmtn) p.fmt p.seq.toNat p.sat (p.element k i j) (p.a.getD i 0).toNat (b.getD j 0).toNat

theorem elementAfter_eq (p : Pass) (b : List (BitVec 1024)) (k : Core) (i : Nat) : p.elementAfter b k i = fun j =>
    passElement (fmtnOf p.fmtn) p.fmt p.seq.toNat p.sat (p.element k i j) (p.a.getD i 0).toNat (b.getD j 0).toNat := rfl

/-- The registers that a pass writes (R96). -/
def Pass.regs (p : Pass) : List RegName := .c p.acc :: (if p.fmt = .f64 then [.c (p.acc + 1)] else [])

/-- A pass that leaves no row undefined, in whose tiles no row is poisoned, and whose f64 accumulator is a pair. -/
structure Pass.Clean (p : Pass) : Prop where
  junk : p.junk = []
  a : p.aPoison = 0
  b : p.bPoison = false
  pair : p.fmt = .f64 → p.acc % 2 = 0

theorem laneOf_lt (w x j : Nat) : laneOf w x j < 2 ^ w := Nat.mod_lt _ (Nat.two_pow_pos w)

theorem element_lt (p : Pass) (k : Core) (i j : Nat) : p.element k i j < 2 ^ fmtWidth (fmtnOf p.fmtn) (accFmt p.fmt) := by
  have lo := laneOf_lt 32 (k.row p.acc i).toNat j
  have hi := laneOf_lt 32 (k.row (p.acc + 1) i).toNat j
  rw [accWidth, Pass.element]
  split <;> omega

theorem elementAfter_lt (p : Pass) (b : List (BitVec 1024)) (k : Core) (i j : Nat) :
    (p.elementAfter b k i j).1 < 2 ^ fmtWidth (fmtnOf p.fmtn) (accFmt p.fmt) :=
  passElement_lt _ _ _ _ _ _ (element_lt p k i j)

/-- Row `r` of the pair of a pass, as `k` holds it, after the pass, with its flags. -/
def Pass.rowAfter (p : Pass) (b : List (BitVec 1024)) (free : Nat) (k : Core) (r : Nat) : (Vec × Vec) × Flags :=
  p.applyRow b (pairOf p.acc) r free (k.row (pairOf p.acc) r, k.row (pairOf p.acc + 1) r)

theorem Pass.Clean.pairOf {p : Pass} (h : p.Clean) (f : p.fmt = .f64) : pairOf p.acc = p.acc := by
  have := h.pair f
  unfold Machine.pairOf
  omega

/-- An f64 row is packed in its pair, the low halves below. -/
theorem rowAfter_f64 {p : Pass} (h : p.Clean) (f : p.fmt = .f64) (b : List (BitVec 1024)) (free : Nat) (k : Core) (r : Nat) :
    p.rowAfter b free k r =
      ((BitVec.ofNat 2048 (ofLanes 32 64 fun j => (((List.range 64).map (p.elementAfter b k r)).getD j (0, 0)).1),
        BitVec.ofNat 2048 (ofLanes 32 64 fun j => (((List.range 64).map (p.elementAfter b k r)).getD j (0, 0)).1 / 2 ^ 32)),
        ((List.range 64).map (p.elementAfter b k r)).foldl (fun f x => f ||| x.2) 0) := by
  simp only [Pass.rowAfter, Pass.applyRow, elementAfter_eq, Pass.element, h.junk, h.pairOf f, f, if_true, List.not_mem_nil, if_false]

/-- Another row stands in its accumulator; the other one of the pair keeps its own. -/
theorem rowAfter_32 {p : Pass} (h : p.Clean) (f : p.fmt ≠ .f64) (b : List (BitVec 1024)) (free : Nat) (k : Core) (r : Nat) :
    let v := BitVec.ofNat 2048 (ofLanes 32 64 fun j => (((List.range 64).map (p.elementAfter b k r)).getD j (0, 0)).1)
    p.rowAfter b free k r = (if p.acc = pairOf p.acc then (v, k.row (pairOf p.acc + 1) r) else (k.row (pairOf p.acc) r, v),
      ((List.range 64).map (p.elementAfter b k r)).foldl (fun f x => f ||| x.2) 0) := by
  have other : p.acc ≠ pairOf p.acc → pairOf p.acc + 1 = p.acc := by unfold pairOf; omega
  have own : (if p.acc = pairOf p.acc then k.row (pairOf p.acc) r else k.row (pairOf p.acc + 1) r) = k.row p.acc r := by
    split
    · next e => rw [← e]
    · next e => rw [other e]
  simp only [Pass.rowAfter, Pass.applyRow, elementAfter_eq, Pass.element, h.junk, f, own, List.not_mem_nil, if_false]

/-- The elements of row `r` after the pass, read from the pair. -/
theorem element_rowAfter {p : Pass} (h : p.Clean) (b : List (BitVec 1024)) (free : Nat) (k k' : Core) {r j : Nat} (lt : j < 64)
    (lo : k'.row (pairOf p.acc) r = (p.rowAfter b free k r).1.1) (hi : k'.row (pairOf p.acc + 1) r = (p.rowAfter b free k r).1.2) :
    p.element k' r j = (p.elementAfter b k r j).1 := by
  have bound := elementAfter_lt p b k r j
  rw [accWidth] at bound
  have at_j : ((List.range 64).map (p.elementAfter b k r)).getD j (0, 0) = p.elementAfter b k r j := by
    simp [List.getD, lt]
  by_cases f : p.fmt = .f64
  · rw [rowAfter_f64 h f, h.pairOf f] at lo hi
    rw [if_pos f] at bound
    rw [Pass.element, if_pos f, lo, hi, laneOf_vector _ lt (by decide), laneOf_vector _ lt (by decide), at_j]
    omega
  · rw [rowAfter_32 h f] at lo hi
    have own : k'.row p.acc r = BitVec.ofNat 2048 (ofLanes 32 64 fun j => (((List.range 64).map (p.elementAfter b k r)).getD j (0, 0)).1) := by
      by_cases e : p.acc = pairOf p.acc
      · rw [e, lo, if_pos e]
      · rw [show p.acc = pairOf p.acc + 1 by unfold pairOf at e ⊢; omega, hi, if_neg e]
    rw [if_neg f] at bound
    rw [Pass.element, if_neg f, own, laneOf_vector _ lt (by decide), at_j, Nat.mod_eq_of_lt bound]

/-- The flags of row `r` are those of its elements. -/
theorem flags_rowAfter {p : Pass} (h : p.Clean) (b : List (BitVec 1024)) (free : Nat) (k : Core) (r m : Nat) :
    (p.rowAfter b free k r).2.getLsbD m = (List.range 64).any fun j => (p.elementAfter b k r j).2.getLsbD m := by
  have gathered : (p.rowAfter b free k r).2 = ((List.range 64).map (p.elementAfter b k r)).foldl (fun f x => f ||| x.2) 0 := by
    by_cases f : p.fmt = .f64
    · rw [rowAfter_f64 h f]
    · rw [rowAfter_32 h f]
  rw [gathered, getLsbD_gatherFlags, List.any_map]
  rfl

/-- One accumulator row of a pass's commit. -/
def Pass.commitRow (p : Pass) (b : List (BitVec 1024)) (free : Nat) (st : Core × Flags) (r : Nat) : Core × Flags :=
  let x := p.rowAfter b free st.1 r
  ((st.1.setRow (pairOf p.acc) r x.1.1).setRow (pairOf p.acc + 1) r x.1.2, st.2 ||| x.2)

/-- The commit of the first pass, where it poisons no row. -/
theorem commitAt_clean {s : State} {c : Nat} {p : Pass} {ps : List Pass} {b : List (BitVec 1024)} (hp : (s.core c).passes = p :: ps)
    (hb : p.b = some b) (h : p.Clean) :
    let st := (List.range 64).foldl (p.commitRow b s.free) (s.core c, 0)
    s.commitAt c 0 = (s.setCore c { (st.1.orFlags st.2) with passes := st.1.passes.eraseIdx 0 }).drew 1024 := by
  have clean (r : Nat) : p.rowBad r = false := by simp [Pass.rowBad, h.a, h.b]
  simp only [State.commitAt, hp, List.getElem?_cons_zero, hb, clean, Bool.false_and, Bool.false_eq_true, if_false]
  rfl

/-- After the first `n` rows of a pass's commit over core `k`: those rows are the pass's, the others are as they were, and so is
everything else but the flags, which are gathered. -/
structure RowsCommitted (p : Pass) (b : List (BitVec 1024)) (free : Nat) (k : Core) (n : Nat) (st : Core × Flags) : Prop where
  low : ∀ r, r < n → st.1.row (pairOf p.acc) r = (p.rowAfter b free k r).1.1
  high : ∀ r, r < n → st.1.row (pairOf p.acc + 1) r = (p.rowAfter b free k r).1.2
  rest : ∀ a r, n ≤ r → r < 64 → st.1.row a r = k.row a r
  flags : st.2 = (List.range n).foldl (fun f r => f ||| (p.rowAfter b free k r).2) 0
  kept : CoreKept k st.1 { regs := p.regs }

/-- A row of the pair that the pass does not write keeps its value. -/
theorem rowAfter_kept {p : Pass} (h : p.Clean) (b : List (BitVec 1024)) (free : Nat) (k : Core) (r : Nat) :
    (.c (pairOf p.acc) ∈ p.regs ∨ (p.rowAfter b free k r).1.1 = k.row (pairOf p.acc) r) ∧
    (.c (pairOf p.acc + 1) ∈ p.regs ∨ (p.rowAfter b free k r).1.2 = k.row (pairOf p.acc + 1) r) := by
  by_cases f : p.fmt = .f64
  · simp [Pass.regs, f, h.pairOf f]
  · rw [rowAfter_32 h f]
    by_cases e : p.acc = pairOf p.acc
    · simp [Pass.regs, f, ← e]
    · have : pairOf p.acc + 1 = p.acc := by unfold pairOf at e ⊢; omega
      simp [Pass.regs, f, this, e]

theorem RowsCommitted.next {p : Pass} (h : p.Clean) {b : List (BitVec 1024)} {free n : Nat} {k : Core} {st : Core × Flags}
    (hs : RowsCommitted p b free k n st) (lt : n < 64) : RowsCommitted p b free k (n + 1) (p.commitRow b free st n) := by
  have same : p.rowAfter b free st.1 n = p.rowAfter b free k n := by
    rw [Pass.rowAfter, hs.rest _ n (Nat.le_refl n) lt, hs.rest _ n (Nat.le_refl n) lt, ← Pass.rowAfter]
  have row (a r : Nat) (tl : r < 64) : (p.commitRow b free st n).1.row a r =
      if pairOf p.acc + 1 = a ∧ n = r then (p.rowAfter b free k n).1.2
      else if pairOf p.acc = a ∧ n = r then (p.rowAfter b free k n).1.1 else st.1.row a r := by
    have key (x : Nat) : 64 * x + n = 64 * a + r ↔ x = a ∧ n = r := by omega
    simp only [Pass.commitRow, Core.setRow_row, key, same]
  constructor
  case low =>
    intro r hr
    rw [row _ r (by omega), if_neg (by omega)]
    by_cases e : n = r
    · rw [if_pos ⟨rfl, e⟩, e]
    · rw [if_neg (by omega), hs.low r (by omega)]
  case high =>
    intro r hr
    rw [row _ r (by omega)]
    by_cases e : n = r
    · rw [if_pos ⟨rfl, e⟩, e]
    · rw [if_neg (by omega), if_neg (by omega), hs.high r (by omega)]
  case rest =>
    intro a r ge tl
    rw [row a r tl, if_neg (by omega), if_neg (by omega), hs.rest a r (by omega) tl]
  case flags => rw [List.range_succ, List.foldl_append, ← hs.flags, List.foldl_cons, List.foldl_nil, ← same]; rfl
  case kept =>
    obtain ⟨lo, hi⟩ := rowAfter_kept h b free st.1 n
    refine hs.kept.seq ((setRow_kept lt lo).seq (setRow_kept lt (hi.imp_right fun e => ?_)))
    rw [e, Core.setRow_row, if_neg (by omega)]

theorem rowsCommitted {p : Pass} (h : p.Clean) (b : List (BitVec 1024)) (free : Nat) (k : Core) {n : Nat} (le : n ≤ 64) :
    RowsCommitted p b free k n ((List.range n).foldl (p.commitRow b free) (k, 0)) := by
  induction n with
  | zero => exact ⟨fun _ lt => absurd lt (Nat.not_lt_zero _), fun _ lt => absurd lt (Nat.not_lt_zero _), fun _ _ _ _ => rfl, rfl, .refl k _⟩
  | succ n ih =>
    rw [List.range_succ, List.foldl_append]
    exact (ih (by omega)).next h (by omega)

/-- What the commit leaves, once its rows are done. -/
structure PassCommitted (p : Pass) (b : List (BitVec 1024)) (s t : State) (c : Nat) : Prop where
  passes : (t.core c).passes = []
  elements : ∀ i j, i < 64 → j < 64 → p.element (t.core c) i j = (p.elementAfter b (s.core c) i j).1
  flags : ∀ m, m < 8 → ((t.core c).csrGet Csr.FFLAGS).getLsbD m = (((s.core c).csrGet Csr.FFLAGS).getLsbD m ||
    (List.range 64).any fun i => (List.range 64).any fun j => (p.elementAfter b (s.core c) i j).2.getLsbD m)
  only : CoreOnly s t c { regs := p.regs, csrs := [Csr.FFLAGS], parts := [.matrix] }

theorem RowsCommitted.commits {s : State} {c free : Nat} {p : Pass} {b : List (BitVec 1024)} {st : Core × Flags} (h : p.Clean)
    (hp : (s.core c).passes = [p]) (done : RowsCommitted p b free (s.core c) 64 st) :
    PassCommitted p b s ((s.setCore c { (st.1.orFlags st.2) with passes := st.1.passes.eraseIdx 0 }).drew 1024) c := by
  have passes : st.1.passes = [p] := (done.kept.matrix (by simp)).1.trans hp
  have fflags (m : Nat) (lt : m < 8) : ((st.1.orFlags st.2).csrGet Csr.FFLAGS).getLsbD m =
      (((s.core c).csrGet Csr.FFLAGS).getLsbD m || st.2.getLsbD m) := by
    have short : m < 64 := by omega
    rw [orFlags_csrGet, done.kept.csr _ (by simp), BitVec.getLsbD_or]
    simp [short]
  have rows : CoreKept (s.core c) st.1 { regs := p.regs, csrs := [Csr.FFLAGS], parts := [.matrix] } :=
    done.kept.widen (fun _ m => m) (by simp) (by simp)
  have kept := (rows.seq (orFlags_kept st.1 st.2 (List.mem_singleton_self _))).seq
    (passes_kept (st.1.orFlags st.2) (st.1.passes.eraseIdx 0) st.1.matFree (List.mem_singleton_self _))
  constructor
  case passes => simp [passes]
  case elements =>
    intro i j hi hj
    rw [State.drew_core, State.setCore_core_same]
    exact element_rowAfter h b free (s.core c) _ hj (done.low i hi) (done.high i hi)
  case flags =>
    intro m hm
    rw [State.drew_core, State.setCore_core_same]
    refine (fflags m hm).trans ?_
    rw [done.flags, getLsbD_gatherFlags]
    simp only [flags_rowAfter h]
  case only => exact coreOnly_setCore kept 1024

/-- A started pass that stands alone commits every element with its flags (R96 to R101, R222, R224). -/
theorem passCommit_done {s : State} {c : Nat} {p : Pass} {b : List (BitVec 1024)} (hp : (s.core c).passes = [p]) (start : p.start.isSome = true)
    (hb : p.b = some b) (h : p.Clean) : PassCommitted p b s (s.passCommit c 0) c := by
  have may : (s.core c).mayCommit 0 = true := by simp [Core.mayCommit, hp, start, hb]
  rw [State.passCommit, if_pos may, commitAt_clean hp hb h]
  exact (rowsCommitted h b s.free (s.core c) (Nat.le_refl 64)).commits h hp

end Sys2Proof.Machine
end

section
/-! PROOFS. The start of an MPASSD and the writes of an MSTOREC (O50). -/

namespace Sys2Proof.Machine
open Sys2Proof

/-! ### Memory that nothing stands before (R112, R296, R304) -/

/-- No core owns a word away from its home, nothing in memory is lost or poisoned, and hardware keeps no page-state table. -/
structure State.Intact (s : State) : Prop where
  owned : s.owned = []
  words : s.wordPoison = []
  sectors : s.sectorPoison = []
  pages : bitAt (s.ctlGet Ctl.PSTBASE).toNat 0 = false

theorem bytes_append (s : State) (a m n : Nat) : s.bytes a (m + n) = s.bytes a m ++ s.bytes (a + m) n := by
  simp [State.bytes, List.range_add, Nat.add_assoc]

/-- Bytes read in pieces of one size. -/
theorem flatMap_bytes (s : State) (a n m : Nat) : ((List.range m).flatMap fun j => s.bytes (a + n * j) n) = s.bytes a (n * m) := by
  induction m with
  | zero => rfl
  | succ m ih => rw [List.range_succ, List.flatMap_append, ih, Nat.mul_succ, bytes_append]; simp

/-- With no word owned and no write in the history, an engine reads what stands in memory (R144, R297). -/
theorem engineRead_plain {s : State} (o : s.owned = []) (h : s.hist = []) (born a n pick : Nat) : s.engineRead born a n pick = s.bytes a n := by
  simp [State.engineRead, h, State.coreByte, o, Map.find]

/-- Such a read leaves nothing. -/
theorem engineLook_plain {s : State} (o : s.owned = []) (a n pick : Nat) : s.engineLook a n pick = s := by
  simp [State.engineLook, State.obtain, o]

/-! ### The start of an MPASSD (R222, R223) -/

theorem readTile_plain {s : State} (w : s.Intact) (h : s.hist = []) (p : Pass) :
    s.readTile p = ((List.range 64).map (fun i => BitVec.ofNat 1024 (s.natAt (p.bAt.getD i 0) 128)), false, none) := by
  have lost (a : Nat) : s.lostIn a 128 = false := by simp [State.lostIn, w.words]
  have sound (a : Nat) : s.poisoned a 128 = false := by simp [State.poisoned, w.sectors]
  simp [State.readTile, lost, sound, engineRead_plain w.owned h, flatMap_bytes, State.natAt]

theorem lookTile_plain {s : State} (o : s.owned = []) (p : Pass) : s.lookTile p = s :=
  foldl_keeps (P := fun t => t = s) (fun _ _ e => e ▸ engineLook_plain (e ▸ o) ..) rfl _

/-- A waiting MPASSD takes its tile and starts once the unit is free. -/
theorem mpassdStart_starts {s : State} {c : Nat} {p : Pass} (w : s.Intact) (h : s.hist = []) (hp : (s.core c).passes = [p]) (waits : p.start = none)
    (free : (s.core c).matFree ≤ s.clk) :
    let p' : Pass := { p with b := some ((List.range 64).map fun i => BitVec.ofNat 1024 (s.natAt (p.bAt.getD i 0) 128)), start := some s.clk }
    s.mpassdStart c =
      (s.setCore c { s.core c with passes := [p'], matFree := s.clk + passInterval (fmtnOf p.fmtn) p.fmt }).drew 1088 := by
  simp [State.mpassdStart, hp, waits, Nat.not_lt.mpr free, readTile_plain w h, lookTile_plain w.owned]

/-- What the start leaves: the pass with its tile, and the unit taken for the pass's interval. -/
theorem mpassdStart_done {s : State} {c : Nat} {p : Pass} (w : s.Intact) (h : s.hist = []) (hp : (s.core c).passes = [p]) (waits : p.start = none)
    (free : (s.core c).matFree ≤ s.clk) :
    let t := s.mpassdStart c
    (t.core c).passes = [{ p with b := some ((List.range 64).map fun i => BitVec.ofNat 1024 (s.natAt (p.bAt.getD i 0) 128)), start := some s.clk }] ∧
      (t.core c).matFree = s.clk + passInterval (fmtnOf p.fmtn) p.fmt ∧ CoreOnly s t c { parts := [.matrix] } := by
  dsimp only
  rw [mpassdStart_starts w h hp waits free]
  refine ⟨?_, ?_, coreOnly_setCore (passes_kept _ _ _ (by simp)) 1088⟩ <;> rw [State.drew_core, State.setCore_core_same]

/-- While the unit is busy no pass starts. -/
theorem mpassdStart_busy {s : State} {c : Nat} (busy : s.clk < (s.core c).matFree) : s.mpassdStart c = s := by
  unfold State.mpassdStart
  dsimp only
  split
  · rfl
  · rw [if_pos busy]

/-! ### Writes that reach memory (R112, R128, R227) -/

theorem Core.Alike.refl (k : Core) : k.Alike k :=
  ⟨rfl, rfl, ⟨rfl, rfl⟩, ⟨rfl, rfl⟩, ⟨rfl, rfl⟩, rfl, ⟨rfl, rfl, rfl⟩, rfl, ⟨rfl, rfl, rfl, rfl⟩, rfl, rfl, rfl⟩

theorem Core.Alike.trans {k k' k'' : Core} (h : k.Alike k') (g : k'.Alike k'') : k.Alike k'' where
  regs := g.regs.trans h.regs
  csr := g.csr.trans h.csr
  scratch := ⟨g.scratch.1.trans h.scratch.1, g.scratch.2.trans h.scratch.2⟩
  engines := ⟨g.engines.1.trans h.engines.1, g.engines.2.trans h.engines.2⟩
  matrix := ⟨g.matrix.1.trans h.matrix.1, g.matrix.2.trans h.matrix.2⟩
  blocks := g.blocks.trans h.blocks
  berth := ⟨g.berth.1.trans h.berth.1, g.berth.2.1.trans h.berth.2.1, g.berth.2.2.trans h.berth.2.2⟩
  notice := g.notice.trans h.notice
  regions := ⟨g.regions.1.trans h.regions.1, g.regions.2.1.trans h.regions.2.1, g.regions.2.2.1.trans h.regions.2.2.1,
    g.regions.2.2.2.trans h.regions.2.2.2⟩
  level := g.level.trans h.level
  task := g.task.trans h.task
  clock := g.clock.trans h.clock

/-- A table with its values changed under their keys. -/
theorem Map.find_mapValues {α β : Type} (f : Nat × α → β) (m : Map α) (k : Nat) :
    Map.find (m.map fun e => (e.1, f e)) k = (Map.find m k).map fun v => f (k, v) := by
  induction m with
  | nil => rfl
  | cons e m ih =>
    obtain ⟨a, b⟩ := e
    simp only [List.map_cons, Map.find, ih]
    split
    · next h => rw [h]; rfl
    · rfl

/-- From `s` to `t` memory and what cores hold of code have changed, and what no frame speaks of. -/
structure MemoryOnly (s t : State) : Prop where
  cores : ∀ d, (s.core d).Alike (t.core d)
  owned : t.owned = s.owned
  words : t.wordPoison = s.wordPoison
  sectors : t.sectorPoison = s.sectorPoison
  ctl : t.ctl = s.ctl

theorem MemoryOnly.refl (s : State) : MemoryOnly s s := ⟨fun _ => .refl _, rfl, rfl, rfl, rfl⟩

theorem MemoryOnly.trans {s t u : State} (h : MemoryOnly s t) (g : MemoryOnly t u) : MemoryOnly s u :=
  ⟨fun d => (h.cores d).trans (g.cores d), g.owned.trans h.owned, g.words.trans h.words, g.sectors.trans h.sectors, g.ctl.trans h.ctl⟩

theorem MemoryOnly.intact {s t : State} (h : MemoryOnly s t) (w : s.Intact) : t.Intact :=
  ⟨h.owned.trans w.owned, h.words.trans w.words, h.sectors.trans w.sectors, by rw [State.ctlGet, h.ctl]; exact w.pages⟩

/-- Dropping code leaves memory and all but what caches hold of code. -/
theorem codeWrite_only (s : State) (a n : Nat) : MemoryOnly s (s.codeWrite a n) ∧ (s.codeWrite a n).mem = s.mem := by
  unfold State.codeWrite
  dsimp only
  split
  · exact ⟨.refl s, rfl⟩
  · refine ⟨⟨fun d => ?_, rfl, rfl, rfl, rfl⟩, rfl⟩
    simp only [State.core, Map.get_eq_find, Map.find_mapValues]
    cases Map.find s.cores d with
    | none => exact .refl _
    | some k => exact ⟨rfl, rfl, ⟨rfl, rfl⟩, ⟨rfl, rfl⟩, ⟨rfl, rfl⟩, rfl, ⟨rfl, rfl, rfl⟩, rfl, ⟨rfl, rfl, rfl, rfl⟩, rfl, rfl, rfl⟩

/-- From `s` to `t` bytes `bs` have been stored from `a` on, and nothing else has. -/
structure Stored (s t : State) (a : Nat) (bs : List Byte) : Prop where
  only : MemoryOnly s t
  byte : ∀ y, t.byte y = if a ≤ y ∧ y < a + bs.length then bs.getD (y - a) 0 else s.byte y

theorem trackWrite_untracked {s : State} (w : s.Intact) (granule : Nat) : s.trackWrite granule = s := by
  simp [State.trackWrite, State.trackBegun, State.pageState, State.pageByte, w.pages]

theorem setBytes_stored {s t : State} (h : MemoryOnly s t) (m : t.mem = s.mem) (a : Nat) (bs : List Byte) : Stored s (t.setBytes a bs) a bs := by
  refine ⟨?_, fun y => ?_⟩
  · rw [State.setBytes_rest]
    exact ⟨h.cores, h.owned, h.words, h.sectors, h.ctl⟩
  · rw [State.byte_setBytes, State.byte, m, ← State.byte]

theorem homeStore_intact {s : State} (w : s.Intact) (who : WriteBy) (a : Nat) (bs : List Byte) :
    ∃ t, s.homeStore who a bs = (t, {}) ∧ Stored s t a bs := by
  obtain ⟨only, mem⟩ := codeWrite_only s a bs.length
  refine ⟨_, if_pos ⟨(only.intact w).words, (only.intact w).sectors⟩, ?_⟩
  apply setBytes_stored
  · exact ⟨only.cores, only.owned, only.words, only.sectors, only.ctl⟩
  · exact mem

/-- An engine's write to such memory stores its bytes and meets nothing. -/
theorem engineWrite_intact {s : State} (w : s.Intact) (who : WriteBy) (a : Nat) (bs : List Byte) :
    ∃ t, s.engineWrite who a bs = (t, {}) ∧ Stored s t a bs := by
  have owned : s.endOwnedIn a bs.length = s := by
    simp only [State.endOwnedIn, State.endOwned, w.owned, List.filter_nil, List.foldl_nil]
    rw [← w.owned]
  have tracked (l : List Nat) : l.foldl (fun s i => s.trackWrite (a / 65536 + i)) s = s :=
    foldl_keeps (P := fun t => t = s) (fun _ _ e => e ▸ trackWrite_untracked (e ▸ w) _) rfl l
  unfold State.engineWrite State.homeWrite
  rw [owned]
  dsimp only
  split
  · next e => exact ⟨s, rfl, .refl s, fun y => by rw [if_neg (by omega)]⟩
  · rw [tracked, ite_self]
    exact homeStore_intact w who a bs

/-! ### The writes of an MSTOREC (R227) -/

/-- One write of MSTOREC `m` of core `c`: its bytes, its poison, and what they met. -/
def MStore.perform (m : MStore) (c : Nat) (s : State) (x : (Nat × List Byte × Bool) × Nat) : State :=
  let r := s.engineWrite (.engine .matrix c none) x.1.1 x.1.2.1
  let s := if x.1.2.2 then r.1.poisonRange x.1.1 x.1.2.1.length else r.1
  s.report c (m.vas.getD x.2 m.va) m.pc x.1.1 r.2

theorem mstorecWritten_perform {s : State} {c : Nat} {m : MStore} {ms : List MStore} (h : (s.core c).mstores = m :: ms) (free : s.teller = none) :
    s.mstorecWritten c = (m.writes.zipIdx.foldl (m.perform c) s).onCore c fun k => { (k.orFlags m.flags) with mstores := ms } := by
  simp only [State.mstorecWritten, h]
  rw [if_neg (by simp [free])]
  rfl

/-- Write `w` covers address `y`. -/
def Covers (w : Nat × List Byte × Bool) (y : Nat) : Prop := w.1 ≤ y ∧ y < w.1 + w.2.1.length

/-- From `s` to `t` the writes `ws` have been stored in their order: a byte is the last one written there. -/
structure AllStored (s t : State) (ws : List (Nat × List Byte × Bool)) : Prop where
  only : MemoryOnly s t
  last : ∀ (i : Nat) (w : Nat × List Byte × Bool) (x : Nat), ws[i]? = some w → x < w.2.1.length →
    (∀ (j : Nat) (w' : Nat × List Byte × Bool), i < j → ws[j]? = some w' → ¬ Covers w' (w.1 + x)) → t.byte (w.1 + x) = w.2.1.getD x 0
  rest : ∀ y, (∀ w ∈ ws, ¬ Covers w y) → t.byte y = s.byte y

theorem AllStored.cons {s u t : State} {w : Nat × List Byte × Bool} {ws : List (Nat × List Byte × Bool)} (h : Stored s u w.1 w.2.1)
    (g : AllStored u t ws) : AllStored s t (w :: ws) where
  only := h.only.trans g.only
  last i v x at_i lt later := by
    cases i with
    | zero =>
      obtain rfl : w = v := by simpa using at_i
      have kept : t.byte (w.1 + x) = u.byte (w.1 + x) := g.rest _ fun v' mem => by
        obtain ⟨j, lt, rfl⟩ := List.getElem_of_mem mem
        exact later (j + 1) _ (by omega) (by simp)
      rw [kept, h.byte, if_pos (by omega), Nat.add_sub_cancel_left]
    | succ i => exact g.last i v x (by simpa using at_i) lt fun j v' lt' at_j => later (j + 1) v' (by omega) (by simpa using at_j)
  rest y out := by
    rw [g.rest y fun v mem => out v (List.mem_cons_of_mem _ mem), h.byte]
    exact if_neg (out w List.mem_cons_self)

/-- Writes that carry no poison, over memory that nothing stands before. -/
theorem perform_allStored {m : MStore} {c : Nat} {ws : List (Nat × List Byte × Bool)} (clean : ∀ w ∈ ws, w.2.2 = false) {s : State}
    (i : s.Intact) (n : Nat) : AllStored s ((ws.zipIdx n).foldl (m.perform c) s) ws := by
  induction ws generalizing s n with
  | nil => exact ⟨.refl s, by simp, fun _ _ => rfl⟩
  | cons w ws ih =>
    obtain ⟨u, write, stored⟩ := engineWrite_intact i (.engine .matrix c none) w.1 w.2.1
    have performed : m.perform c s (w, n) = u := by simp [MStore.perform, write, clean w List.mem_cons_self, State.report]
    rw [List.zipIdx_cons, List.foldl_cons, performed]
    exact .cons stored (ih (fun v mem => clean v (List.mem_cons_of_mem _ mem)) (stored.only.intact i) (n + 1))

/-- What MSTOREC `m` of core `c` leaves once its writes are performed: `ms` is what the core has yet to write. -/
structure RowsWritten (m : MStore) (ms : List MStore) (s t : State) (c : Nat) : Prop where
  stores : (t.core c).mstores = ms
  flags : (t.core c).csrGet Csr.FFLAGS = (s.core c).csrGet Csr.FFLAGS ||| m.flags.zeroExtend 64
  last : ∀ (i : Nat) (w : Nat × List Byte × Bool) (x : Nat), m.writes[i]? = some w → x < w.2.1.length →
    (∀ (j : Nat) (w' : Nat × List Byte × Bool), i < j → m.writes[j]? = some w' → ¬ Covers w' (w.1 + x)) → t.byte (w.1 + x) = w.2.1.getD x 0
  rest : ∀ y, (∀ w ∈ m.writes, ¬ Covers w y) → t.byte y = s.byte y
  core : CoreKept (s.core c) (t.core c) { csrs := [Csr.FFLAGS], parts := [.matrix] }
  others : ∀ d, d ≠ c → CoreKept (s.core d) (t.core d) {}

/-- The oldest MSTOREC's writes are performed in their order, and its flags reach FFLAGS. -/
theorem mstorecWritten_done {s : State} {c : Nat} {m : MStore} {ms : List MStore} (h : (s.core c).mstores = m :: ms) (free : s.teller = none)
    (i : s.Intact) (clean : ∀ w ∈ m.writes, w.2.2 = false) : RowsWritten m ms s (s.mstorecWritten c) c := by
  have stored := perform_allStored (m := m) (c := c) clean i 0
  have alike (d : Nat) (w : Writes) := (CoreKept.refl (s.core d) w).congr (stored.only.cores d)
  rw [mstorecWritten_perform h free]
  constructor
  case stores => rw [State.onCore_core_same]
  case flags =>
    rw [State.onCore_core_same]
    exact (orFlags_csrGet _ m.flags).trans (congrArg (· ||| _) ((alike c {}).csr Csr.FFLAGS (by simp)))
  case last => exact stored.last
  case rest => exact stored.rest
  case core =>
    rw [State.onCore_core_same]
    exact ((alike c _).seq (orFlags_kept _ m.flags (by simp))).seq (mstores_kept _ ms (by simp))
  case others =>
    intro d ne
    rw [State.onCore_core_ne _ _ ne]
    exact alike d {}

end Sys2Proof.Machine
end

section
/-! PROOFS. Demands that complete, breaks that are counted, and the statement on unit events (O50). -/

namespace Sys2Proof.Machine
open Sys2Proof

/-! ### Demands that complete (R239 to R241) -/

theorem setD_dpend (k : Core) (n r : DReg) (v : Desc) (m : Bool) :
    (k.setD n v m).regs.dpend.getLsbD r.toNat = if n = r then m else k.regs.dpend.getLsbD r.toNat := by
  have lt := r.isLt
  have bits : (k.setD n v m).regs.dpend.getLsbD r.toNat = (setField k.regs.dpend.toNat n.toNat 1 (bit m)).testBit r.toNat := by
    rw [Core.setD, BitVec.getLsbD_ofNat]
    simp only [show r.toNat < 32 by omega, decide_true, Bool.true_and]
  rw [bits, testBit_setField]
  by_cases e : n = r
  · rw [if_pos e, e, if_pos ⟨Nat.le_refl _, Nat.lt_succ_self _⟩, Nat.sub_self]
    cases m <;> rfl
  · rw [if_neg e, if_neg fun g => e (BitVec.eq_of_toNat_eq (by omega))]
    rfl

theorem setD_kept (k : Core) (n : DReg) (v : Desc) (m : Bool) {w : Writes} (h : .d n.toNat ∈ w.regs) : CoreKept k (k.setD n v m) w :=
  { CoreKept.refl k w with
    descriptor := fun r out => by
      have ne : n ≠ r := fun e => out (e ▸ h)
      exact ⟨Core.setD_d_ne k v m ne.symm, by rw [setD_dpend, if_neg ne]⟩ }

/-- Descriptor register `r` as the freeing of node `n` leaves it: MATERIAL where it named the node (R241). -/
def Core.freeReg (n : Nat) (k : Core) (r : DReg) : Core :=
  if pendingNode (k.d r) = some n then k.setD r (descMark (k.d r) 0 0) false else k

/-- The berth without node `n`, whose consumers' edges are MATERIAL. -/
def Berth.without (b : Berth) (n : Nat) : Berth :=
  { b with nodes := (Map.erase b.nodes n).map fun e => (e.1, { e.2 with a := materialise n e.2.a, b := materialise n e.2.b }) }

theorem find_without (b : Berth) (n m : Nat) : (Map.find (b.without n).nodes m).isSome = (decide (m ≠ n) && (Map.find b.nodes m).isSome) := by
  rw [Berth.without, Map.find_mapValues, Option.isSome_map, Map.find_erase]
  by_cases e : n = m
  · simp [e]
  · simp [e, Ne.symm e]

/-- Core `k'` is core `k` with the descriptor registers below `i` that named node `n` MATERIAL. -/
structure RegsFreed (n i : Nat) (k k' : Core) : Prop where
  value : ∀ r : DReg, k'.d r = if r.toNat < i ∧ pendingNode (k.d r) = some n then descMark (k.d r) 0 0 else k.d r
  pending : ∀ r : DReg, k'.regs.dpend.getLsbD r.toNat =
    (k.regs.dpend.getLsbD r.toNat && !decide (r.toNat < i ∧ pendingNode (k.d r) = some n))
  kept : CoreKept k k' { regs := (List.range 32).map .d }
  berth : k'.berth = k.berth

theorem RegsFreed.next {n i : Nat} {k k' : Core} (h : RegsFreed n i k k') (lt : i < 32) : RegsFreed n (i + 1) k (k'.freeReg n (BitVec.ofNat 5 i)) := by
  have num : (BitVec.ofNat 5 i).toNat = i := by simp [Nat.mod_eq_of_lt lt]
  have old : k'.d (BitVec.ofNat 5 i) = k.d (BitVec.ofNat 5 i) := by rw [h.value, if_neg (by omega)]
  have other (r : DReg) (ne : r ≠ BitVec.ofNat 5 i) : (r.toNat < i + 1 ↔ r.toNat < i) := by
    have : r.toNat ≠ i := fun e => ne (BitVec.eq_of_toNat_eq (e.trans num.symm))
    omega
  unfold Core.freeReg
  rw [old]
  by_cases named : pendingNode (k.d (BitVec.ofNat 5 i)) = some n
  · rw [if_pos named]
    refine ⟨fun r => ?_, fun r => ?_, h.kept.seq (setD_kept _ _ _ _ ?_), h.berth⟩
    · by_cases e : r = BitVec.ofNat 5 i
      · rw [e, Core.setD_d_same, if_pos ⟨by omega, named⟩]
      · rw [Core.setD_d_ne _ _ _ e, h.value]; simp only [other r e]
    · rw [setD_dpend]
      by_cases e : BitVec.ofNat 5 i = r
      · rw [if_pos e, ← e, num]; simp [named]
      · rw [if_neg e, h.pending]; simp only [other r (Ne.symm e)]
    · rw [num]; exact List.mem_map_of_mem (List.mem_range.mpr lt)
  · rw [if_neg named]
    have same (r : DReg) : (r.toNat < i + 1 ∧ pendingNode (k.d r) = some n) ↔ (r.toNat < i ∧ pendingNode (k.d r) = some n) := by
      by_cases e : r = BitVec.ofNat 5 i
      · rw [e]; simp [named]
      · rw [other r e]
    exact ⟨fun r => by rw [h.value]; simp only [same], fun r => by rw [h.pending]; simp only [same], h.kept, h.berth⟩

theorem regsFreed (n : Nat) (k : Core) {i : Nat} (le : i ≤ 32) :
    RegsFreed n i k ((List.range i).foldl (fun k i => k.freeReg n (BitVec.ofNat 5 i)) k) := by
  induction i with
  | zero => exact ⟨fun r => by simp, fun r => by simp, .refl k _, rfl⟩
  | succ i ih =>
    rw [List.range_succ, List.foldl_append]
    exact (ih (by omega)).next (by omega)

theorem freeDemanded_regs (n : Nat) (k : Core) : RegsFreed n 32 { k with berth := k.berth.without n } (k.freeDemanded n) :=
  regsFreed n _ (Nat.le_refl 32)

/-- A full demand by a FORCE, whose units met nothing, frees its node, leaves its flags, and stands as forced. -/
theorem completeDemand_forced {s : State} {c : Nat} {d : Demand} (h : (s.core c).berth.demand = some d) (breaks : d.breaks = [])
    (ate : d.ate = none) (lost : d.lost = none) (why : d.why = 0) (full : d.full = true) :
    let k := ((s.core c).orFlags d.flags).freeDemanded d.node
    ∃ handle, s.completeDemand c =
      s.setCore c { k with berth := { k.berth with demand := none, forced := (0, d.pc, handle) :: k.berth.forced } } := by
  intro k
  refine ⟨(d.entry.bind fun i => (Map.find k.berth.cache i).map (planHandle i)).getD 0, ?_⟩
  simp only [State.completeDemand, h, breaks, ate, lost, why, full, List.foldl_nil]
  rfl

/-- What the completion leaves of core `k`: the node is gone, descriptor registers that named it are MATERIAL, and the flags stand. -/
structure DemandFreed (k k' : Core) (d : Demand) : Prop where
  demand : k'.berth.demand = none
  gone : Map.find k'.berth.nodes d.node = none
  nodes : ∀ n, n ≠ d.node → (Map.find k'.berth.nodes n).isSome = (Map.find k.berth.nodes n).isSome
  forced : ∃ handle, k'.berth.forced = (0, d.pc, handle) :: k.berth.forced
  flags : k'.csrGet Csr.FFLAGS = k.csrGet Csr.FFLAGS ||| d.flags.zeroExtend 64
  value : ∀ r : DReg, k'.d r = if decide (pendingNode (k.d r) = some d.node) then descMark (k.d r) 0 0 else k.d r
  pending : ∀ r : DReg, k'.regs.dpend.getLsbD r.toNat = (k.regs.dpend.getLsbD r.toNat && !decide (pendingNode (k.d r) = some d.node))
  kept : CoreKept k k' { regs := (List.range 32).map .d, csrs := [Csr.FFLAGS], parts := [.berth] }

theorem freeDemanded_freed (k : Core) (d : Demand) (handle : BitVec 32) :
    let k' := (k.orFlags d.flags).freeDemanded d.node
    DemandFreed k { k' with berth := { k'.berth with demand := none, forced := (0, d.pc, handle) :: k'.berth.forced } } d := by
  have freed := freeDemanded_regs d.node (k.orFlags d.flags)
  dsimp only
  generalize (k.orFlags d.flags).freeDemanded d.node = k' at freed ⊢
  have nodes : k'.berth.nodes = (k.berth.without d.node).nodes := congrArg Berth.nodes freed.berth
  constructor
  case demand => rfl
  case gone => exact Option.isNone_iff_eq_none.mp (by rw [nodes, ← Option.not_isSome, find_without]; simp)
  case nodes => exact fun n ne => by rw [nodes, find_without]; simp [ne]
  case forced =>
    have forced : k'.berth.forced = k.berth.forced := by rw [freed.berth]; rfl
    exact ⟨handle, by rw [forced]⟩
  case flags => exact (freed.kept.csr Csr.FFLAGS (by simp)).trans (orFlags_csrGet k d.flags)
  case value =>
    intro r
    refine (freed.value r).trans ?_
    simp only [show r.toNat < 32 from r.isLt, true_and, decide_eq_true_eq]
    rfl
  case pending =>
    intro r
    refine (freed.pending r).trans ?_
    simp only [show r.toNat < 32 from r.isLt, true_and]
    rfl
  case kept =>
    have flags := (orFlags_kept k d.flags (w := { regs := (List.range 32).map .d, csrs := [Csr.FFLAGS], parts := [.berth] }) (by simp)).seq
      (berth_kept _ (k.berth.without d.node) (by simp))
    exact (flags.seq (freed.kept.widen (fun _ m => m) (by simp) (by simp))).seq (berth_kept _ _ (by simp))

/-! ### Breaks whose observation is counted (R258) -/

/-- The plan-cache entry of a demand. -/
def Demand.ran (d : Demand) (k : Core) (j : Nat) (e : PlanEntry) : Prop := d.entry = some j ∧ Map.find k.berth.cache j = some e

/-- An observation that does not differ counts for nothing. -/
theorem breakCase_near {k : Core} {d : Demand} {o : Nat × Bool × Nat × Bool} (near : k.breakDiffers o.1 o.2.1 o.2.2 = false) :
    k.breakCase d o = k := by
  simp only [Core.breakCase, near, Bool.false_eq_true, if_false]

/-- A count in the 16-bit field of PLANST from bit `p`, and entry `j` of the plan cache replaced. -/
def Core.counted (k : Core) (p j : Nat) (e : PlanEntry) : Core :=
  let st := (k.csrGet Csr.PLANST).toNat
  { (k.csrPut Csr.PLANST (BitVec.ofNat 64 (setField st p 16 (field st p 16 + 1)))) with
    berth := { k.berth with cache := Map.put k.berth.cache j e } }

/-- One that differs is counted as R258 has the Pilot act on it: 1 a pin overrides, 2 the later stages are planned anew. -/
theorem breakCase_far {k : Core} {d : Demand} {o : Nat × Bool × Nat × Bool} {j : Nat} {e : PlanEntry} (ran : d.ran k j e)
    (far : k.breakDiffers o.1 o.2.1 o.2.2 = true) :
    let act := k.breakAction e.pin (d.why ≤ 1) (if d.why ≤ 1 then k.csrGet Csr.PHWORD else 0)
    (act = 1 → k.breakCase d o = k.counted 32 j { e with ovr := true }) ∧ (act = 2 → k.breakCase d o = k.counted 48 j { e with rpl := true }) := by
  obtain ⟨entry, found⟩ := ran
  constructor <;> intro act <;> simp only [Core.breakCase, far, if_true, entry, found, Option.bind_some, Option.map_some, Option.any_some, act] <;> rfl

theorem plan_kept (k : Core) (v : Word64) (b : Berth) :
    CoreKept k { (k.csrPut Csr.PLANST v) with berth := b } { csrs := [Csr.PLANST], parts := [.berth] } := by
  have count : CoreKept k (k.csrPut Csr.PLANST v) { csrs := [Csr.PLANST], parts := [.berth] } :=
    (csrPut_kept k Csr.PLANST v).widen (by simp) (fun _ m => m) (by simp)
  exact count.seq (berth_kept _ b (by simp))

/-- The core once the first break of its demand has been observed. -/
def Core.observed (k : Core) (d : Demand) (os : List (Nat × Bool × Nat × Bool)) : Core :=
  { k with berth := { k.berth with demand := some { d with breaks := os } } }

theorem breakEvaluated_next {s : State} {c : Nat} {d : Demand} {o : Nat × Bool × Nat × Bool} {os : List (Nat × Bool × Nat × Bool)}
    (h : (s.core c).berth.demand = some d) (b : d.breaks = o :: os) :
    exec (.breakEvaluated c o.1 o.2.1) s = .next (s.setCore c (((s.core c).observed d os).breakCase d o)) := by
  show execBreakEvaluated c o.1 o.2.1 s = _
  simp only [execBreakEvaluated, h, b, decide_true, Bool.and_self, if_true]
  rfl

theorem breakEvaluated_other {s : State} {c x : Nat} {y : Bool} {d : Demand} {o : Nat × Bool × Nat × Bool} {os : List (Nat × Bool × Nat × Bool)}
    (h : (s.core c).berth.demand = some d) (b : d.breaks = o :: os) (ne : (x, y) ≠ (o.1, o.2.1)) : exec (.breakEvaluated c x y) s = .next s := by
  have unmet : ¬(decide (o.1 = x) && decide (o.2.1 = y)) = true := by
    rw [Bool.and_eq_true, decide_eq_true_eq, decide_eq_true_eq]
    exact fun ⟨ex, ey⟩ => ne (by rw [ex, ey])
  show execBreakEvaluated c x y s = _
  simp only [execBreakEvaluated, h, b, if_neg unmet]

/-- A counted break leaves a count in PLANST, a mark on its plan-cache entry, and the demand's other breaks. -/
theorem counted_done (s : State) (c : Nat) (d : Demand) (os : List (Nat × Bool × Nat × Bool)) (p j : Nat) (e : PlanEntry) :
    let t := s.setCore c (((s.core c).observed d os).counted p j e)
    let st := ((s.core c).csrGet Csr.PLANST).toNat
    (t.core c).csrGet Csr.PLANST = BitVec.ofNat 64 (setField st p 16 (field st p 16 + 1)) ∧
      (t.core c).berth.cache = Map.put (s.core c).berth.cache j e ∧ CoreOnly s t c { csrs := [Csr.PLANST], parts := [.berth] } := by
  dsimp only
  rw [State.setCore_core_same]
  exact ⟨Core.csrPut_csrGet_same .., rfl, coreOnly_setCore ((berth_kept _ _ (by simp)).seq (plan_kept ((s.core c).observed d os) _ _)) 0⟩

/-- A pin overrides a break of an explicit demand. -/
theorem breakAction_overrides (k : Core) (ph : Word64) : k.breakAction true true ph = 1 := rfl

/-- Else the later stages are planned anew, where REPLAN has that on and no hint holds the plan. -/
theorem breakAction_replans {k : Core} {pinned explicit : Bool} {ph : Word64} (free : (pinned && explicit) = false)
    (on : bitAt (k.csrGet Csr.REPLAN).toNat 31 = true) (loose : bitAt ph.toNat 4 = false) : k.breakAction pinned explicit ph = 2 := by
  simp [Core.breakAction, free, on, loose]

/-! ### The statement -/

/-- Settles O50: each event is the operation that its lemma describes, on a state in which nothing else stands in its way. -/
theorem unitEvents : Obligations.UnitEvents := by
  unfold Obligations.UnitEvents
  intro s c k at32 whole
  have intact : whole → s.Intact := fun ⟨owned, words, sectors, pages⟩ => ⟨owned, words, sectors, pages⟩
  refine ⟨fun p hp waits free hist w => ?mpassdStart, fun busy => congrArg Host.Outcome.next (mpassdStart_busy busy),
    fun p b hp start hb junk a bad pair => ?passCommit, fun no => congrArg Host.Outcome.next (if_neg (by simp [k, no])),
    fun m ms h free w clean => ?mstorec, fun d h breaks ate lost why full => ?demand, fun n other => congrArg Host.Outcome.next (if_neg ?otherNode),
    fun d density old finite was bs h breaks => ?breakEvaluated⟩
  case mpassdStart => exact ⟨_, rfl, mpassdStart_done (intact w) hist hp waits free⟩
  case passCommit =>
    have done := passCommit_done hp start hb ⟨junk, a, bad, pair⟩
    exact ⟨_, rfl, done.passes, done.elements, done.flags, done.only⟩
  case mstorec =>
    have done := mstorecWritten_done h free (intact w) clean
    exact ⟨_, rfl, done.stores, done.flags, done.last, done.rest, done.core, done.others⟩
  case demand =>
    obtain ⟨handle, e⟩ := completeDemand_forced h breaks ate lost why full
    have freed := freeDemanded_freed k d handle
    have own : (k.berth.demand.any fun x => x.node = d.node) = true := by simp [h]
    refine ⟨_, congrArg Host.Outcome.next ((if_pos own).trans e), ?_⟩
    rw [State.setCore_core_same]
    exact ⟨freed.demand, freed.gone, freed.nodes, freed.forced, freed.flags, fun r => ⟨freed.value r, freed.pending r⟩, coreOnly_setCore freed.kept 0⟩
  case otherNode =>
    rw [Option.any_eq_true]
    exact fun ⟨d, h, e⟩ => other d h (of_decide_eq_true e)
  case breakEvaluated =>
    have next := breakEvaluated_next h breaks
    have near := @breakCase_near ((s.core c).observed d bs) d (density, finite, old, was)
    have far := @breakCase_far ((s.core c).observed d bs) d (density, finite, old, was)
    refine ⟨fun x y ne => breakEvaluated_other h breaks ne, fun same => next.trans (by rw [near same]; rfl), fun differs explicit j e ran pin => ?_,
      fun differs j e ran free on hold => ?_⟩
    · have act : ((s.core c).observed d bs).breakAction e.pin (d.why ≤ 1) (if d.why ≤ 1 then k.csrGet Csr.PHWORD else 0) = 1 := by
        rw [pin, decide_eq_true explicit]
        exact breakAction_overrides ..
      exact ⟨_, next.trans (by rw [(far ran differs).1 act]), counted_done s c d bs 32 j _⟩
    · have act : ((s.core c).observed d bs).breakAction e.pin (d.why ≤ 1) (if d.why ≤ 1 then k.csrGet Csr.PHWORD else 0) = 2 := by
        refine breakAction_replans ?_ on ?_
        · rcases free with h | h <;> simp [h]
        · split
          · exact hold ‹_›
          · rfl
      exact ⟨_, next.trans (by rw [(far ran differs).2 act]), counted_done s c d bs 48 j _⟩

end Sys2Proof.Machine
end
